-- ==== Sys2Proof/Word.lean ====
section
/-! DEFINITION. The bit-vector words of the part: bytes, tags, serials and the time base. -/

namespace Sys2Proof

/-- One byte on either link (10, R184). -/
abbrev Byte := BitVec 8

/-- A 16-bit field: request tag, handover number, boot count (10, R187). -/
abbrev Word16 := BitVec 16

/-- A 32-bit field: bin tag, time in ms, time base value (10, R187). -/
abbrev Word32 := BitVec 32

/-- The label value of a bin; 0 means no tag (00, 0.5). -/
abbrev BinTag := BitVec 32

/-- The identity of a robot (05, 5.1). -/
abbrev Serial := BitVec 48

end Sys2Proof
end

