-- ==== Sys2Proof/Config.lean ====
section
/-! DEFINITION. Sizes the manual fixes and the free values it leaves open. -/

namespace Sys2Proof.Config

/-- Physical columns (01, R1). -/
def columnCount : Nat := 96
/-- Exchange points (01, R16). -/
def xpCount : Nat := 80
/-- Lock groups (01, R8). -/
def groupCount : Nat := 12
/-- Handover records (02, R25). -/
def handoverCap : Nat := 192
/-- Robot records (05, R106). -/
def rosterCap : Nat := 48
/-- Requests in one wait list (03, R57). -/
def waitCap : Nat := 8
/-- Entries of the control receive buffer (10, R188). -/
def receiveCap : Nat := 4
/-- Entries of the overflow list (10, R189). -/
def overflowCap : Nat := 4
/-- Notices in the notice queue (10, R191). -/
def noticeCap : Nat := 32
/-- Frames in the fleet transmit queue (10, R195). -/
def fleetCap : Nat := 64
/-- Records in one LIST_HANDOVERS reply (02, R41). -/
def listCap : Nat := 16
/-- Columns named in one NEEDS_RECONCILE reply (07, R152). -/
def frozenListCap : Nat := 16

/-- For how many ms a level of a filtered line is steady before it is taken (10, R196). -/
def filterMs : Nat := 2
/-- For how many ms the next byte of a frame may stay away (10, R185). -/
def frameGapMs : Nat := 20

/-- Free value (log 4): does a RESET pulse shorter than 1 ms reset the part? R196 allows both. -/
opaque shortResetTaken : Nat → Bool

/-- Free value (log 3): the place at which an expiry is put among the `n` later ones of its
millisecond, taken modulo `n + 1`; the first argument numbers the choice. -/
opaque expiryPlace : Nat → Nat → Nat

/-- Free value (log 5): is a selector byte beyond its alternatives BAD_BODY (true) or
OUT_OF_RANGE (false)? R187 names neither case. -/
opaque badSelectorIsBadBody : Byte → Bool

end Sys2Proof.Config
end

