-- ==== Sys2Proof/Syntax.lean ====
section
/-! DEFINITION. The commands of the part: one constructor of `Instr` for each row of
spec/opcode_table.json. A request carries its tag and body bytes, a robot frame its address and
body bytes (10, 10.2); R187's decoding of the bytes is part of the meaning. -/

namespace Sys2Proof

/-- A zone mode, which is also a level on a ZONE_MODE or ZONE_ACK pair: OPEN 0, DRAIN 1,
SERVICE 2, CLOSED 3 (00, 0.6; 08, R156). -/
inductive Mode where
  | openMode | drain | service | closed
  deriving DecidableEq, Repr

/-- One value for each of the four zones. -/
structure Quad (α : Type) where
  z0 : α
  z1 : α
  z2 : α
  z3 : α
  deriving DecidableEq, Repr

/-- The same value in all four zones. -/
def Quad.same {α : Type} (a : α) : Quad α := ⟨a, a, a, a⟩

/-- The two serial links (10, R184). -/
inductive LinkId where
  | control | fleet
  deriving DecidableEq, Repr

/-- Why a control frame is discarded unanswered at its arrival (10, R185). -/
inductive ControlDiscard where
  | badLength | badCrc | tagZero
  deriving DecidableEq, Repr

/-- Why a fleet frame is discarded unanswered at its arrival (10, R185, R194). -/
inductive FleetDiscard where
  | badLength | badCrc | addressZero | notEnrolled | badAnnounce
  deriving DecidableEq, Repr

/-- What causes a hardware reset (09, R183; 10, R196): power-on, RESET low for at least 1 ms, or a
shorter low pulse, which may or may not reset the part. -/
inductive ResetCause where
  | powerOn | resetLow | shortPulse
  deriving DecidableEq, Repr

/-- The input levels as a hardware reset ends: RATE1, RATE0 (R184), GRID_HOLD (R173) and the
ZONE_ACK pairs (R156). -/
structure PinLevels where
  rate1 : Bool
  rate0 : Bool
  gridHold : Bool
  ack : Quad Mode
  deriving DecidableEq, Repr

/-- The commands, one constructor per row of spec/opcode_table.json. -/
inductive Instr where
  -- host requests: request tag and body bytes
  | setParameters (tag : Word16) (body : List Byte)
  | defineColumn (tag : Word16) (body : List Byte)
  | mapXp (tag : Word16) (body : List Byte)
  | commit (tag : Word16) (body : List Byte)
  | resetSection (tag : Word16) (body : List Byte)
  | admitRobot (tag : Word16) (body : List Byte)
  | dismiss (tag : Word16) (body : List Byte)
  | queryRobot (tag : Word16) (body : List Byte)
  | openHandover (tag : Word16) (body : List Byte)
  | assignTaker (tag : Word16) (body : List Byte)
  | cancelHandover (tag : Word16) (body : List Byte)
  | releaseTracking (tag : Word16) (body : List Byte)
  | queryHandover (tag : Word16) (body : List Byte)
  | listHandovers (tag : Word16) (body : List Byte)
  | lockGroup (tag : Word16) (body : List Byte)
  | unlockGroup (tag : Word16) (body : List Byte)
  | retireColumn (tag : Word16) (body : List Byte)
  | reconcileColumn (tag : Word16) (body : List Byte)
  | releaseFreeze (tag : Word16) (body : List Byte)
  | queryColumn (tag : Word16) (body : List Byte)
  | queryXp (tag : Word16) (body : List Byte)
  | modeRequest (tag : Word16) (body : List Byte)
  | modeCancel (tag : Word16) (body : List Byte)
  | queryZones (tag : Word16) (body : List Byte)
  | status (tag : Word16) (body : List Byte)
  -- control link events
  | requestRejected (kind : Byte) (tag : Word16) (body : List Byte)
  | requestOverflow (kind : Byte) (tag : Word16)
  | controlFrameDiscard (cause : ControlDiscard)
  | frameTimeout (link : LinkId)
  | controlFrameSent
  -- fleet link events
  | fleetFrameDiscard (cause : FleetDiscard)
  | fleetUnknownKind (addr kind : Byte)
  | fleetFrameSent
  -- robot frames: address and body bytes
  | announce (addr : Byte) (body : List Byte)
  | ready (addr : Byte) (body : List Byte)
  | loadReport (addr : Byte) (body : List Byte)
  | dropOff (addr : Byte) (body : List Byte)
  | grantReq (addr : Byte) (body : List Byte)
  | withdraw (addr : Byte) (body : List Byte)
  | release (addr : Byte) (body : List Byte)
  | opStart (addr : Byte) (body : List Byte)
  | opEnd (addr : Byte) (body : List Byte)
  | faultReport (addr : Byte) (body : List Byte)
  -- timers that run out
  | stageExpired (number : Nat)
  | relocationOverdue (number : Nat)
  | collectExpired (number : Nat)
  | holdLimitExpiry (column : Nat)
  | releaseGraceExpiry (column : Nat)
  | operationLimitExpiry (column : Nat)
  | readyLimitExpiry (address : Nat)
  | auditTick
  | callLimitExpiry
  -- pins
  | zoneAckChange (zone : Fin 4) (level : Mode)
  | interlockLimitExpiry
  | gridHoldAsserted
  | gridHoldReleased
  | hardwareReset (cause : ResetCause) (pins : PinLevels)
  deriving DecidableEq, Repr

end Sys2Proof
end

