-- ==== Sys2Proof/WellFormed.lean ====
section
/-! DEFINITION. Which commands the outside can send: a check on the command alone. -/

namespace Sys2Proof

/-- The longest body of a control frame: length 512 less kind and tag (10, 10.2). -/
def maxControlBody : Nat := 509
/-- The longest body of a fleet frame: length 48 less address and kind (10, 10.2). -/
def maxFleetBody : Nat := 46

/-- A good control frame's tag is not 0 and its body fits the frame (10, R185). -/
def requestWf (tag : Word16) (body : List Byte) : Bool :=
  tag != 0 && body.length ≤ maxControlBody

/-- A good fleet frame's body fits the frame (10, 10.2). -/
def frameWf (body : List Byte) : Bool := body.length ≤ maxFleetBody

/-- A kind of the host request catalogue, 1 to 25 (10, 10.9). -/
def isRequestKind (k : Byte) : Bool := 1 ≤ k.toNat && k.toNat ≤ 25

/-- A robot-to-part kind, 1 to 10 (10, 10.9). -/
def isRobotKind (k : Byte) : Bool := 1 ≤ k.toNat && k.toNat ≤ 10

/-- The commands the outside can send. -/
def Instr.wellFormed : Instr → Bool
  | .setParameters t b | .defineColumn t b | .mapXp t b | .commit t b | .resetSection t b
  | .admitRobot t b | .dismiss t b | .queryRobot t b | .openHandover t b | .assignTaker t b
  | .cancelHandover t b | .releaseTracking t b | .queryHandover t b | .listHandovers t b
  | .lockGroup t b | .unlockGroup t b | .retireColumn t b | .reconcileColumn t b
  | .releaseFreeze t b | .queryColumn t b | .queryXp t b | .modeRequest t b | .modeCancel t b
  | .queryZones t b | .status t b => requestWf t b
  | .requestRejected k t b => requestWf t b && !isRequestKind k
  | .requestOverflow _ t => t != 0
  | .controlFrameDiscard _ | .frameTimeout _ | .controlFrameSent | .fleetFrameDiscard _
  | .fleetFrameSent => true
  | .fleetUnknownKind _ k => !isRobotKind k
  | .announce _ b | .ready _ b | .loadReport _ b | .dropOff _ b | .grantReq _ b | .withdraw _ b
  | .release _ b | .opStart _ b | .opEnd _ b | .faultReport _ b => frameWf b
  | .stageExpired n | .relocationOverdue n | .collectExpired n => 1 ≤ n && n ≤ 65535
  | .holdLimitExpiry c | .releaseGraceExpiry c | .operationLimitExpiry c =>
    c < Config.columnCount
  | .readyLimitExpiry a => 1 ≤ a && a ≤ Config.rosterCap
  | .auditTick | .callLimitExpiry | .interlockLimitExpiry | .gridHoldAsserted
  | .gridHoldReleased => true
  | .zoneAckChange _ _ | .hardwareReset _ _ => true

end Sys2Proof
end

