-- ==== Sys2Proof/Decode.lean ====
section
/-! DEFINITION. The command a word of the opcode table spells. No row of spec/opcode_table.json
gives bits, so no word spells a command. The bytes of frames are decoded in Machine/Operands.lean
and Machine/FrontEnd.lean. -/

namespace Sys2Proof

/-- The command that a word spells by the table's bits: none of the rows has bits. -/
def decodeTableWord (_nbits _w : Nat) : Option Instr := none

end Sys2Proof
end

