-- ==== Sys2Proof/Machine/Types.lean ====
section
/-! DEFINITION. The records the blocks of the part hold, with the manual's names for their
fields. Only data: what the fields mean is said at the operations that read and write them. -/

namespace Sys2Proof.Machine

/-- The section state (09, R174). -/
inductive SectionState where
  | unconfigured | running
  deriving DecidableEq, Repr

/-- The parameter set (09, R175): seconds but for the interlock limit, which is in ms. -/
structure Params where
  stageLimit : Nat
  collectLimit : Nat
  holdLimit : Nat
  releaseGrace : Nat
  operationLimit : Nat
  readyLimit : Nat
  auditPeriod : Nat
  callLimit : Nat
  interlockLimit : Nat
  faultThreshold : Nat
  acceptedClasses : BitVec 8
  minLevel : Nat
  deriving DecidableEq, Repr

/-- The definition fields of a column (01, R2). -/
structure Defn where
  x : Nat
  y : Nat
  zone : Nat
  group : Nat
  capacity : Nat
  settle : Nat
  deriving DecidableEq, Repr

/-- A stack entry (01, R3). -/
inductive Entry where
  | tracked (number : Nat)
  | foreign (tag : BinTag)
  deriving DecidableEq, Repr

/-- Grant classes, highest first (00, 0.6). -/
inductive Cls where
  | service | recovery | audit | transfer
  deriving DecidableEq, Repr

/-- Why a holder is asked to leave (03, R56). -/
inductive RevokeCause where
  | outranked | holdLimit | zoneMode
  deriving DecidableEq, Repr

/-- A grant record (03, R56). -/
structure Grant where
  robot : Nat
  cls : Cls
  holdLimit : Option Nat
  revoke : Option RevokeCause
  grace : Option Nat
  deriving DecidableEq, Repr

/-- A request in a wait list (03, R57). -/
structure WaitReq where
  robot : Nat
  cls : Cls
  deriving DecidableEq, Repr

/-- Operation kinds (04, R79). -/
inductive OpKind where
  | set | lift | swap | scan
  deriving DecidableEq, Repr

/-- The set half of an operation (04, R79). -/
inductive SetHalf where
  | reserved (number : Nat)
  | relocation (number : Nat)
  | untracked (tag : BinTag)
  deriving DecidableEq, Repr

/-- The lift half of an operation (04, R79). -/
inductive LiftHalf where
  | taker (number : Nat)
  | relocation (number : Nat)
  | foreign (tag : BinTag)
  deriving DecidableEq, Repr

/-- The seven handover states (02, 2.2). -/
inductive HandoverState where
  | openState | setting | staged | lifting | carried | parked | unlocated
  deriving DecidableEq, Repr

/-- An operation record (04, R79). -/
structure Operation where
  kind : OpKind
  robot : Nat
  setHalf : Option SetHalf
  liftHalf : Option LiftHalf
  priors : List (Nat × HandoverState)
  inboundTaken : Bool
  startedAt : Word32
  limit : Nat
  deriving DecidableEq, Repr

/-- Fault kinds of FAULT_REPORT (01, R10). -/
inductive FaultKind where
  | jam | misalign | sensor
  deriving DecidableEq, Repr

/-- The last fault of a column: a report's kind, or OP_FAILED with the operation kind; each with
the robot's address (01, R10, R11). -/
inductive LastFault where
  | report (kind : FaultKind) (robot : Nat)
  | opFailed (kind : OpKind) (robot : Nat)
  deriving DecidableEq, Repr

/-- The set of freeze causes of a column (01, R7). -/
structure Causes where
  discrepancy : Bool
  suspect : Bool
  zone : Bool
  deriving DecidableEq, Repr

/-- A column's audit standing (06, R125). -/
inductive Verification where
  | fresh | due | unverified
  deriving DecidableEq, Repr

/-- The last settle mark (04, R82): when it was written, and how much of the settle time has not
yet passed since. A mark with nothing left counts as settled whatever the time base shows. -/
structure SettleMark where
  at_ : Word32
  left : Nat
  deriving DecidableEq, Repr

/-- A column record (01, 1.1) with its grant, wait list and operation (03, R56, R57; 04, R79). -/
structure Column where
  defn : Option Defn
  stack : List Entry
  inbound : Bool
  retired : Bool
  faultCount : Nat
  lastFault : Option LastFault
  causes : Causes
  verification : Verification
  seen : Bool
  settleMark : Option SettleMark
  grant : Option Grant
  waits : List WaitReq
  op : Option Operation
  deriving DecidableEq, Repr

/-- A mapped entry of the exchange point map (01, R16). -/
structure XpEntry where
  column : Nat
  remapPending : Bool
  deriving DecidableEq, Repr

/-- Who may collect a bin (02, 2.1). -/
inductive Taker where
  | addr (address : Nat)
  | any
  | none
  deriving DecidableEq, Repr

/-- Where a handover's bin is (02, R29). -/
inductive Custody where
  | column (index position : Nat)
  | robot (address : Nat)
  | unlocated
  deriving DecidableEq, Repr

/-- Deadline kinds (02, R42). -/
inductive DeadlineKind where
  | stage | collect
  deriving DecidableEq, Repr

/-- Deadline conditions (02, R42). -/
inductive DeadlineCond where
  | running | suspended | stopped
  deriving DecidableEq, Repr

/-- A record's clock (02, R42). -/
structure Deadline where
  kind : DeadlineKind
  remaining : Nat
  cond : DeadlineCond
  deriving DecidableEq, Repr

/-- A handover record (02, 2.1). -/
structure Handover where
  number : Nat
  tag : BinTag
  giver : Nat
  taker : Taker
  state : HandoverState
  column : Option Nat
  custody : Custody
  deadline : Option Deadline
  uncertain : Bool
  relocations : Nat
  openedAt : Word32
  deriving DecidableEq, Repr

/-- Robot states (05, 5.2). -/
inductive RobotState where
  | announced | ready | active | lost | inactive
  deriving DecidableEq, Repr

/-- Why a robot last became INACTIVE (05, 5.1). -/
inductive InactiveReason where
  | cls | level | notReady
  deriving DecidableEq, Repr

/-- The one bin a robot holds (05, R114). -/
inductive Slot where
  | empty
  | tracked (number : Nat)
  | untracked (tag : BinTag)
  deriving DecidableEq, Repr

/-- A robot record (05, 5.1); its address is its place in the roster. -/
structure Robot where
  serial : Serial
  boot : Word16
  gripper : Nat
  level : Nat
  state : RobotState
  maxClass : Option Cls
  admitPending : Bool
  slot : Slot
  loadConfirmed : Bool
  readyTimer : Option Nat
  lastInactive : Option InactiveReason
  deriving DecidableEq, Repr

/-- Audit unit states (06, R124). -/
inductive AuditState where
  | arming | idle | calling | executing
  deriving DecidableEq, Repr

/-- The audit unit's state record (06, R124), with the tick interval in force (06, R126, R136): that
at which the tick timer was last started (log 30). -/
structure AuditUnit where
  state : AuditState
  pointer : Nat
  called : Option Nat
  callLimit : Option Nat
  overdue : Bool
  tick : Option Nat
  interval : Option Nat
  deriving DecidableEq, Repr

/-- Transition states; an absent record is the manual's NONE (08, R155). -/
inductive TransState where
  | waiting | changing
  deriving DecidableEq, Repr

/-- Transition kinds (08, R155). -/
inductive TransKind where
  | normal | hold
  deriving DecidableEq, Repr

/-- Who asked for a transition (08, R155). -/
inductive Requester where
  | request (tag : Word16)
  | hold
  deriving DecidableEq, Repr

/-- The transition record (08, R155). The forbidden counts belong to WAITING and are 0 otherwise. -/
structure Transition where
  state : TransState
  kind : TransKind
  targets : Quad Mode
  forbidden : Quad Nat
  requester : Requester
  mixed : Bool
  limit : Option Nat
  deriving DecidableEq, Repr

/-- The zone controller's state (08, R155) with the filtered ZONE_ACK levels (R156). The ZONE_MODE
pairs carry the levels of `driven`. -/
structure ZoneCtl where
  current : Quad Mode
  driven : Quad Mode
  ack : Quad Mode
  trans : Option Transition
  hold : Bool
  holdPending : Bool
  deriving DecidableEq, Repr

/-- A filtered input line (10, R196): the level on it, and for how many ms it has been steady, counted
up to the 2 ms of the filter. The count starts again when the level is taken (log 35). -/
structure Line (α : Type) where
  seen : α
  steady : Nat
  deriving DecidableEq, Repr

/-- The filters of GRID_HOLD and of the ZONE_ACK pairs (10, R196). The levels taken are the hold flag
and the ACK levels of the zone controller. -/
structure LineFilter where
  gridHold : Line Bool
  ack : Quad (Line Mode)
  deriving DecidableEq, Repr

/-- Control link rates (10, R184). -/
inductive Rate where
  | r19200 | r57600 | r115200 | r230400
  deriving DecidableEq, Repr

end Sys2Proof.Machine
end

