-- ==== Sys2Proof/Machine/Message.lean ====
section
/-! DEFINITION. What the part sends: status codes, replies, notices and frames to robots, each
with the named fields its rule gives. Machine/Wire.lean gives their bytes. -/

namespace Sys2Proof.Machine

/-- The status codes, in the order of their numbers (10, 10.10). -/
inductive Status where
  | ok | partialOk | needsReconcile | overflow | unknownKind | badBody | notRunning | lockedConfig
  | badConfig | outOfRange | unknownColumn | unknownXp | unknownHandover | unknownRobot | inUse
  | wrongState | already | retired | badTag | duplicateBin | tableFull | notActive | inactive
  | giverLoaded | notEligible | inFlight | overCapacity | unmapped | zoneClosed | holdActive
  | modeBusy | rosterFull | custodian | busy | trackedLoad | lost | cls | notCalled | waitFull
  | notWaiting | noGrant | revoked | frozen | suspect | settling | unloaded | loaded | tagMismatch
  | locked | unverified | wrongColumn | full | empty | uncertain | notYours | noOperation
  deriving DecidableEq, Repr

/-- Why a column is not eligible (02, R32, R34). -/
inductive Reason where
  | unmapped | retired | locked | frozen | unverified | zoneMode | full | noColumn
  deriving DecidableEq, Repr

/-- A stack entry as reported, with its bin tag (01, R21). -/
inductive EntryView where
  | tracked (number : Nat) (tag : BinTag)
  | foreign (tag : BinTag)
  deriving DecidableEq, Repr

/-- The outcome of an observation (04, R95). -/
inductive Compare where
  | credited | heightOnly | mismatch
  deriving DecidableEq, Repr

/-- The outcome of an operation end as reported to the audit unit (06, R132). -/
inductive EndOutcome where
  | credited | heightOnly | mismatch | failed | cutOff
  deriving DecidableEq, Repr

/-- The result of an OP_END (04, R91). -/
inductive OpResult where
  | ok | failed
  deriving DecidableEq, Repr

/-- The result of a LOAD_REPORT (05, R115). -/
inductive LoadResult where
  | confirmed | noted | conflict | inFlight
  deriving DecidableEq, Repr

/-- Why a column gained SUSPECT (03, R68; 04, R100). No rule lists the four together: GRACE stands
after R100's three (log 15). -/
inductive SuspectCause where
  | opLimit | restart | hold | grace
  deriving DecidableEq, Repr

/-- Why a robot became LOST (05, R120). -/
inductive LostCause where
  | grace | opLimit
  deriving DecidableEq, Repr

/-- Why a column became UNVERIFIED (06, R135). -/
inductive UnverifiedCause where
  | callExpired | opFailed | opCutOff | zoneClosed
  deriving DecidableEq, Repr

/-- Why a column was retired (01, R14). -/
inductive RetireCause where
  | host | faults
  deriving DecidableEq, Repr

/-- Kinds of custody conflict (05, R116). -/
inductive ConflictKind where
  | wrongBin | trackedElsewhere
  deriving DecidableEq, Repr

/-- Which case of R167 applied to a hold assertion (08, R167). -/
inductive HoldCase where
  | none | waiting | changingNormal | changingHold | unconfigured
  deriving DecidableEq, Repr

/-- The fields of each notice (10, 10.9). -/
inductive NoticeBody where
  /-- 02, R52 -/
  | handoverDone (number : Nat) (tag : BinTag) (giver taker relocations : Nat) (duration : Word32)
  /-- 02, R44 -/
  | stageExpired (number : Nat) (tag : BinTag) (giver column : Nat) (xp : Option Nat) (slot : Slot)
  /-- 02, R46 -/
  | collectExpired (number : Nat) (tag : BinTag) (formerTaker : Taker) (column : Nat)
      (xp : Option Nat) (position : Nat)
  /-- 02, R45 -/
  | relocationOverdue (number : Nat) (tag : BinTag) (robot : Nat) (taker : Taker)
      (relocations : Nat)
  /-- 04, R97: the part's view, then the robot's -/
  | discrepancy (column : Nat) (xp : Option Nat) (kind : OpKind) (robot : Nat) (result : OpResult)
      (depth : Nat) (top : Option EntryView) (height : Nat) (seenTag : BinTag)
  /-- 03, R68; 04, R100 -/
  | columnSuspect (column : Nat) (xp : Option Nat) (cause : SuspectCause) (robot : Nat)
  /-- 06, R135 -/
  | columnUnverified (column : Nat) (xp : Option Nat) (zone : Nat) (cause : UnverifiedCause)
      (before : Verification) (causes : Causes) (depth : Nat)
  /-- 06, R130 -/
  | auditDue (column : Nat) (xp : Option Nat) (zone : Nat) (before : Verification) (depth : Nat)
      (top : Option EntryView) (causes : Causes) (retired locked : Bool) (callLimit : Nat)
  /-- 01, R14 -/
  | columnRetired (column x y zone : Nat) (cause : RetireCause) (faultCount : Nat)
      (lastFault : Option LastFault) (xp : Option Nat) (depth reservations : Nat) (inbound : Bool)
  /-- 01, R20; no spare is the manual's NO_SPARE -/
  | remapDone (xp retiredColumn : Nat) (spare : Option Nat)
  /-- 05, R109 -/
  | robotAnnounced (address : Nat) (serial : Serial) (boot : Word16) (gripper level : Nat)
      (state : RobotState) (reason : Option InactiveReason) (slot : Slot)
  /-- 05, R118 -/
  | robotRestarted (address : Nat) (serial : Serial) (oldBoot newBoot : Word16)
      (before after : RobotState) (reason : Option InactiveReason) (grant : Option (Nat × Cls))
      (request : Option Nat) (op : Option (OpKind × Nat)) (slot : Slot) (confirmed : Bool)
  /-- 03, R68; 04, R101 -/
  | robotLost (address : Nat) (serial : Serial) (cause : LostCause) (column : Nat) (slot : Slot)
  /-- 05, R112 -/
  | robotInactive (address : Nat) (serial : Serial) (reason : InactiveReason)
  /-- 05, R116 -/
  | custodyConflict (kind : ConflictKind) (address : Nat) (serial : Serial) (declared : BinTag)
      (slot : Slot) (number : Nat) (state : HandoverState) (custody : Custody)
  /-- 08, R164, R169 -/
  | modeChanged (requester : Requester) (before after : Quad Mode) (newlyClosed : List Nat)
      (mixed : Bool)
  /-- 08, R166 -/
  | modeFailed (requester : Requester) (mixed : Bool) (targets ack current : Quad Mode)
  /-- 08, R167 -/
  | requestOvertaken (requester : Requester) (targets : Quad Mode)
  /-- 08, R167 -/
  | holdAsserted (case : HoldCase)
  /-- 08, R170; an absent state is NONE -/
  | holdReleased (trans : Option TransState) (current : Quad Mode)
  deriving DecidableEq, Repr

/-- A notice as queued (10, R191). -/
structure Notice where
  seq : Word16
  time : Word32
  body : NoticeBody
  deriving DecidableEq, Repr

/-- What a REFUSED frame carries beside its reason (03, R77, R59; 04, R104; 05, R108). ALREADY carries
the asked index and then the column the robot already has (log 15). -/
inductive RefusedDetail where
  | none
  | column (index : Nat)
  | already (asked held : Nat)
  | settling (index ms : Nat)
  | serial (serial : Serial)
  deriving DecidableEq, Repr

/-- What an ACCEPTED frame carries (10, 10.9). -/
inductive AcceptedDetail where
  | none
  | column (index : Nat)
  | compared (index : Nat) (result : Compare)
  | load (result : LoadResult)
  | state (state : RobotState)
  deriving DecidableEq, Repr

/-- The part-to-robot frames (10, 10.9). -/
inductive FleetMsg where
  /-- 05, R109, R110, R112, R113, R118 -/
  | address (serial : Serial) (address : Nat) (state : RobotState)
      (reason : Option InactiveReason)
  /-- 03, R60, R61 -/
  | granted (column : Nat) (cls : Cls) (holdMs : Nat)
  /-- 03, R60 -/
  | queued (column : Nat) (cls : Cls) (position : Nat)
  | refused (reason : Status) (detail : RefusedDetail)
  /-- 03, R66 -/
  | revoke (column : Nat) (cause : RevokeCause) (graceMs : Nat)
  /-- 04, R90 -/
  | go (column : Nat) (kind : OpKind) (limitMs : Nat) (setHalf : Option SetHalf)
      (liftHalf : Option LiftHalf)
  | accepted (detail : AcceptedDetail)
  /-- 05, R121 -/
  | dismissed
  deriving DecidableEq, Repr

/-- A frame for a robot: fleet address (0 for the answers to ANNOUNCE) and message (10, R194). -/
structure FleetFrame where
  address : Nat
  msg : FleetMsg
  deriving DecidableEq, Repr

/-- A choice between a robot's address and its serial (05, R113). -/
inductive RobotRef where
  | address (a : Nat)
  | serial (s : Serial)
  deriving DecidableEq, Repr

/-- The place a released bin was left in (02, R38). -/
inductive Place where
  | column (index position : Nat)
  | robot (address : Nat)
  | unlocated
  deriving DecidableEq, Repr

/-- Why COMMIT is refused (09, R178). -/
inductive ConfigProblem where
  | noMappedXp
  | undefinedColumn (xp column : Nat)
  | coordinateClash (x y first second : Nat)
  | noGripperClass
  deriving DecidableEq, Repr

/-- Which robot of OPEN_HANDOVER is unknown (02, R31). -/
inductive RobotField where
  | giver | taker
  deriving DecidableEq, Repr

/-- The suspension conditions of a deadline (02, R43, R40). -/
structure SuspendConds where
  frozen : Bool
  zoneMode : Bool
  tightening : Bool
  deriving DecidableEq, Repr

/-- The custody part of a QUERY_HANDOVER reply (02, R40). -/
inductive CustodyView where
  | column (index position depth : Nat)
  | robot (address : Nat) (state : RobotState) (confirmed : Bool)
  | unlocated
  deriving DecidableEq, Repr

/-- The QUERY_HANDOVER reply (02, R40). -/
structure HandoverReport where
  number : Nat
  tag : BinTag
  giver : Nat
  taker : Taker
  state : HandoverState
  column : Option (Nat × Option Nat × Nat)
  custody : CustodyView
  deadline : Option (Deadline × SuspendConds)
  inFlight : Option (OpKind × Nat)
  uncertain : Bool
  relocations : Nat
  sinceOpened : Word32
  deriving DecidableEq, Repr

/-- One record of a LIST_HANDOVERS reply (02, R41). -/
structure HandoverItem where
  number : Nat
  tag : BinTag
  state : HandoverState
  taker : Taker
  column : Option Nat
  deadline : Option (DeadlineKind × Nat)
  uncertain : Bool
  deriving DecidableEq, Repr

/-- The QUERY_COLUMN reply (01, R21), its grant record whole (03, R77). -/
structure ColumnReport where
  index : Nat
  defn : Defn
  mapping : Option (Nat × Bool)
  retired : Bool
  locked : Bool
  stack : List EntryView
  depth : Nat
  reserving : List Nat
  inbound : Bool
  freeRoom : Nat
  faultCount : Nat
  lastFault : Option LastFault
  causes : Causes
  verification : Verification
  seen : Bool
  sinceSettle : Option Word32
  grant : Option Grant
  waits : List WaitReq
  op : Option (OpKind × Nat × Word32)
  called : Bool
  deriving DecidableEq, Repr

/-- The part of a QUERY_XP reply for a defined column (01, R22). -/
structure EligibilityReport where
  zone : Nat
  depth : Nat
  reservations : Nat
  inbound : Bool
  freeRoom : Nat
  retired : Bool
  locked : Bool
  frozen : Bool
  verification : Verification
  obstacle : Option Reason
  deriving DecidableEq, Repr

/-- The QUERY_XP reply (01, R22): UNMAPPED, or the entry and, for a defined column, its standing. -/
structure XpReport where
  xp : Nat
  mapping : Option (XpEntry × Option EligibilityReport)
  deriving DecidableEq, Repr

/-- The carried slot as QUERY_ROBOT gives it (05, R122). -/
inductive SlotView where
  | empty
  | tracked (number : Nat) (state : HandoverState) (uncertain confirmed : Bool)
  | untracked (tag : BinTag)
  deriving DecidableEq, Repr

/-- A robot's standing toward a column (05, R122). -/
inductive Standing where
  | grant (column : Nat) (g : Grant)
  | waiting (column : Nat) (cls : Cls) (position : Nat)
  | none
  deriving DecidableEq, Repr

/-- The QUERY_ROBOT reply (05, R122). -/
structure RobotReport where
  address : Nat
  robot : Robot
  slot : SlotView
  standing : Standing
  op : Option (OpKind × Nat × Word32)
  takerOf : Nat
  deriving DecidableEq, Repr

/-- Where a listed bin was before a reconcile (07, R149). -/
inductive CameFrom where
  | column (index position : Nat)
  | robot (address : Nat)
  | unlocated
  | openOn (address column : Nat)
  deriving DecidableEq, Repr

/-- The RECONCILE_COLUMN reply (07, R149). -/
structure ReconcileReport where
  index : Nat
  stack : List EntryView
  freeRoom : Nat
  listed : List (Nat × CameFrom × HandoverState)
  unlocated : List Nat
  others : List (Nat × Causes)
  causesLeft : Causes
  remapped : List Nat
  deriving DecidableEq, Repr

/-- What every reply to a MODE_REQUEST that is not refused gives (08, R158); an absent state is
NONE. -/
structure ModeReply where
  tag : Word16
  current : Quad Mode
  state : Option TransState
  targets : Option (Quad Mode)
  deriving DecidableEq, Repr

/-- One zone of a QUERY_ZONES reply (08, R171). -/
structure ZoneReport where
  current : Mode
  driven : Mode
  ack : Mode
  echoes : Bool
  effective : Mode
  defined : Nat
  zoneFrozen : Nat
  holders : Nat
  waiting : Nat
  deriving DecidableEq, Repr

/-- The QUERY_ZONES reply (08, R171). -/
structure ZonesReport where
  zones : Quad ZoneReport
  trans : Option (Transition × List Nat)
  hold : Bool
  holdPending : Bool
  deriving DecidableEq, Repr

/-- The audit part of the STATUS reply (06, R136). -/
structure AuditReport where
  state : AuditState
  pointer : Nat
  called : Option Nat
  callLimit : Option Nat
  overdue : Bool
  tick : Option Nat
  interval : Option Nat
  fresh : Nat
  due : Nat
  unverified : Nat
  deriving DecidableEq, Repr

/-- The STATUS reply (10, R193). -/
structure StatusReport where
  section_ : SectionState
  params : Params
  defined : Nat
  mapped : Nat
  retired : Nat
  remapsPending : Nat
  spares : Quad Nat
  handovers : Nat
  byState : List Nat
  robots : Nat
  byRobotState : List Nat
  audit : AuditReport
  current : Quad Mode
  trans : Option TransState
  hold : Bool
  holdPending : Bool
  disagree : List Nat
  entries : Nat
  overflows : Nat
  notices : Nat
  frames : Nat
  overrun : Bool
  lost : Nat
  nextSeq : Word16
  controlDiscards : Nat
  fleetDiscards : Nat
  fleetDrops : Nat
  time : Word32
  deriving DecidableEq, Repr

/-- The fields of a reply after its status code (10, R186). -/
inductive ReplyBody where
  | none
  /-- 09, R176 -/
  | params (p : Params)
  /-- 09, R176: the parameter's place in the table of R175, and the value given -/
  | paramOutOfRange (param value : Nat)
  /-- 09, R177 -/
  | defined (index : Nat) (d : Defn)
  /-- 09, R177: the field's place in the order of its check -/
  | fieldOutOfRange (field : Nat)
  /-- 01, R17 -/
  | mapped (xp : Nat) (entry : Option XpEntry)
  /-- 01, R18 -/
  | mappedSpare (xp column zone : Nat) (verification : Verification)
  /-- 09, R179 -/
  | committed (defined mapped : Nat) (spares : Quad Nat) (interval : Nat)
  | badConfig (problem : ConfigProblem)
  /-- 09, R181 -/
  | sectionReset (handovers robots grants ops : Nat) (trans : Option TransState)
      (remaps : List (Nat × Nat × Option Nat))
  /-- 05, R113 -/
  | admitted (address : Nat) (serial : Serial) (cls : Cls) (state : RobotState)
  /-- 05, R121 -/
  | dismissed (address : Nat) (serial : Serial) (slot : Slot) (changed : Nat)
  | custodian (number : Nat)
  | robot (r : RobotReport)
  /-- 02, R35 -/
  | opened (number column xp : Nat)
  /-- 02, R33, R34 -/
  | notEligible (xp column : Option Nat) (reason : Reason)
  | unknownRobot (field : RobotField)
  /-- 02, R36 -/
  | takerAssigned (number : Nat) (taker : Taker) (state : HandoverState)
      (deadline : Option Deadline)
  /-- 02, R37 -/
  | cancelled (number : Nat) (slot : Slot)
  | nowParked (number : Nat)
  | inState (state : HandoverState)
  /-- 02, R38 -/
  | released (number : Nat) (tag : BinTag) (place : Place)
  | handover (h : HandoverReport)
  /-- 02, R41 -/
  | handoverList (items : List HandoverItem) (next : Nat)
  /-- 01, R9 -/
  | lockFlag (group : Nat) (set : Bool) (columns : Nat)
  /-- 01, R13 -/
  | columnRetired (index : Nat) (xp : Option Nat) (remapped : Bool)
  | reconciled (r : ReconcileReport)
  /-- 07, R149 -/
  | overCapacity (remaining capacity : Nat)
  | columnInFlight (index : Nat)
  | recordInFlight (number column : Nat)
  /-- 07, R152 -/
  | freezeReleased (removed : Nat)
  | stillFrozen (removed frozen : Nat) (columns : List (Nat × Causes))
  | column (r : ColumnReport)
  | xp (r : XpReport)
  /-- 08, R158 -/
  | mode (r : ModeReply)
  /-- 08, R159: a PARTIAL reply adds the mixed mark, which is set, and the dropped zones, each with its
  current mode and the target asked -/
  | modePartial (r : ModeReply) (dropped : List (Nat × Mode × Mode))
  /-- 08, R162 -/
  | modeCancelled (current targets : Quad Mode)
  | zones (r : ZonesReport)
  | status (r : StatusReport)
  /-- 10, R189: the buffer entries occupied -/
  | overflow (occupied : Nat)
  deriving DecidableEq, Repr

/-- A waiting reply (10, R186, R189): request kind and tag, status, fields, and whether it is an
OVERFLOW reply of the overflow list. -/
structure Reply where
  kind : Byte
  tag : Word16
  status : Status
  body : ReplyBody
  overflow : Bool
  deriving DecidableEq, Repr

/-- An entry of the control receive buffer (10, R188). -/
structure HostRequest where
  kind : Byte
  tag : Word16
  body : List Byte
  deriving DecidableEq, Repr

/-- What the control transmitter is sending: the oldest waiting reply, the oldest notice, or
nothing (10, R190). -/
inductive TxState where
  | idle | reply | notice
  deriving DecidableEq, Repr

/-- A byte as received; one with a stop-bit error is not good (10, R184). -/
structure RxByte where
  value : Byte
  good : Bool
  deriving DecidableEq, Repr

/-- A byte received without error. -/
def RxByte.ok (b : Byte) : RxByte := ⟨b, true⟩

/-- The link unit's state (10, opening list). The overflow list is the OVERFLOW replies among
`replies`. The last four fields are the partial frames the two receivers hold and, while one is held,
the ms left for its next byte (10, R185; logs 17, 37). -/
structure LinkUnit where
  received : List HostRequest
  replies : List Reply
  tx : TxState
  notices : List Notice
  overrun : Bool
  lost : Nat
  nextSeq : Word16
  fleet : List FleetFrame
  controlDiscards : Nat
  fleetDiscards : Nat
  fleetDrops : Nat
  rate : Rate
  controlHeld : List RxByte
  fleetHeld : List RxByte
  controlGap : Option Nat
  fleetGap : Option Nat
  deriving DecidableEq, Repr

end Sys2Proof.Machine
end

