-- ==== Sys2Proof/Machine/State.lean ====
section
/-! DEFINITION. The state of the part and its value right after a hardware reset. -/

namespace Sys2Proof.Machine

/-- No fault: the part never stops. Every refusal of the manual is an answer (10, 10.10) and every
bad frame is discarded and counted (10, R185, R194), so no meaning answers with a fault. -/
inductive Fault : Type
  deriving DecidableEq, Repr

/-- Why the model gives a command no outcome. -/
inductive Refusal where
  /-- Raised by `exec`'s arm of a command that has no meaning yet; safe, since nothing is claimed
  of it. No arm raises it. -/
  | notModelled (mnemonic : String)
  deriving DecidableEq, Repr

/-- The state of the part: the blocks of 00, 0.3 in the manual's order, with the filters of the plain
lines (10, R196) beside the zone controller, the time base, and the model's own `pending` (log 24) and
`choices` (log 3). Reservations, mapped-by, tightened zones, the ZONE_MODE pairs and ATTENTION are
computed from these (log 7). -/
structure State where
  sectionState : SectionState
  params : Params
  columns : List Column
  lockFlags : List Bool
  xpMap : List (Option XpEntry)
  handovers : List Handover
  lastNumber : Nat
  roster : List (Option Robot)
  audit : AuditUnit
  zones : ZoneCtl
  lines : LineFilter
  link : LinkUnit
  time : Word32
  pending : List Instr
  choices : Nat
  deriving DecidableEq, Repr

/-- The parameter set after a hardware reset (09, R175). -/
def Params.default : Params where
  stageLimit := 120
  collectLimit := 300
  holdLimit := 30
  releaseGrace := 4
  operationLimit := 20
  readyLimit := 30
  auditPeriod := 900
  callLimit := 120
  interlockLimit := 1000
  faultThreshold := 3
  acceptedClasses := 255#8
  minLevel := 0

/-- The empty set of freeze causes (01, R7). -/
def Causes.none : Causes := ⟨false, false, false⟩

/-- The set holding ZONE alone (01, R7). -/
def Causes.zoneOnly : Causes := ⟨false, false, true⟩

/-- An undefined column record (01, R23; 03, R78; 04, R105). -/
def Column.blank : Column where
  defn := .none
  stack := []
  inbound := false
  retired := false
  faultCount := 0
  lastFault := .none
  causes := Causes.none
  verification := .unverified
  seen := false
  settleMark := .none
  grant := .none
  waits := []
  op := .none

/-- The audit unit after a hardware reset (06, R137). -/
def AuditUnit.reset : AuditUnit := ⟨.arming, 0, .none, .none, false, .none, .none⟩

/-- The zone controller after a hardware reset that ends at the given levels (08, R173). -/
def ZoneCtl.reset (pins : PinLevels) : ZoneCtl where
  current := Quad.same .closed
  driven := Quad.same .closed
  ack := pins.ack
  trans := .none
  hold := pins.gridHold
  holdPending := false

/-- A line whose level the filter has held for its whole time. -/
def Line.settled {α : Type} (a : α) : Line α := ⟨a, Config.filterMs⟩

/-- The filters after a hardware reset that ends at the given levels (10, R196; 08, R173), each line
steady at its level (log 36). -/
def LineFilter.reset (pins : PinLevels) : LineFilter where
  gridHold := Line.settled pins.gridHold
  ack := ⟨Line.settled pins.ack.z0, Line.settled pins.ack.z1, Line.settled pins.ack.z2,
    Line.settled pins.ack.z3⟩

/-- The control link rate the straps select (10, R184). -/
def Rate.ofStraps : Bool → Bool → Rate
  | false, false => .r19200
  | false, true => .r57600
  | true, false => .r115200
  | true, true => .r230400

/-- The link unit after a hardware reset that ends at the given levels (10, R197, R184); partial
frames are lost. -/
def LinkUnit.reset (pins : PinLevels) : LinkUnit where
  received := []
  replies := []
  tx := .idle
  notices := []
  overrun := false
  lost := 0
  nextSeq := 0
  fleet := []
  controlDiscards := 0
  fleetDiscards := 0
  fleetDrops := 0
  rate := Rate.ofStraps pins.rate1 pins.rate0
  controlHeld := []
  fleetHeld := []
  controlGap := .none
  fleetGap := .none

/-- The whole part right after a hardware reset that ends at the given levels (09, R183), with the
model's own fields given. -/
def State.afterReset (pins : PinLevels) (pending : List Instr) (choices : Nat) : State where
  sectionState := .unconfigured
  params := Params.default
  columns := List.replicate Config.columnCount Column.blank
  lockFlags := List.replicate Config.groupCount false
  xpMap := List.replicate Config.xpCount .none
  handovers := []
  lastNumber := 0
  roster := List.replicate Config.rosterCap .none
  audit := AuditUnit.reset
  zones := ZoneCtl.reset pins
  lines := LineFilter.reset pins
  link := LinkUnit.reset pins
  time := 0
  pending := pending
  choices := choices

/-- DESIGN CHOICE (log 6): the input levels as the first reset ends are those of the pins'
pull-downs (10, 10.12): straps low, GRID_HOLD released, every ZONE_ACK pair at level 0. -/
def PinLevels.pulledDown : PinLevels := ⟨false, false, false, Quad.same .openMode⟩

/-- The machine right after reset (09, R183), nothing commanded yet. -/
def State.reset : State := State.afterReset PinLevels.pulledDown [] 0

end Sys2Proof.Machine
end

