-- ==== Sys2Proof/Machine/Ops.lean ====
section
/-! DEFINITION. Reading and writing the tables, and putting notices, frames and replies in their
queues. Every other file reaches the tables through these operations. -/

namespace Sys2Proof

/-! ### Zones -/

namespace Quad
variable {α β : Type}

/-- The value of a zone. -/
def get (q : Quad α) : Nat → α
  | 0 => q.z0
  | 1 => q.z1
  | 2 => q.z2
  | _ => q.z3

/-- The values with that of one zone replaced. -/
def set (q : Quad α) (z : Nat) (a : α) : Quad α :=
  match z with
  | 0 => { q with z0 := a }
  | 1 => { q with z1 := a }
  | 2 => { q with z2 := a }
  | _ => { q with z3 := a }

/-- The values `f` gives to the four zone numbers. -/
def ofFn (f : Nat → α) : Quad α := ⟨f 0, f 1, f 2, f 3⟩

/-- The zones, ascending, that `p` accepts. -/
def zonesWhere (p : Nat → Bool) : List Nat := [0, 1, 2, 3].filter p

end Quad

/-- The mode levels: OPEN 0, DRAIN 1, SERVICE 2, CLOSED 3 (00, 0.6). -/
def Mode.level : Mode → Nat
  | .openMode => 0
  | .drain => 1
  | .service => 2
  | .closed => 3

/-- Stricter means of higher level (00, 0.6). -/
def Mode.stricter (a b : Mode) : Bool := b.level < a.level

end Sys2Proof

namespace Sys2Proof.Machine

/-! ### Lists of records -/

/-- The list with `f` applied to the entry at place `i`. -/
def updateAt {α : Type} : List α → Nat → (α → α) → List α
  | [], _, _ => []
  | a :: as, 0, f => f a :: as
  | a :: as, i + 1, f => a :: updateAt as i f

/-- The place, counted from `i`, of the first entry that `p` accepts. -/
def indexFrom {α : Type} (p : α → Bool) : List α → Nat → Option Nat
  | [], _ => none
  | a :: as, i => if p a then some i else indexFrom p as (i + 1)

/-- The first entry that `p` accepts, and the list without it. -/
def takeFirst {α : Type} (p : α → Bool) : List α → Option (α × List α)
  | [] => none
  | a :: as =>
    if p a then some (a, as)
    else (takeFirst p as).map fun r => (r.1, a :: r.2)

/-- Apply `f` for each number below `n`, in ascending order. -/
def forUpTo (n : Nat) (f : State → Nat → State) (s : State) : State :=
  (List.range n).foldl f s

/-! ### Grant classes -/

/-- The place of a class in the descending order of 00, 0.6; SERVICE 0. -/
def Cls.rank : Cls → Nat
  | .service => 0
  | .recovery => 1
  | .audit => 2
  | .transfer => 3

/-- A class outranks another when it is higher (00, 0.6). -/
def Cls.above (a b : Cls) : Bool := a.rank < b.rank

/-- RECOVERY or SERVICE (00, 0.6). -/
def Cls.recoveryOrAbove (c : Cls) : Bool := c.rank ≤ 1

/-! ### Columns and the map -/

namespace State

/-- The record of a column; an undefined record for an index outside the table. -/
def col (s : State) (c : Nat) : Column := s.columns.getD c Column.blank

/-- The state with a column's record changed. -/
def modCol (s : State) (c : Nat) (f : Column → Column) : State :=
  { s with columns := updateAt s.columns c f }

/-- The definition of a column, none when it is undefined or the index is above 95 (01, R1). -/
def defn (s : State) (c : Nat) : Option Defn := (s.col c).defn

/-- The entry of an exchange point. -/
def xp (s : State) (x : Nat) : Option XpEntry := s.xpMap.getD x none

/-- The state with an entry of the map replaced. -/
def setXp (s : State) (x : Nat) (e : Option XpEntry) : State :=
  { s with xpMap := updateAt s.xpMap x fun _ => e }

/-- The XP that maps a column, or none: the record's mapped-by field (01, R16), computed (log 7). -/
def mappedBy (s : State) (c : Nat) : Option Nat :=
  indexFrom (fun e => e.map (·.column) == some c) s.xpMap 0

/-- How many entries of the map name a column. -/
def mappedCount (s : State) : Nat := s.xpMap.countP Option.isSome

/-- A column's lock group is locked (01, R8). -/
def locked (s : State) (c : Nat) : Bool :=
  match s.defn c with
  | some d => s.lockFlags.getD d.group false
  | none => false

/-- The zone of a column; 0 for an undefined one, which no rule reads. -/
def zoneOf (s : State) (c : Nat) : Nat := ((s.defn c).map (·.zone)).getD 0

/-- The columns of the table, ascending, that are defined and that `p` accepts. -/
def definedWhere (s : State) (p : Nat → Defn → Bool) : List Nat :=
  (List.range Config.columnCount).filter fun c =>
    match s.defn c with
    | some d => p c d
    | none => false

/-- The defined columns of a zone, ascending. -/
def columnsOf (s : State) (z : Nat) : List Nat := s.definedWhere fun _ d => d.zone == z

/-! ### Handovers -/

/-- The record that holds a number. -/
def handover (s : State) (n : Nat) : Option Handover := s.handovers.find? (·.number == n)

/-- The record that holds a bin tag. -/
def handoverByTag (s : State) (t : BinTag) : Option Handover := s.handovers.find? (·.tag == t)

/-- The state with the record of a number changed. -/
def modHandover (s : State) (n : Nat) (f : Handover → Handover) : State :=
  { s with handovers := s.handovers.map fun h => if h.number == n then f h else h }

/-- The state with every record that `p` accepts changed. -/
def modHandovers (s : State) (p : Handover → Bool) (f : Handover → Handover) : State :=
  { s with handovers := s.handovers.map fun h => if p h then f h else h }

/-- The state without the record of a number: a freed record leaves the table at once (02, R25). -/
def freeHandover (s : State) (n : Nat) : State :=
  { s with handovers := s.handovers.filter fun h => h.number != n }

/-- The state with a record put in its place by number. -/
def addHandover (s : State) (h : Handover) : State :=
  { s with
    handovers := s.handovers.filter (fun k => k.number < h.number) ++ h ::
      s.handovers.filter (fun k => h.number ≤ k.number) }

/-- A record in OPEN or SETTING whose column field names the column holds a reservation (01, R4). -/
def reserves (c : Nat) (h : Handover) : Bool :=
  (h.state == .openState || h.state == .setting) && h.column == some c

/-- The reservations of a column: the count R4 says they always equal (01, R4; log 7). -/
def reservations (s : State) (c : Nat) : Nat := s.handovers.countP (reserves c)

/-- The numbers of the records that hold a column's reservations, ascending (01, R4, R21). -/
def reserving (s : State) (c : Nat) : List Nat := (s.handovers.filter (reserves c)).map (·.number)

/-- Depth plus reservations plus inbound (01, R6). -/
def roomUsed (s : State) (c : Nat) : Nat :=
  (s.col c).stack.length + s.reservations c + (s.col c).inbound.toNat

/-- Capacity less the room used (01, R6). -/
def freeRoom (s : State) (c : Nat) : Nat :=
  ((s.defn c).map (·.capacity)).getD 0 - s.roomUsed c

/-- Room for one more bin (01, R6). -/
def hasRoom (s : State) (c : Nat) : Bool :=
  match s.defn c with
  | some d => s.roomUsed c < d.capacity
  | none => false

/-- A stack entry with its bin tag (01, R21). -/
def entryView (s : State) : Entry → EntryView
  | .tracked n => .tracked n (((s.handover n).map (·.tag)).getD 0)
  | .foreign t => .foreign t

/-- The top entry of a column's stack. -/
def top (s : State) (c : Nat) : Option Entry := (s.col c).stack.getLast?

/-- The top entry of a column with its tag. -/
def topView (s : State) (c : Nat) : Option EntryView := (s.top c).map s.entryView

/-! ### Robots -/

/-- The record at a fleet address 1–48. -/
def robot (s : State) (a : Nat) : Option Robot :=
  if a = 0 then none else s.roster.getD (a - 1) none

/-- The state with the record at an address changed. -/
def modRobot (s : State) (a : Nat) (f : Robot → Robot) : State :=
  if a = 0 then s else { s with roster := updateAt s.roster (a - 1) (Option.map f) }

/-- The state with the record at an address replaced, created or removed. -/
def setRobot (s : State) (a : Nat) (r : Option Robot) : State :=
  if a = 0 then s else { s with roster := updateAt s.roster (a - 1) fun _ => r }

/-- The address of the robot with a serial. -/
def addressOf (s : State) (sn : Serial) : Option Nat :=
  indexFrom (fun r => r.map (·.serial) == some sn) s.roster 1

/-- The lowest address that no record holds (05, R106). -/
def freeAddress (s : State) : Option Nat := indexFrom Option.isNone s.roster 1

/-- The number of robot records. -/
def robotCount (s : State) : Nat := s.roster.countP Option.isSome

/-- The state with a robot's slot and load-confirmed mark written (05, R114). -/
def setSlot (s : State) (a : Nat) (sl : Slot) (confirmed : Bool) : State :=
  s.modRobot a fun r => { r with slot := sl, loadConfirmed := confirmed }

/-- The column on which a robot holds the grant. -/
def grantedTo (s : State) (a : Nat) : Option Nat :=
  indexFrom (fun k => k.grant.map (·.robot) == some a) s.columns 0

/-- The column in whose wait list a robot waits. -/
def waitingOn (s : State) (a : Nat) : Option Nat :=
  indexFrom (fun k => k.waits.any (·.robot == a)) s.columns 0

/-- The column on which an operation of a robot is in flight. -/
def workingOn (s : State) (a : Nat) : Option Nat :=
  indexFrom (fun k => k.op.map (·.robot) == some a) s.columns 0

end State

/-! ### Operations in flight -/

/-- The handover a set half names (04, R79). -/
def SetHalf.handover : SetHalf → Option Nat
  | .reserved n => some n
  | .relocation n => some n
  | .untracked _ => none

/-- The handover a lift half names (04, R79). -/
def LiftHalf.handover : LiftHalf → Option Nat
  | .taker n => some n
  | .relocation n => some n
  | .foreign _ => none

/-- The handovers an operation's halves name, the set half's first. -/
def Operation.records (o : Operation) : List Nat :=
  (o.setHalf.bind SetHalf.handover).toList ++ (o.liftHalf.bind LiftHalf.handover).toList

/-- The column whose operation in flight names a handover (02, R28). -/
def State.operationOf (s : State) (n : Nat) : Option Nat :=
  indexFrom (fun k => match k.op with | some o => o.records.contains n | none => false) s.columns 0

/-- A record in SETTING or LIFTING, or CARRIED with its set in flight, is in flight (02, R28). -/
def State.recordInFlight (s : State) (h : Handover) : Bool :=
  h.state == .setting || h.state == .lifting || (s.operationOf h.number).isSome

/-! ### Notices, frames and replies -/

/-- A counter that stops at a bound. -/
def countUp (bound n : Nat) : Nat := if n < bound then n + 1 else n

namespace State

/-- The state with the link unit changed. -/
def modLink (s : State) (f : LinkUnit → LinkUnit) : State := { s with link := f s.link }

/-- Put a notice in the notice queue (10, R191): it takes the sequence number and the time; one
that finds 32 in the queue is discarded, which sets the overrun flag and counts it lost. -/
def notify (s : State) (b : NoticeBody) : State :=
  s.modLink fun l =>
    if l.notices.length < Config.noticeCap then
      { l with
        notices := l.notices ++ [⟨l.nextSeq, s.time, b⟩]
        nextSeq := l.nextSeq + 1 }
    else
      { l with overrun := true, lost := countUp 255 l.lost, nextSeq := l.nextSeq + 1 }

/-- Put notices in the queue in order. -/
def notifyAll (s : State) (bs : List NoticeBody) : State := bs.foldl notify s

/-- Put a frame for an address in the fleet transmit queue (10, R195); one that finds 64 there is
discarded and counted. -/
def send (s : State) (a : Nat) (m : FleetMsg) : State :=
  s.modLink fun l =>
    if l.fleet.length < Config.fleetCap then { l with fleet := l.fleet ++ [⟨a, m⟩] }
    else { l with fleetDrops := countUp 65535 l.fleetDrops }

/-- Refuse a robot's frame. -/
def sendRefused (s : State) (a : Nat) (r : Status) (d : RefusedDetail) : State :=
  s.send a (.refused r d)

/-- ATTENTION is asserted while the notice queue holds a notice (10, R192). -/
def attention (s : State) : Bool := !s.link.notices.isEmpty

/-- The level on a zone's ZONE_MODE pair (08, R156). -/
def zoneModePair (s : State) (z : Nat) : Nat := (s.zones.driven.get z).level

end State

/-- A step inside a command together with the notices it produces, for rules that place the notices
after others (04, R100). -/
abbrev Noted := State × List NoticeBody

/-- Put the notices of a step in the queue at once. -/
def Noted.emit (p : Noted) : State := p.1.notifyAll p.2

end Sys2Proof.Machine
end

