-- ==== Sys2Proof/Machine/Operands.lean ====
section
/-! DEFINITION. The bodies of host requests and robot frames: R187's decoding of each, with the two
refusals R187 gives, and the bodies' encoding, which the outside uses. Multi-byte fields are most
significant byte first (10, 10.2). Numbers and enumeration bytes are passed on as they are; the
owning block checks them (R187). -/

namespace Sys2Proof.Machine

/-- A body as decoded, or the status the link unit refuses it with. -/
abbrev Decoded (α : Type) := Except Status α

/-- A body that does not decode (10, R187). -/
def badBody {α : Type} : Decoded α := .error .badBody

/-- A selector beyond the alternatives: R187 says neither BAD_BODY nor OUT_OF_RANGE (log 5). -/
def badSelector {α : Type} (sel : Byte) : Decoded α :=
  .error (if Config.badSelectorIsBadBody sel then .badBody else .outOfRange)

/-! ### Multi-byte fields -/

/-- Two bytes as a field. -/
def be16 (a b : Byte) : Word16 := a ++ b
/-- Four bytes as a field. -/
def be32 (a b c d : Byte) : Word32 := a ++ b ++ c ++ d
/-- Six bytes as a serial. -/
def be48 (a b c d e f : Byte) : Serial := a ++ b ++ c ++ d ++ e ++ f
/-- Bytes as a number, most significant first. -/
def beNat (bs : List Byte) : Nat := bs.foldl (fun n b => n * 256 + b.toNat) 0

/-- The two bytes of a field. -/
def bytes16 (w : Word16) : List Byte := [w.extractLsb' 8 8, w.extractLsb' 0 8]
/-- The four bytes of a field. -/
def bytes32 (w : Word32) : List Byte :=
  [w.extractLsb' 24 8, w.extractLsb' 16 8, w.extractLsb' 8 8, w.extractLsb' 0 8]
/-- The six bytes of a serial. -/
def bytes48 (w : Serial) : List Byte :=
  [w.extractLsb' 40 8, w.extractLsb' 32 8, w.extractLsb' 24 8, w.extractLsb' 16 8,
    w.extractLsb' 8 8, w.extractLsb' 0 8]
/-- A number in one byte. -/
def byte (n : Nat) : Byte := BitVec.ofNat 8 n
/-- A number in two bytes. -/
def nat16 (n : Nat) : List Byte := bytes16 (BitVec.ofNat 16 n)
/-- A number in four bytes. -/
def nat32 (n : Nat) : List Byte := bytes32 (BitVec.ofNat 32 n)

/-! ### Values passed on as bytes -/

/-- A taker byte: 0 NONE, 255 ANY, else an address, which the owner checks (10, R187; 02, R31). -/
def Taker.ofByte (b : Byte) : Taker :=
  if b = 0 then .none else if b = 255 then .any else .addr b.toNat

/-- The byte of a taker (10, R187). -/
def Taker.toByte : Taker → Byte
  | .none => 0
  | .any => 255
  | .addr a => byte a

/-- The mode of a level byte, if it is one (10, R187). -/
def Mode.ofByte? (b : Byte) : Option Mode :=
  if b = 0 then some .openMode else if b = 1 then some .drain
  else if b = 2 then some .service else if b = 3 then some .closed else none

/-- The class of its place byte, if it is one (10, R187). -/
def Cls.ofByte? (b : Byte) : Option Cls :=
  if b = 0 then some .service else if b = 1 then some .recovery
  else if b = 2 then some .audit else if b = 3 then some .transfer else none

/-- The operation kind of its place byte, in the order of R79, if it is one. -/
def OpKind.ofByte? (b : Byte) : Option OpKind :=
  if b = 0 then some .set else if b = 1 then some .lift
  else if b = 2 then some .swap else if b = 3 then some .scan else none

/-- The operation result of its place byte, in the order of R91, if it is one. -/
def OpResult.ofByte? (b : Byte) : Option OpResult :=
  if b = 0 then some .ok else if b = 1 then some .failed else none

/-- The fault kind of its place byte, in the order of R10, if it is one. -/
def FaultKind.ofByte? (b : Byte) : Option FaultKind :=
  if b = 0 then some .jam else if b = 1 then some .misalign
  else if b = 2 then some .sensor else none

/-- The handover state of its place byte, in the order of 02, 2.1, if it is one. -/
def HandoverState.ofByte? (b : Byte) : Option HandoverState :=
  if b = 0 then some .openState else if b = 1 then some .setting
  else if b = 2 then some .staged else if b = 3 then some .lifting
  else if b = 4 then some .carried else if b = 5 then some .parked
  else if b = 6 then some .unlocated else none

/-! ### Request bodies -/

namespace Body

/-- A body without fields (COMMIT, RESET_SECTION, MODE_CANCEL, QUERY_ZONES, STATUS, READY,
DROP_OFF). -/
def nothing : List Byte → Decoded Unit
  | [] => .ok ()
  | _ => badBody

/-- A one-byte body: an index, an XP number or a lock group. -/
def one : List Byte → Decoded Nat
  | [a] => .ok a.toNat
  | _ => badBody

/-- A handover number. -/
def number : List Byte → Decoded Nat
  | [a, b] => .ok (be16 a b).toNat
  | _ => badBody

/-- The sizes of the twelve fields of SET_PARAMETERS (09, R175, R176; 10, R187): a time in s is 2
bytes, a time in ms 4, the threshold, the set of classes and the level 1 each. -/
def paramSizes : List Nat := [2, 2, 2, 2, 2, 2, 2, 2, 4, 1, 1, 1]

/-- Fields each preceded by 1 for a value or 0 for KEEP. -/
def keepFields : List Nat → List Byte → Decoded (List (Option Nat))
  | [], [] => .ok []
  | [], _ :: _ => badBody
  | _ :: _, [] => badBody
  | w :: ws, p :: rest =>
    if p = 0 then (keepFields ws rest).map (none :: ·)
    else if p = 1 ∧ w ≤ rest.length then
      (keepFields ws (rest.drop w)).map (some (beNat (rest.take w)) :: ·)
    else badBody

/-- SET_PARAMETERS: the twelve fields in the order of R175, none for KEEP (09, R176). -/
def setParameters (b : List Byte) : Decoded (List (Option Nat)) := keepFields paramSizes b

/-- The fields of DEFINE_COLUMN (09, R177). -/
structure DefineColumn where
  index : Nat
  x : Nat
  y : Nat
  zone : Nat
  group : Nat
  capacity : Nat
  settle : Option Nat
  deriving DecidableEq, Repr

/-- DEFINE_COLUMN: index, coordinate, zone, lock group, capacity, settle time if given. -/
def defineColumn : List Byte → Decoded DefineColumn
  | [i, x, y, z, g, k, p] =>
    if p = 0 then .ok ⟨i.toNat, x.toNat, y.toNat, z.toNat, g.toNat, k.toNat, none⟩ else badBody
  | [i, x, y, z, g, k, p, t3, t2, t1, t0] =>
    if p = 1 then
      .ok ⟨i.toNat, x.toNat, y.toNat, z.toNat, g.toNat, k.toNat, some (be32 t3 t2 t1 t0).toNat⟩
    else badBody
  | _ => badBody

/-- MAP_XP: XP number, then an index or NONE (01, R17). -/
def mapXp : List Byte → Decoded (Nat × Option Nat)
  | x :: sel :: rest =>
    if sel = 0 then
      match rest with
      | [c] => .ok (x.toNat, some c.toNat)
      | _ => badBody
    else if sel = 1 then
      match rest with
      | [] => .ok (x.toNat, none)
      | _ => badBody
    else badSelector sel
  | _ => badBody

/-- A robot by address or by serial, and the bytes after it (05, R113). -/
def robotRef : List Byte → Decoded (RobotRef × List Byte)
  | sel :: rest =>
    if sel = 0 then
      match rest with
      | a :: more => .ok (.address a.toNat, more)
      | _ => badBody
    else if sel = 1 then
      match rest with
      | a :: b :: c :: d :: e :: f :: more => .ok (.serial (be48 a b c d e f), more)
      | _ => badBody
    else badSelector sel
  | [] => badBody

/-- DISMISS and QUERY_ROBOT: a robot (05, R121, R122). -/
def robot (b : List Byte) : Decoded RobotRef :=
  match robotRef b with
  | .ok (r, []) => .ok r
  | .ok (_, _ :: _) => badBody
  | .error e => .error e

/-- ADMIT: a robot and a class byte (05, R113). -/
def admission (b : List Byte) : Decoded (RobotRef × Byte) :=
  match robotRef b with
  | .ok (r, [c]) => .ok (r, c)
  | .ok _ => badBody
  | .error e => .error e

/-- A target of OPEN_HANDOVER (02, R31). -/
inductive Target where
  | xp (number : Nat)
  | zone (number : Nat)
  deriving DecidableEq, Repr

/-- The fields of OPEN_HANDOVER (02, R31). -/
structure OpenHandover where
  tag : BinTag
  giver : Nat
  taker : Taker
  target : Target
  deriving DecidableEq, Repr

/-- OPEN_HANDOVER: tag, giver, taker, target (02, R31). -/
def openHandover : List Byte → Decoded OpenHandover
  | t3 :: t2 :: t1 :: t0 :: g :: k :: sel :: rest =>
    if sel = 0 then
      match rest with
      | [x] => .ok ⟨be32 t3 t2 t1 t0, g.toNat, Taker.ofByte k, .xp x.toNat⟩
      | _ => badBody
    else if sel = 1 then
      match rest with
      | [z] => .ok ⟨be32 t3 t2 t1 t0, g.toNat, Taker.ofByte k, .zone z.toNat⟩
      | _ => badBody
    else badSelector sel
  | _ => badBody

/-- ASSIGN_TAKER: number and taker (02, R36). -/
def assignTaker : List Byte → Decoded (Nat × Taker)
  | [a, b, k] => .ok ((be16 a b).toNat, Taker.ofByte k)
  | _ => badBody

/-- QUERY_HANDOVER names a record by number or by bin tag (02, R40). -/
inductive HandoverRef where
  | number (n : Nat)
  | tag (t : BinTag)
  deriving DecidableEq, Repr

/-- QUERY_HANDOVER (02, R40). -/
def queryHandover : List Byte → Decoded HandoverRef
  | sel :: rest =>
    if sel = 0 then
      match rest with
      | [a, b] => .ok (.number (be16 a b).toNat)
      | _ => badBody
    else if sel = 1 then
      match rest with
      | [a, b, c, d] => .ok (.tag (be32 a b c d))
      | _ => badBody
    else badSelector sel
  | [] => badBody

/-- A filter byte or ALL, and the bytes after it (02, R41). -/
def filterOrAll : List Byte → Decoded (Option Byte × List Byte)
  | sel :: rest =>
    if sel = 0 then
      match rest with
      | v :: more => .ok (some v, more)
      | _ => badBody
    else if sel = 1 then .ok (none, rest)
    else badSelector sel
  | [] => badBody

/-- The fields of LIST_HANDOVERS; no filter is ALL (02, R41). -/
structure ListHandovers where
  state : Option Byte
  zone : Option Byte
  start : Nat
  deriving DecidableEq, Repr

/-- LIST_HANDOVERS: state filter, zone filter, start number (02, R41). -/
def listHandovers (b : List Byte) : Decoded ListHandovers :=
  match filterOrAll b with
  | .error e => .error e
  | .ok (st, rest) =>
    match filterOrAll rest with
    | .error e => .error e
    | .ok (z, [h, l]) => .ok ⟨st, z, (be16 h l).toNat⟩
    | .ok _ => badBody

/-- Tags, four bytes each. -/
def tags : List Byte → Decoded (List BinTag)
  | [] => .ok []
  | a :: b :: c :: d :: rest => (tags rest).map (be32 a b c d :: ·)
  | _ => badBody

/-- RECONCILE_COLUMN: index and a list of 0 to 4 tags (07, R142); a count above 4 does not decode
(10, R187). -/
def reconcile : List Byte → Decoded (Nat × List BinTag)
  | c :: n :: rest =>
    if n.toNat ≤ 4 ∧ rest.length = 4 * n.toNat then (tags rest).map (c.toNat, ·) else badBody
  | _ => badBody

/-- What RELEASE_FREEZE names (07, R151). -/
inductive FreezeTarget where
  | column (index : Nat)
  | zone (number : Nat)
  deriving DecidableEq, Repr

/-- RELEASE_FREEZE: an index or a zone number (07, R151). -/
def releaseFreeze : List Byte → Decoded FreezeTarget
  | sel :: rest =>
    if sel = 0 then
      match rest with
      | [c] => .ok (.column c.toNat)
      | _ => badBody
    else if sel = 1 then
      match rest with
      | [z] => .ok (.zone z.toNat)
      | _ => badBody
    else badSelector sel
  | [] => badBody

/-- MODE_REQUEST: four target levels, zone 0 first (08, R157). -/
def modeRequest : List Byte → Decoded (Quad Byte)
  | [a, b, c, d] => .ok ⟨a, b, c, d⟩
  | _ => badBody

/-! ### Robot frame bodies -/

/-- The fields of ANNOUNCE (05, R108). -/
structure Announce where
  serial : Serial
  boot : Word16
  gripper : Nat
  level : Nat
  load : BinTag
  deriving DecidableEq, Repr

/-- ANNOUNCE: serial, boot count, gripper class, protocol level, load tag (05, R108). -/
def announce : List Byte → Decoded Announce
  | [s5, s4, s3, s2, s1, s0, b1, b0, g, l, t3, t2, t1, t0] =>
    .ok ⟨be48 s5 s4 s3 s2 s1 s0, be16 b1 b0, g.toNat, l.toNat, be32 t3 t2 t1 t0⟩
  | _ => badBody

/-- LOAD_REPORT: a bin tag (05, R115). -/
def loadReport : List Byte → Decoded BinTag
  | [a, b, c, d] => .ok (be32 a b c d)
  | _ => badBody

/-- GRANT_REQ: index and class byte, which R59 checks (03, R59). -/
def grantReq : List Byte → Decoded (Nat × Byte)
  | [c, k] => .ok (c.toNat, k)
  | _ => badBody

/-- The fields of OP_START; the kind byte is checked by R81. -/
structure OpStart where
  column : Nat
  kind : Byte
  tag : BinTag
  deriving DecidableEq, Repr

/-- OP_START: index, kind, bin tag (04, R81). -/
def opStart : List Byte → Decoded OpStart
  | [c, k, t3, t2, t1, t0] => .ok ⟨c.toNat, k, be32 t3 t2 t1 t0⟩
  | _ => badBody

/-- The fields of OP_END; the result byte and the height are checked by R91. -/
structure OpEnd where
  column : Nat
  result : Byte
  height : Nat
  tag : BinTag
  deriving DecidableEq, Repr

/-- OP_END: index, result, observed height, observed top tag (04, R91). -/
def opEnd : List Byte → Decoded OpEnd
  | [c, r, h, t3, t2, t1, t0] => .ok ⟨c.toNat, r, h.toNat, be32 t3 t2 t1 t0⟩
  | _ => badBody

/-- FAULT_REPORT: index and kind; a kind beyond the list is refused OUT_OF_RANGE by the link unit,
since R10 has no check for it (10, R187). -/
def faultReport : List Byte → Decoded (Nat × FaultKind)
  | [c, k] =>
    match FaultKind.ofByte? k with
    | some f => .ok (c.toNat, f)
    | none => .error .outOfRange
  | _ => badBody

/-! ### The bodies' encoding, for the outside -/

/-- The body of SET_PARAMETERS for twelve values or KEEPs. -/
def encKeepFields : List Nat → List (Option Nat) → List Byte
  | w :: ws, v :: vs =>
    (match v with
      | none => [0]
      | some n => 1 :: (if w = 1 then [byte n] else if w = 2 then nat16 n else nat32 n)) ++
      encKeepFields ws vs
  | _, _ => []

/-- The body of SET_PARAMETERS. -/
def encSetParameters (vs : List (Option Nat)) : List Byte := encKeepFields paramSizes vs

/-- The body of DEFINE_COLUMN. -/
def encDefineColumn (d : DefineColumn) : List Byte :=
  [byte d.index, byte d.x, byte d.y, byte d.zone, byte d.group, byte d.capacity] ++
    (match d.settle with
      | none => [0]
      | some t => 1 :: nat32 t)

/-- The body of MAP_XP. -/
def encMapXp (x : Nat) : Option Nat → List Byte
  | some c => [byte x, 0, byte c]
  | none => [byte x, 1]

/-- A robot by address or by serial. -/
def encRobotRef : RobotRef → List Byte
  | .address a => [0, byte a]
  | .serial s => 1 :: bytes48 s

/-- The body of OPEN_HANDOVER. -/
def encOpenHandover (q : OpenHandover) : List Byte :=
  bytes32 q.tag ++ [byte q.giver, q.taker.toByte] ++
    (match q.target with
      | .xp x => [0, byte x]
      | .zone z => [1, byte z])

/-- The body of ASSIGN_TAKER. -/
def encAssignTaker (n : Nat) (k : Taker) : List Byte := nat16 n ++ [k.toByte]

/-- The body of QUERY_HANDOVER. -/
def encHandoverRef : HandoverRef → List Byte
  | .number n => 0 :: nat16 n
  | .tag t => 1 :: bytes32 t

/-- A filter byte or ALL. -/
def encFilter : Option Byte → List Byte
  | some v => [0, v]
  | none => [1]

/-- The body of LIST_HANDOVERS. -/
def encListHandovers (q : ListHandovers) : List Byte :=
  encFilter q.state ++ encFilter q.zone ++ nat16 q.start

/-- The body of RECONCILE_COLUMN. -/
def encReconcile (c : Nat) (ts : List BinTag) : List Byte :=
  byte c :: byte ts.length :: ts.flatMap bytes32

/-- The body of RELEASE_FREEZE. -/
def encReleaseFreeze : FreezeTarget → List Byte
  | .column c => [0, byte c]
  | .zone z => [1, byte z]

/-- The body of MODE_REQUEST. -/
def encModeRequest (q : Quad Mode) : List Byte :=
  [byte q.z0.level, byte q.z1.level, byte q.z2.level, byte q.z3.level]

/-- The body of ANNOUNCE. -/
def encAnnounce (a : Announce) : List Byte :=
  bytes48 a.serial ++ bytes16 a.boot ++ [byte a.gripper, byte a.level] ++ bytes32 a.load

/-- The body of GRANT_REQ. -/
def encGrantReq (c : Nat) (k : Cls) : List Byte := [byte c, byte k.rank]

/-- The body of OP_START. -/
def encOpStart (q : OpStart) : List Byte := [byte q.column, q.kind] ++ bytes32 q.tag

/-- The body of OP_END. -/
def encOpEnd (q : OpEnd) : List Byte :=
  [byte q.column, q.result, byte q.height] ++ bytes32 q.tag

end Body

end Sys2Proof.Machine
end

