-- ==== Sys2Proof/Machine/Flags.lean ====
section
/-! DEFINITION. The conditions the blocks test: freeze, effective mode, eligibility, deadline
suspension and settling; and the judging of deadlines. -/

namespace Sys2Proof.Machine

/-! ### Freeze causes -/

/-- A column is frozen while its set of causes is not empty (01, R7). -/
def Causes.any (k : Causes) : Bool := k.discrepancy || k.suspect || k.zone

/-- The status a frozen column refuses gripper work with: SUSPECT if SUSPECT is in the set, FROZEN
otherwise (01, R7). -/
def Causes.status (k : Causes) : Status := if k.suspect then .suspect else .frozen

/-- The set without DISCREPANCY and SUSPECT, which leave together (07, R139). -/
def Causes.confirmed (k : Causes) : Causes := { k with discrepancy := false, suspect := false }

namespace State

/-- A column has at least one freeze cause (01, R7). -/
def frozen (s : State) (c : Nat) : Bool := (s.col c).causes.any

/-! ### Zones -/

/-- A tightened zone: the transition's target is stricter than the zone's current mode (08, R155). -/
def tightens (s : State) (t : Transition) (z : Nat) : Bool :=
  (t.targets.get z).stricter (s.zones.current.get z)

/-- The transition is a tightening one for a zone: a target stricter than its current mode, and the
hold transition for every zone (02, R32; 08, R168). -/
def tightensFor (s : State) (t : Transition) (z : Nat) : Bool := t.kind == .hold || s.tightens t z

/-- A tightening transition, in WAITING or CHANGING, is in flight for a zone (02, R32). -/
def tightening (s : State) (z : Nat) : Bool :=
  match s.zones.trans with
  | some t => s.tightensFor t z
  | none => false

/-- The effective mode of a zone (03, R58). -/
def effective (s : State) (z : Nat) : Mode :=
  if s.zones.hold then .closed
  else
    match s.zones.trans with
    | some t =>
      if t.kind == .hold then .closed
      else if s.tightens t z then t.targets.get z
      else s.zones.current.get z
    | none => s.zones.current.get z

end State

/-- The grant classes a mode permits (03, R58). -/
def modePermits : Mode → Cls → Bool
  | .openMode, _ => true
  | .drain, _ => true
  | .service, k => k == .service
  | .closed, _ => false

namespace State

/-- The effective mode of a column's zone permits a class (03, R58). -/
def permitted (s : State) (c : Nat) (k : Cls) : Bool := modePermits (s.effective (s.zoneOf c)) k

/-! ### Eligibility for allocation -/

/-- The first condition of R32 that fails for a column, or none when it is eligible (02, R32). -/
def obstacle (s : State) (c : Nat) : Option Reason :=
  match s.mappedBy c with
  | none => some .unmapped
  | some x =>
    if (s.col c).retired || ((s.xp x).map (·.remapPending)).getD false then some .retired
    else if s.locked c then some .locked
    else if s.frozen c then some .frozen
    else if (s.col c).verification == .unverified then some .unverified
    else if s.zones.current.get (s.zoneOf c) != .openMode || s.tightening (s.zoneOf c) ||
        s.zones.hold then some .zoneMode
    else if !s.hasRoom c then some .full
    else none

/-- The part's choice for a zone target: of the mapped columns of the zone that are eligible, the
one with the smallest depth + reservations + inbound, ties to the lowest XP number (02, R34). -/
def chooseInZone (s : State) (z : Nat) : Option (Nat × Nat) :=
  (List.range Config.xpCount).foldl
    (fun best x =>
      match s.xp x with
      | none => best
      | some e =>
        if (s.defn e.column).map (·.zone) != some z || (s.obstacle e.column).isSome then best
        else
          match best with
          | none => some (x, e.column)
          | some b => if s.roomUsed e.column < s.roomUsed b.2 then some (x, e.column) else best)
    none

/-! ### Deadlines -/

/-- The suspension conditions of a record's deadline on a column (02, R43). -/
def suspendConds (s : State) (c : Nat) : SuspendConds where
  frozen := s.frozen c
  zoneMode := Mode.service.level ≤ (s.zones.current.get (s.zoneOf c)).level
  tightening :=
    match s.zones.trans with
    | some t =>
      t.state == .changing && s.tightensFor t (s.zoneOf c) &&
        Mode.service.level ≤ (t.targets.get (s.zoneOf c)).level
    | none => false

/-- At least one suspension condition holds (02, R43). -/
def suspends (s : State) (c : Nat) : Bool :=
  (s.suspendConds c).frozen || (s.suspendConds c).zoneMode || (s.suspendConds c).tightening

end State

/-- A deadline that is not stopped is SUSPENDED or RUNNING as R43 gives; a stopped one stays. -/
def Deadline.judge (suspended : Bool) (d : Deadline) : Deadline :=
  match d.cond with
  | .stopped => d
  | _ => { d with cond := if suspended then .suspended else .running }

/-- A deadline stopped with its remaining time (02, R47). -/
def Deadline.stop (d : Deadline) : Deadline := { d with cond := .stopped }

namespace State

/-- Judge again the deadline of one record. A record without a column is never suspended
(02, R43). -/
def judged (s : State) (h : Handover) : Handover :=
  match h.column with
  | some c => { h with deadline := h.deadline.map (Deadline.judge (s.suspends c)) }
  | none => { h with deadline := h.deadline.map (Deadline.judge false) }

/-- Judge again the deadlines of the records whose column field names a column (07, R138). -/
def judgeColumn (s : State) (c : Nat) : State :=
  s.modHandovers (fun h => h.column == some c) s.judged

/-- Judge again the deadlines of the records on the columns of a zone (08, R163, R164). -/
def judgeZone (s : State) (z : Nat) : State :=
  s.modHandovers
    (fun h => match h.column with
      | some c => (s.defn c).map (·.zone) == some z
      | none => false) s.judged

/-- Judge again the deadlines of the records on every column (08, R168). -/
def judgeAll (s : State) : State := s.modHandovers (fun h => h.column.isSome) s.judged

/-- A COLLECT deadline at the full collect limit on a column, RUNNING or SUSPENDED as R43 gives. -/
def freshCollect (s : State) (c : Nat) : Deadline :=
  ⟨.collect, s.params.collectLimit * 1000, if s.suspends c then .suspended else .running⟩

/-- A STAGE deadline at the full stage limit, RUNNING (02, R35, R51). -/
def freshStage (s : State) : Deadline := ⟨.stage, s.params.stageLimit * 1000, .running⟩

/-- A stopped deadline goes on from its remaining time, RUNNING or SUSPENDED as R43 gives
(02, R53). -/
def resumed (s : State) (h : Handover) : Handover :=
  s.judged { h with deadline := h.deadline.map fun d => { d with cond := .running } }

/-- Add DISCREPANCY to a column and judge its deadlines (07, R138). -/
def addDiscrepancy (s : State) (c : Nat) : State :=
  (s.modCol c fun k => { k with causes := { k.causes with discrepancy := true } }).judgeColumn c

/-- Add SUSPECT to a column and judge its deadlines (07, R138). -/
def addSuspect (s : State) (c : Nat) : State :=
  (s.modCol c fun k => { k with causes := { k.causes with suspect := true } }).judgeColumn c

/-- Add ZONE to a column and judge its deadlines (07, R138). -/
def addZoneCause (s : State) (c : Nat) : State :=
  (s.modCol c fun k => { k with causes := { k.causes with zone := true } }).judgeColumn c

/-- Remove DISCREPANCY and SUSPECT from a column and judge its deadlines (07, R139). -/
def confirmStack (s : State) (c : Nat) : State :=
  (s.modCol c fun k => { k with causes := k.causes.confirmed }).judgeColumn c

/-- What is left of the settle time since the last settle mark, in ms (04, R82; log 8). -/
def settleLeft (s : State) (c : Nat) : Nat := (((s.col c).settleMark).map (·.left)).getD 0

/-- Write the last settle mark of a column (04, R82). -/
def markSettle (s : State) (c : Nat) : State :=
  s.modCol c fun k =>
    { k with settleMark := some ⟨s.time, (k.defn.map (·.settle)).getD 0⟩ }

/-- The audit tick interval in ms (06, R126). -/
def tickInterval (s : State) : Nat :=
  if s.mappedCount = 0 then s.params.auditPeriod * 1000
  else s.params.auditPeriod * 1000 / s.mappedCount

/-- The section is RUNNING (09, R174). -/
def running (s : State) : Bool := s.sectionState == .running

end State

end Sys2Proof.Machine
end

