-- ==== Sys2Proof/Machine/Wire.lean ====
section
/-! DEFINITION. The bytes of the frames the part sends (10, 10.2, R187): replies, notices and frames
to robots. Where R187 gives a field no size or form, log 15 says what is taken. -/

namespace Sys2Proof.Machine.Wire
open Sys2Proof Sys2Proof.Machine

/-! ### CRC-16 (10, 10.2) -/

/-- One bit of the division by x^16 + x^12 + x^5 + 1. -/
def crcBit (c : Word16) : Word16 := if c.msb then (c <<< 1) ^^^ 0x1021#16 else c <<< 1

/-- One byte, most significant bit first. -/
def crcByte (c : Word16) (b : Byte) : Word16 :=
  (List.range 8).foldl (fun c _ => crcBit c) (c ^^^ (b.zeroExtend 16 <<< 8))

/-- The CRC-16 of bytes, from FFFF. -/
def crc (bs : List Byte) : Word16 := bs.foldl crcByte 0xFFFF#16

/-- A control frame (10, 10.2). -/
def controlFrame (kind : Byte) (tag : Word16) (body : List Byte) : List Byte :=
  let inner := nat16 (body.length + 3) ++ kind :: bytes16 tag ++ body
  0xC3#8 :: inner ++ bytes16 (crc inner)

/-- A fleet frame (10, 10.2). -/
def fleetFrame (addr kind : Byte) (body : List Byte) : List Byte :=
  let inner := byte (body.length + 2) :: addr :: kind :: body
  0x69#8 :: inner ++ bytes16 (crc inner)

/-! ### Field types (10, R187) -/

/-- A one-byte number. -/
def n1 (n : Nat) : List Byte := [byte n]
/-- Set / clear, yes / no. -/
def flag (b : Bool) : List Byte := [byte b.toNat]
/-- A field that may be absent. -/
def opt {α : Type} (f : α → List Byte) : Option α → List Byte
  | none => [0]
  | some a => 1 :: f a
/-- An index or NO_SPARE: the selector of a choice, then the index (01, R20; 09, R181). -/
def orNoSpare : Option Nat → List Byte
  | some c => 0 :: n1 c
  | none => [1]
/-- A list: its count, then its entries. -/
def list {α : Type} (f : α → List Byte) (as : List α) : List Byte := byte as.length :: as.flatMap f
/-- A zone mode is its level. -/
def mode (m : Mode) : List Byte := n1 m.level
/-- One value for each zone, zone 0 first. -/
def quad {α : Type} (f : α → List Byte) (q : Quad α) : List Byte := f q.z0 ++ f q.z1 ++ f q.z2 ++ f q.z3
/-- A grant class is its place in the descending order. -/
def cls (k : Cls) : List Byte := n1 k.rank
/-- A stack entry by kind and content. -/
def entry : EntryView → List Byte
  | .tracked n t => 0 :: nat16 n ++ bytes32 t
  | .foreign t => 1 :: bytes32 t
/-- A carried slot by kind and content. -/
def slot : Slot → List Byte
  | .empty => [0]
  | .tracked n => 1 :: nat16 n
  | .untracked t => 2 :: bytes32 t
/-- Custody by kind and content. -/
def custody : Custody → List Byte
  | .column c i => [0, byte c, byte i]
  | .robot a => [1, byte a]
  | .unlocated => [2]
/-- A set half by kind and content. -/
def setHalf : SetHalf → List Byte
  | .reserved n => 0 :: nat16 n
  | .relocation n => 1 :: nat16 n
  | .untracked t => 2 :: bytes32 t
/-- A lift half by kind and content. -/
def liftHalf : LiftHalf → List Byte
  | .taker n => 0 :: nat16 n
  | .relocation n => 1 :: nat16 n
  | .foreign t => 2 :: bytes32 t
/-- A last fault by kind (JAM, MISALIGN, SENSOR, OP_FAILED) and content (log 15). -/
def lastFault : LastFault → List Byte
  | .report k a => [byte k.ctorIdx, byte a]
  | .opFailed k a => [3, byte k.ctorIdx, byte a]
/-- A set of freeze causes, one flag each (log 15). -/
def causes (k : Causes) : List Byte := flag k.discrepancy ++ flag k.suspect ++ flag k.zone
/-- The requester of a transition: a request tag or HOLD. -/
def requester : Requester → List Byte
  | .request t => 0 :: bytes16 t
  | .hold => [1]
/-- A transition state, NONE, WAITING or CHANGING. -/
def transState : Option TransState → List Byte
  | none => [0]
  | some .waiting => [1]
  | some .changing => [2]
/-- A deadline: kind, remaining ms, condition. -/
def deadline (d : Deadline) : List Byte :=
  n1 d.kind.ctorIdx ++ nat32 d.remaining ++ n1 d.cond.ctorIdx
/-- What a query gives of a grant: the class, the revoke pending with its cause, and the remaining hold
limit, or the remaining grace of a revoked grant, absent before it starts (03, R77; 05, R122; log
15). -/
def grant (g : Grant) : List Byte :=
  cls g.cls ++ opt (fun c => n1 c.ctorIdx) g.revoke ++
    opt nat32 (if g.revoke.isSome then g.grace else g.holdLimit)
/-- An operation in flight as reported. -/
def op (o : OpKind × Nat × Word32) : List Byte := n1 o.1.ctorIdx ++ n1 o.2.1 ++ bytes32 o.2.2
/-- The parameter set in the order of R175. -/
def params (p : Params) : List Byte :=
  nat16 p.stageLimit ++ nat16 p.collectLimit ++ nat16 p.holdLimit ++ nat16 p.releaseGrace ++
    nat16 p.operationLimit ++ nat16 p.readyLimit ++ nat16 p.auditPeriod ++ nat16 p.callLimit ++
    nat32 p.interlockLimit ++ n1 p.faultThreshold ++ [p.acceptedClasses] ++ n1 p.minLevel
/-- A column's definition fields. -/
def defn (d : Defn) : List Byte :=
  n1 d.x ++ n1 d.y ++ n1 d.zone ++ n1 d.group ++ n1 d.capacity ++ nat32 d.settle
/-- The XP that maps a column, where the rule gives no "or none": one byte (02, R40, R44, R46; 06,
R130, R135). R16 keeps such a column mapped; without a mapping nothing is sent (log 22). -/
def mapping (x : Option Nat) : List Byte := x.toList.flatMap n1
/-- An entry of the map. -/
def xpEntry (e : XpEntry) : List Byte := n1 e.column ++ flag e.remapPending

/-- What a restart took from the robot in the arbiter: the grant ended by column and class, the request
removed by column, or none (05, R118; log 15). -/
def ended : Option (Nat × Cls) → Option Nat → List Byte
  | some g, _ => 0 :: n1 g.1 ++ cls g.2
  | none, some c => 1 :: n1 c
  | none, none => [2]
/-- A carried slot with the load-confirmed mark when TRACKED (05, R118; log 15). -/
def confirmedSlot (sl : Slot) (confirmed : Bool) : List Byte :=
  slot sl ++
    match sl with
    | .tracked _ => flag confirmed
    | _ => []

/-! ### Notices -/

/-- The fields of a notice (10, 10.9, and the rule of each). -/
def noticeFields : NoticeBody → List Byte
  | .handoverDone n t g k r d =>
    nat16 n ++ bytes32 t ++ n1 g ++ n1 k ++ n1 r ++ bytes32 d
  | .stageExpired n t g c x sl => nat16 n ++ bytes32 t ++ n1 g ++ n1 c ++ mapping x ++ slot sl
  | .collectExpired n t k c x i =>
    nat16 n ++ bytes32 t ++ [k.toByte] ++ n1 c ++ mapping x ++ n1 i
  | .relocationOverdue n t a k r => nat16 n ++ bytes32 t ++ n1 a ++ [k.toByte] ++ n1 r
  | .discrepancy c x k a r d e h t =>
    n1 c ++ opt n1 x ++ n1 k.ctorIdx ++ n1 a ++ n1 r.ctorIdx ++ n1 d ++ opt entry e ++ n1 h ++
      bytes32 t
  | .columnSuspect c x k a => n1 c ++ opt n1 x ++ n1 k.ctorIdx ++ n1 a
  | .columnUnverified c x z k v f d =>
    n1 c ++ mapping x ++ n1 z ++ n1 k.ctorIdx ++ n1 v.ctorIdx ++ causes f ++ n1 d
  | .auditDue c x z v d e f r l m =>
    n1 c ++ mapping x ++ n1 z ++ n1 v.ctorIdx ++ n1 d ++ opt entry e ++ causes f ++ flag r ++
      flag l ++ nat32 m
  | .columnRetired c x y z k n f xp d r i =>
    n1 c ++ n1 x ++ n1 y ++ n1 z ++ n1 k.ctorIdx ++ n1 n ++ opt lastFault f ++ opt n1 xp ++
      n1 d ++ n1 r ++ flag i
  | .remapDone x c d => n1 x ++ n1 c ++ orNoSpare d
  | .robotAnnounced a s b g l st r sl =>
    n1 a ++ bytes48 s ++ bytes16 b ++ n1 g ++ n1 l ++ n1 st.ctorIdx ++
      opt (fun r => n1 r.ctorIdx) r ++ slot sl
  | .robotRestarted a s b b' st st' r g q o sl k =>
    n1 a ++ bytes48 s ++ bytes16 b ++ bytes16 b' ++ n1 st.ctorIdx ++ n1 st'.ctorIdx ++
      opt (fun r => n1 r.ctorIdx) r ++ ended g q ++
      opt (fun o => n1 o.1.ctorIdx ++ n1 o.2) o ++ confirmedSlot sl k
  | .robotLost a s k c sl => n1 a ++ bytes48 s ++ n1 k.ctorIdx ++ n1 c ++ slot sl
  | .robotInactive a s r => n1 a ++ bytes48 s ++ n1 r.ctorIdx
  | .custodyConflict k a s t sl n st cu =>
    n1 k.ctorIdx ++ n1 a ++ bytes48 s ++ bytes32 t ++ slot sl ++ nat16 n ++ n1 st.ctorIdx ++
      custody cu
  | .modeChanged r b a zs m => requester r ++ quad mode b ++ quad mode a ++ list n1 zs ++ flag m
  | .modeFailed r m t a c => requester r ++ flag m ++ quad mode t ++ quad mode a ++ quad mode c
  | .requestOvertaken r t => requester r ++ quad mode t
  | .holdAsserted c => n1 c.ctorIdx
  | .holdReleased t c => transState t ++ quad mode c

/-- The kind of a notice (10, 10.9). -/
def noticeKind (b : NoticeBody) : Byte := byte (64 + b.ctorIdx)

/-- A notice frame: tag 0, then sequence number, time and fields (10, R191). -/
def noticeFrame (n : Notice) : List Byte :=
  controlFrame (noticeKind n.body) 0 (bytes16 n.seq ++ bytes32 n.time ++ noticeFields n.body)

/-! ### Frames to robots -/

/-- The fields of a frame to a robot (10, 10.9, and the rule of each). -/
def fleetFields : FleetMsg → List Byte
  | .address s a st r =>
    bytes48 s ++ n1 a ++ n1 st.ctorIdx ++ opt (fun r => n1 r.ctorIdx) r
  | .granted c k ms => n1 c ++ cls k ++ nat32 ms
  | .queued c k p => n1 c ++ cls k ++ n1 p
  | .refused r d =>
    n1 r.ctorIdx ++
      (match d with
        | .none => []
        | .column c => n1 c
        | .already c h => n1 c ++ n1 h
        | .settling c ms => n1 c ++ nat32 ms
        | .serial s => bytes48 s)
  | .revoke c k ms => n1 c ++ n1 k.ctorIdx ++ nat32 ms
  | .go c k ms s l => n1 c ++ n1 k.ctorIdx ++ nat32 ms ++ opt setHalf s ++ opt liftHalf l
  | .accepted d =>
    match d with
    | .none => []
    | .column c => n1 c
    | .compared c r => n1 c ++ n1 r.ctorIdx
    | .load r => n1 r.ctorIdx
    | .state st => n1 st.ctorIdx
  | .dismissed => []

/-- The kind of a frame to a robot (10, 10.9). -/
def fleetKind (m : FleetMsg) : Byte := byte (32 + m.ctorIdx)

/-- A frame to a robot (10, 10.2). -/
def robotBytes (f : FleetFrame) : List Byte :=
  fleetFrame (byte f.address) (fleetKind f.msg) (fleetFields f.msg)

/-! ### Replies -/

/-- A place a bin was left in. -/
def place : Place → List Byte
  | .column c i => [0, byte c, byte i]
  | .robot a => [1, byte a]
  | .unlocated => [2]

/-- Where a listed bin came from. -/
def cameFrom : CameFrom → List Byte
  | .column c i => [0, byte c, byte i]
  | .robot a => [1, byte a]
  | .unlocated => [2]
  | .openOn a c => [3, byte a, byte c]

/-- The custody part of a QUERY_HANDOVER reply (02, R40). -/
def custodyView : CustodyView → List Byte
  | .column c i d => [0, byte c, byte i, byte d]
  | .robot a st k => 1 :: n1 a ++ n1 st.ctorIdx ++ flag k
  | .unlocated => [2]

/-- The QUERY_HANDOVER reply (02, R40). The suspension conditions are three flags, all clear unless the
deadline is SUSPENDED (log 15). -/
def handover (h : HandoverReport) : List Byte :=
  nat16 h.number ++ bytes32 h.tag ++ n1 h.giver ++ [h.taker.toByte] ++ n1 h.state.ctorIdx ++
    opt (fun c => n1 c.1 ++ mapping c.2.1 ++ n1 c.2.2) h.column ++ custodyView h.custody ++
    opt (fun d => deadline d.1 ++ flag d.2.frozen ++ flag d.2.zoneMode ++ flag d.2.tightening)
      h.deadline ++
    opt (fun o => n1 o.1.ctorIdx ++ n1 o.2) h.inFlight ++ flag h.uncertain ++ n1 h.relocations ++
    bytes32 h.sinceOpened

/-- One record of a LIST_HANDOVERS reply (02, R41). -/
def item (h : HandoverItem) : List Byte :=
  nat16 h.number ++ bytes32 h.tag ++ n1 h.state.ctorIdx ++ [h.taker.toByte] ++ opt n1 h.column ++
    opt (fun d => n1 d.1.ctorIdx ++ nat32 d.2) h.deadline ++ flag h.uncertain

/-- The QUERY_COLUMN reply (01, R21). The count of the reserving numbers is the reservations (log 15),
and the holder's grant is given as R77 says. -/
def column (r : ColumnReport) : List Byte :=
  n1 r.index ++ defn r.defn ++ opt (fun m => n1 m.1 ++ flag m.2) r.mapping ++ flag r.retired ++
    flag r.locked ++ list entry r.stack ++ n1 r.depth ++ list nat16 r.reserving ++
    flag r.inbound ++ n1 r.freeRoom ++ n1 r.faultCount ++ opt lastFault r.lastFault ++
    causes r.causes ++ n1 r.verification.ctorIdx ++ flag r.seen ++ opt bytes32 r.sinceSettle ++
    opt (fun g => n1 g.robot ++ grant g) r.grant ++
    list (fun w => n1 w.robot ++ cls w.cls) r.waits ++ opt op r.op ++ flag r.called

/-- What QUERY_XP adds for a defined column (01, R22): eligible or not, and the reason as a field that
is absent on an eligible column (log 15). -/
def eligibility (e : EligibilityReport) : List Byte :=
  n1 e.zone ++ n1 e.depth ++ n1 e.reservations ++ flag e.inbound ++ n1 e.freeRoom ++
    flag e.retired ++ flag e.locked ++ flag e.frozen ++ n1 e.verification.ctorIdx ++
    flag e.obstacle.isNone ++ opt (fun r => n1 r.ctorIdx) e.obstacle

/-- The QUERY_XP reply (01, R22). -/
def xp (r : XpReport) : List Byte :=
  n1 r.xp ++ opt (fun m => xpEntry m.1 ++ opt eligibility m.2) r.mapping

/-- A carried slot as QUERY_ROBOT gives it (05, R122). -/
def slotView : SlotView → List Byte
  | .empty => [0]
  | .tracked n st u k => 1 :: nat16 n ++ n1 st.ctorIdx ++ flag u ++ flag k
  | .untracked t => 2 :: bytes32 t

/-- A robot's grant, waiting request, or none, by kind in that order (05, R122; log 15). -/
def standing : Standing → List Byte
  | .grant c g => 0 :: n1 c ++ grant g
  | .waiting c k p => 1 :: n1 c ++ cls k ++ n1 p
  | .none => [2]

/-- The QUERY_ROBOT reply (05, R122). -/
def robot (r : RobotReport) : List Byte :=
  n1 r.address ++ bytes48 r.robot.serial ++ bytes16 r.robot.boot ++ n1 r.robot.gripper ++
    n1 r.robot.level ++ n1 r.robot.state.ctorIdx ++ opt cls r.robot.maxClass ++
    flag r.robot.admitPending ++ opt nat32 r.robot.readyTimer ++
    opt (fun i => n1 i.ctorIdx) r.robot.lastInactive ++ slotView r.slot ++ standing r.standing ++
    opt op r.op ++ n1 r.takerOf

/-- The RECONCILE_COLUMN reply (07, R149). -/
def reconciled (r : ReconcileReport) : List Byte :=
  n1 r.index ++ list entry r.stack ++ n1 r.freeRoom ++
    list (fun l => nat16 l.1 ++ cameFrom l.2.1 ++ n1 l.2.2.ctorIdx) r.listed ++
    list nat16 r.unlocated ++ list (fun o => n1 o.1 ++ causes o.2) r.others ++
    causes r.causesLeft ++ list n1 r.remapped

/-- What every MODE_REQUEST reply gives (08, R158). -/
def modeReply (r : ModeReply) : List Byte :=
  bytes16 r.tag ++ quad mode r.current ++ transState r.state ++ opt (quad mode) r.targets

/-- What a PARTIAL reply adds: the mixed mark and the zones dropped (08, R159). -/
def dropped (ds : List (Nat × Mode × Mode)) : List Byte :=
  flag true ++ list (fun d => n1 d.1 ++ mode d.2.1 ++ mode d.2.2) ds

/-- One zone of a QUERY_ZONES reply (08, R171). -/
def zone (r : ZoneReport) : List Byte :=
  mode r.current ++ mode r.driven ++ mode r.ack ++ flag r.echoes ++ mode r.effective ++
    n1 r.defined ++ n1 r.zoneFrozen ++ n1 r.holders ++ n1 r.waiting

/-- The transition record of a QUERY_ZONES reply with its tightened zones, or state NONE alone
(08, R171). A forbidden count outside WAITING is sent as 0 (log 15). -/
def transition : Option (Transition × List Nat) → List Byte
  | none => transState none
  | some p =>
    transState (some p.1.state) ++ n1 p.1.kind.ctorIdx ++ requester p.1.requester ++
      quad mode p.1.targets ++ list (fun z => n1 z ++ n1 (p.1.forbidden.get z)) p.2 ++
      flag p.1.mixed ++ opt nat32 p.1.limit

/-- The QUERY_ZONES reply (08, R171). -/
def zones (r : ZonesReport) : List Byte :=
  quad zone r.zones ++ transition r.trans ++ flag r.hold ++ flag r.holdPending

/-- The audit part of STATUS (06, R136; log 15). -/
def audit (r : AuditReport) : List Byte :=
  n1 r.state.ctorIdx ++ n1 r.pointer ++ opt n1 r.called ++ opt nat32 r.callLimit ++
    flag r.overdue ++ opt nat32 r.tick ++ opt nat32 r.interval ++ n1 r.fresh ++ n1 r.due ++
    n1 r.unverified

/-- The STATUS reply (10, R193). -/
def status (r : StatusReport) : List Byte :=
  n1 r.section_.ctorIdx ++ params r.params ++ n1 r.defined ++ n1 r.mapped ++ n1 r.retired ++
    n1 r.remapsPending ++ quad n1 r.spares ++ n1 r.handovers ++ r.byState.flatMap n1 ++
    n1 r.robots ++ r.byRobotState.flatMap n1 ++ audit r.audit ++ quad mode r.current ++
    transState r.trans ++ flag r.hold ++ flag r.holdPending ++ list n1 r.disagree ++
    n1 r.entries ++ n1 r.overflows ++ n1 r.notices ++ n1 r.frames ++ flag r.overrun ++
    n1 r.lost ++ bytes16 r.nextSeq ++ nat16 r.controlDiscards ++ nat16 r.fleetDiscards ++
    nat16 r.fleetDrops ++ bytes32 r.time

/-- The reason of a refused COMMIT with its details (09, R178). -/
def configProblem : ConfigProblem → List Byte
  | .noMappedXp => [0]
  | .undefinedColumn x c => [1, byte x, byte c]
  | .coordinateClash x y c d => [2, byte x, byte y, byte c, byte d]
  | .noGripperClass => [3]

/-- The size in bytes of a value of SET_PARAMETERS by its place (10, R187). -/
def paramValue (i n : Nat) : List Byte :=
  if Body.paramSizes.getD i 2 = 1 then n1 n
  else if Body.paramSizes.getD i 2 = 4 then nat32 n
  else nat16 n

/-- The fields of a reply after its status code (10, R186, and the rule of each). NOT_ELIGIBLE gives
the XP and the index as fields that may be absent, for both kinds of target (log 15). -/
def replyFields : ReplyBody → List Byte
  | .none => []
  | .params p => params p
  | .paramOutOfRange i n => n1 i ++ paramValue i n
  | .defined c d => n1 c ++ defn d
  | .fieldOutOfRange i => n1 i
  | .mapped x e => n1 x ++ opt xpEntry e
  | .mappedSpare x c z v => n1 x ++ n1 c ++ n1 z ++ n1 v.ctorIdx
  | .committed d m sp ms => n1 d ++ n1 m ++ quad n1 sp ++ nat32 ms
  | .badConfig p => configProblem p
  | .sectionReset h r g o t rs =>
    n1 h ++ n1 r ++ n1 g ++ n1 o ++ transState t ++
      list (fun m => n1 m.1 ++ n1 m.2.1 ++ orNoSpare m.2.2) rs
  | .admitted a s k st => n1 a ++ bytes48 s ++ cls k ++ n1 st.ctorIdx
  | .dismissed a s sl n => n1 a ++ bytes48 s ++ slot sl ++ n1 n
  | .custodian n => nat16 n
  | .robot r => robot r
  | .opened n c x => nat16 n ++ n1 c ++ n1 x
  | .notEligible x c r => opt n1 x ++ opt n1 c ++ n1 r.ctorIdx
  | .unknownRobot f => n1 f.ctorIdx
  | .takerAssigned n k st d => nat16 n ++ [k.toByte] ++ n1 st.ctorIdx ++ opt deadline d
  | .cancelled n sl => nat16 n ++ slot sl
  | .nowParked n => nat16 n ++ n1 HandoverState.parked.ctorIdx
  | .inState st => n1 st.ctorIdx
  | .released n t p => nat16 n ++ bytes32 t ++ place p
  | .handover h => handover h
  | .handoverList is n => list item is ++ nat16 n
  | .lockFlag g b n => n1 g ++ flag b ++ n1 n
  | .columnRetired c x b => n1 c ++ opt n1 x ++ flag b
  | .reconciled r => reconciled r
  | .overCapacity r k => n1 r ++ n1 k
  | .recordInFlight n c => 0 :: nat16 n ++ n1 c
  | .columnInFlight c => [1, byte c]
  | .freezeReleased n => n1 n
  | .stillFrozen n m cs => n1 n ++ n1 m ++ list (fun p => n1 p.1 ++ causes p.2) cs
  | .column r => column r
  | .xp r => xp r
  | .mode r => modeReply r
  | .modePartial r ds => modeReply r ++ dropped ds
  | .modeCancelled c t => quad mode c ++ quad mode t
  | .zones r => zones r
  | .status r => status r
  | .overflow n => n1 n

/-- A reply frame: the request's kind and tag, the status code, the fields (10, R186). -/
def replyFrame (r : Reply) : List Byte :=
  controlFrame r.kind r.tag (n1 r.status.ctorIdx ++ replyFields r.body)

end Sys2Proof.Machine.Wire

namespace Sys2Proof.Machine.State
open Sys2Proof.Machine

/-- The control frame being sent (10, R190). -/
def controlBytes (s : State) : List Byte :=
  match s.link.tx with
  | .idle => []
  | .reply => (s.link.replies.head?.map Wire.replyFrame).getD []
  | .notice => (s.link.notices.head?.map Wire.noticeFrame).getD []

/-- The fleet frame being sent (10, R195). -/
def fleetBytes (s : State) : List Byte := (s.link.fleet.head?.map Wire.robotBytes).getD []

end Sys2Proof.Machine.State
end

