-- ==== Sys2Proof/Machine/FrontEnd.lean ====
section
/-! DEFINITION. What turns bytes and levels into commands: frame reception on both links (10, R185),
the naming of good frames (10, R186, R194), and the 2 ms filter of the plain lines (10, R196). The
partial frame a receiver holds is in State with the time left for its next byte; a byte adds the
commands it completes to the queue, and the time base its timeout (logs 17, 37). The filters are in State too; a line that moves is taken 2 ms later (log 35). -/

namespace Sys2Proof.Machine

namespace FrontEnd

/-! ### The commands good frames are -/

/-- The command of a good control frame whose tag is not 0 (10, R186, 10.9). -/
def controlCommand (kind : Byte) (tag : Word16) (body : List Byte) : Instr :=
  match kind.toNat with
  | 1 => .setParameters tag body
  | 2 => .defineColumn tag body
  | 3 => .mapXp tag body
  | 4 => .commit tag body
  | 5 => .resetSection tag body
  | 6 => .admitRobot tag body
  | 7 => .dismiss tag body
  | 8 => .queryRobot tag body
  | 9 => .openHandover tag body
  | 10 => .assignTaker tag body
  | 11 => .cancelHandover tag body
  | 12 => .releaseTracking tag body
  | 13 => .queryHandover tag body
  | 14 => .listHandovers tag body
  | 15 => .lockGroup tag body
  | 16 => .unlockGroup tag body
  | 17 => .retireColumn tag body
  | 18 => .reconcileColumn tag body
  | 19 => .releaseFreeze tag body
  | 20 => .queryColumn tag body
  | 21 => .queryXp tag body
  | 22 => .modeRequest tag body
  | 23 => .modeCancel tag body
  | 24 => .queryZones tag body
  | 25 => .status tag body
  | _ => .requestRejected kind tag body

/-- The command of a good fleet frame (10, R194, 10.9). -/
def fleetCommand (addr kind : Byte) (body : List Byte) : Instr :=
  match kind.toNat with
  | 1 => .announce addr body
  | 2 => .ready addr body
  | 3 => .loadReport addr body
  | 4 => .dropOff addr body
  | 5 => .grantReq addr body
  | 6 => .withdraw addr body
  | 7 => .release addr body
  | 8 => .opStart addr body
  | 9 => .opEnd addr body
  | 10 => .faultReport addr body
  | _ => .fleetUnknownKind addr kind

/-! ### Reception -/

/-- The sync value of a link (10, 10.2). -/
def sync : LinkId → Byte
  | .control => 0xC3#8
  | .fleet => 0x69#8

/-- What a receiver makes of the bytes it holds. -/
inductive Look where
  /-- no whole frame yet -/
  | wait
  /-- the first byte is no sync value -/
  | skip
  /-- the frame is discarded; the hunt goes on at the byte after its sync byte -/
  | discard (c : Instr)
  /-- a good frame of a length in bytes -/
  | take (c : Instr) (length : Nat)
  deriving DecidableEq, Repr

/-- A whole control frame, given whether its sync byte is good and what follows that byte up to its
end. A byte with a stop-bit error, the sync byte too, makes the frame fail its CRC check (10, R184). -/
def judgeControl (length : Nat) (syncGood : Bool) (fr : List RxByte) : Look :=
  let bs := fr.map (·.value)
  let inner := bs.take (length + 2)
  if syncGood && fr.all (·.good) && bytes16 (Wire.crc inner) == bs.drop (length + 2) then
    match inner with
    | _ :: _ :: k :: t1 :: t0 :: body =>
      if be16 t1 t0 = 0 then .discard (.controlFrameDiscard .tagZero)
      else .take (controlCommand k (be16 t1 t0) body) (length + 5)
    | _ => .discard (.controlFrameDiscard .badLength)
  else .discard (.controlFrameDiscard .badCrc)

/-- A whole fleet frame, given whether its sync byte is good and what follows that byte up to its end
(10, R184). -/
def judgeFleet (length : Nat) (syncGood : Bool) (fr : List RxByte) : Look :=
  let bs := fr.map (·.value)
  let inner := bs.take (length + 1)
  if syncGood && fr.all (·.good) && bytes16 (Wire.crc inner) == bs.drop (length + 1) then
    match inner with
    | _ :: a :: k :: body => .take (fleetCommand a k body) (length + 4)
    | _ => .discard (.fleetFrameDiscard .badLength)
  else .discard (.fleetFrameDiscard .badCrc)

/-- What the bytes a receiver holds begin with (10, R185). -/
def look (l : LinkId) : List RxByte → Look
  | [] => .wait
  | b :: rest =>
    if b.value ≠ sync l then .skip
    else
      match l, rest with
      | .control, h :: lo :: _ =>
        let n := (be16 h.value lo.value).toNat
        if n < 3 ∨ 512 < n then .discard (.controlFrameDiscard .badLength)
        else if rest.length < n + 4 then .wait
        else judgeControl n b.good (rest.take (n + 4))
      | .fleet, h :: _ =>
        let n := h.value.toNat
        if n < 2 ∨ 48 < n then .discard (.fleetFrameDiscard .badLength)
        else if rest.length < n + 3 then .wait
        else judgeFleet n b.good (rest.take (n + 3))
      | _, _ => .wait

/-- Read every frame the held bytes complete: what is left, and the commands. The first argument
bounds the reads; each read drops a byte at least. -/
def drain (l : LinkId) : Nat → List RxByte → List RxByte × List Instr
  | 0, bs => (bs, [])
  | n + 1, bs =>
    match look l bs with
    | .wait => (bs, [])
    | .skip => drain l n bs.tail
    | .discard c =>
      let r := drain l n bs.tail
      (r.1, c :: r.2)
    | .take c k =>
      let r := drain l n (bs.drop k)
      (r.1, c :: r.2)

/-- A receiver hunts through the bytes it has (10, R185): what it then holds, and the commands. -/
def hunt (l : LinkId) (bs : List RxByte) : List RxByte × List Instr := drain l bs.length bs

/-- A receiver that holds `held` receives a byte: what it then holds, and the commands. -/
def receive (l : LinkId) (held : List RxByte) (b : RxByte) : List RxByte × List Instr :=
  hunt l (held ++ [b])

/-- The partial frame a receiver holds is discarded (10, R185): the hunt resumes at the byte after its
sync byte. A partial frame that is then held has waited as long, and its timeout is a command of its
own behind those of the frames found. -/
def timeout (l : LinkId) (held : List RxByte) : List RxByte × List Instr :=
  let r := hunt l held.tail
  (r.1, r.2 ++ if r.1.isEmpty then [] else [.frameTimeout l])

/-- Every partial frame in bytes whose 20 ms have passed is discarded in turn (10, R185): how many, and
the commands of the frames found between them. The first argument bounds the discards; each drops a
byte at least. -/
def expireWithin (l : LinkId) : Nat → List RxByte → Nat × List Instr
  | 0, _ => (0, [])
  | _, [] => (0, [])
  | n + 1, _ :: bs =>
    let r := hunt l bs
    let q := expireWithin l n r.1
    (q.1 + 1, r.2 ++ q.2)

/-- Every partial frame in the bytes a receiver holds is discarded in turn. -/
def expire (l : LinkId) (held : List RxByte) : Nat × List Instr := expireWithin l held.length held

/-- The gap timer of a receiver that holds these bytes: absent while it holds none (10, R185). -/
def gap (held : List RxByte) (ms : Nat) : Option Nat := if held.isEmpty then none else some ms

/-- The commands of a run of bytes received without a pause. -/
def commands (l : LinkId) (bs : List RxByte) : List RxByte × List Instr :=
  bs.foldl
    (fun acc b =>
      let r := receive l acc.1 b
      (r.1, acc.2 ++ r.2))
    ([], [])

end FrontEnd

namespace State

/-- The partial frame a receiver holds (10, R185). -/
def held (s : State) : LinkId → List RxByte
  | .control => s.link.controlHeld
  | .fleet => s.link.fleetHeld

/-- The ms left for the next byte of the partial frame a receiver holds (10, R185). -/
def gap (s : State) : LinkId → Option Nat
  | .control => s.link.controlGap
  | .fleet => s.link.fleetGap

/-- The state with the partial frame a receiver holds replaced, and with so many ms left for its next
byte. -/
def setHeld (s : State) (l : LinkId) (bs : List RxByte) (ms : Nat) : State :=
  { s with
    link :=
      match l with
      | .control => { s.link with controlHeld := bs, controlGap := FrontEnd.gap bs ms }
      | .fleet => { s.link with fleetHeld := bs, fleetGap := FrontEnd.gap bs ms } }

/-- Count so many discarded frames of a link (10, R185). -/
def discards (s : State) (l : LinkId) (n : Nat) : State :=
  { s with
    link :=
      match l with
      | .control =>
        { s.link with controlDiscards := n.repeat (countUp 65535) s.link.controlDiscards }
      | .fleet => { s.link with fleetDiscards := n.repeat (countUp 65535) s.link.fleetDiscards } }

/-- The receiver discards the partial frame it holds and resumes its hunt (10, R185). The commands of
the frames it finds go before the waiting ones, since their bytes came first (log 17). -/
def rehunt (s : State) (l : LinkId) : State :=
  let r := FrontEnd.timeout l (s.held l)
  { s.setHeld l r.1 0 with pending := r.2 ++ s.pending }

/-- What a receiver whose 20 ms have passed holds when the next byte comes before its FRAME_TIMEOUT is
taken: nothing, for the byte cannot join a frame that has timed out (10, R185; log 37). -/
def expireHeld (s : State) (l : LinkId) : State :=
  let r := FrontEnd.expire l (s.held l)
  { (s.discards l r.1).setHeld l [] 0 with pending := r.2 ++ s.pending }

/-- The outside sends a byte on a link (10, R185): the receiver holds it and waits 20 ms for the next,
and each frame it completes or breaks is a command behind the waiting ones. -/
def byteArrives (s : State) (l : LinkId) (b : RxByte) : State :=
  let s := if s.gap l = some 0 then s.expireHeld l else s
  let r := FrontEnd.receive l (s.held l) b
  { s.setHeld l r.1 Config.frameGapMs with pending := s.pending ++ r.2 }

end State

/-! ### The plain lines -/

/-- The level on a line becomes `a`; a change starts the time of the filter anew (10, R196). -/
def Line.moved {α : Type} [DecidableEq α] (p : Line α) (a : α) : Line α :=
  if a = p.seen then p else ⟨a, 0⟩

/-- One ms of a line: it has been steady for one more, up to the time of the filter. -/
def Line.count {α : Type} (p : Line α) : Line α :=
  { p with steady := min Config.filterMs (p.steady + 1) }

/-- The filter takes a new level (10, R196): it is another than the level taken, and the line has been
steady for the time of the filter, at the new level or, where the outside gives the filtered change
alone, at the level taken (log 35). -/
def Line.takes {α : Type} [DecidableEq α] (p : Line α) (taken new : α) : Bool :=
  decide (new ≠ taken) && decide (Config.filterMs ≤ p.steady) &&
    decide (p.seen = new ∨ p.seen = taken)

/-- One ms of every filtered line. -/
def LineFilter.count (f : LineFilter) : LineFilter where
  gridHold := f.gridHold.count
  ack := ⟨f.ack.z0.count, f.ack.z1.count, f.ack.z2.count, f.ack.z3.count⟩

namespace State

/-- The outside puts a level on a ZONE_ACK pair (10, R196; log 35). -/
def ackMoves (s : State) (zone : Fin 4) (level : Mode) : State :=
  { s with
    lines := { s.lines with ack := s.lines.ack.set zone ((s.lines.ack.get zone).moved level) } }

/-- The outside puts a level on GRID_HOLD (10, R196; log 35). -/
def gridHoldMoves (s : State) (level : Bool) : State :=
  { s with lines := { s.lines with gridHold := s.lines.gridHold.moved level } }

/-- The filter of a ZONE_ACK pair takes a level, which the zone controller then holds (10, R196). -/
def takeAck (s : State) (zone : Fin 4) (level : Mode) : State :=
  { s with
    zones := { s.zones with ack := s.zones.ack.set zone level }
    lines := { s.lines with ack := s.lines.ack.set zone ⟨level, 0⟩ } }

/-- The filter of GRID_HOLD takes a level (10, R196); the zone controller sets or clears its flag. -/
def takeGridHold (s : State) (level : Bool) : State :=
  { s with lines := { s.lines with gridHold := ⟨level, 0⟩ } }

end State

end Sys2Proof.Machine
end

