-- ==== Sys2Proof/Machine/Link.lean ====
section
/-! DEFINITION. The link unit: taking requests and robot frames, the receive buffer and overflow
list, the two transmitters and the discard counters (10), and the commands that are link events. -/

namespace Sys2Proof.Machine

/-- The outcome of a command. -/
abbrev Result := Host.Outcome State Fault Refusal

namespace State

/-- The replies of the overflow list (10, R189). -/
def overflows (s : State) : Nat := s.link.replies.countP (·.overflow)

/-- Count a discarded control frame (10, R185). -/
def discardControl (s : State) : State :=
  s.modLink fun l => { l with controlDiscards := countUp 65535 l.controlDiscards }

/-- Count a discarded fleet frame (10, R185, R194). -/
def discardFleet (s : State) : State :=
  s.modLink fun l => { l with fleetDiscards := countUp 65535 l.fleetDiscards }

/-- A free control transmitter takes the oldest waiting reply, else the oldest notice (10, R190). -/
def startTx (s : State) : State :=
  s.modLink fun l =>
    match l.tx with
    | .idle =>
      if !l.replies.isEmpty then { l with tx := .reply }
      else if !l.notices.isEmpty then { l with tx := .notice }
      else l
    | _ => l

/-- Put a reply behind the replies already waiting (10, R188). -/
def reply (s : State) (r : Reply) : State :=
  s.modLink fun l => { l with replies := l.replies ++ [r] }

/-- A good control frame that finds the receive buffer full (10, R189). -/
def overflowed (s : State) (kind : Byte) (tag : Word16) : State :=
  if s.overflows < Config.overflowCap then
    s.reply ⟨kind, tag, .overflow, .overflow s.link.received.length, true⟩
  else s.discardControl

/-- A request occupies an entry of the receive buffer (10, R188). -/
def receive (s : State) (r : HostRequest) : State :=
  s.modLink fun l => { l with received := l.received ++ [r] }

end State

/-- An answer to a host request: the state its effects leave, its status and its fields. -/
structure Answer where
  state : State
  status : Status
  body : ReplyBody

/-- A refused request: it changes no state of its own (10, R186). -/
def refuse (s : State) (st : Status) (b : ReplyBody := .none) : Answer := ⟨s, st, b⟩

/-- The reply of a request is made at the event that takes it (10, R188). -/
def Answer.finish (kind : Byte) (tag : Word16) (a : Answer) : Result :=
  .next (a.state.reply ⟨kind, tag, a.status, a.body, false⟩).startTx

/-- A host request whose good frame has just arrived (10, R188): with tag 0 it is discarded (R185),
with the buffer full it overflows (R189); else it takes an entry and, since every request before it
has been taken, it is taken at once, and its reply is made at that same event. -/
def hostRequest (kind : Byte) (tag : Word16) (body : List Byte) (take : State → Answer)
    (s : State) : Result :=
  if tag = 0 then .next s.discardControl.startTx
  else if Config.receiveCap ≤ s.link.received.length then .next (s.overflowed kind tag).startTx
  else (take (s.receive ⟨kind, tag, body⟩)).finish kind tag

/-- Take a request whose body decodes; one whose body does not is rejected by the link unit
(10, R186, R187). -/
def withBody {α : Type} (d : Decoded α) (take : α → State → Answer) (s : State) : Answer :=
  match d with
  | .error e => refuse s e
  | .ok a => take a s

/-- Take a request in RUNNING only (09, R174). -/
def inRunning (take : State → Answer) (s : State) : Answer :=
  if s.running then take s else refuse s .notRunning

/-- A good frame from a robot (10, R194): at address 0 or from an address without a record it is
discarded and counted; a body that does not decode is answered REFUSED; else the owning block takes
it with the sender's address and record. -/
def robotFrame {α : Type} (addr : Byte) (d : Decoded α)
    (take : Nat → Robot → α → State → State) (s : State) : Result :=
  match s.robot addr.toNat with
  | none => .next s.discardFleet.startTx
  | some r =>
    match d with
    | .error e => .next (s.sendRefused addr.toNat e .none).startTx
    | .ok a => .next (take addr.toNat r a s).startTx

/-- An event inside the part: the free transmitter goes on with what it produced (10, R190). -/
def event (f : State → State) (s : State) : Result := .next (f s).startTx

/-! ### Link events -/

/-- REQUEST_REJECTED (10, R186): a request whose kind is not a host request kind is answered
UNKNOWN_KIND in its turn. With a kind of the catalogue the command is ill-formed, and nothing
happens (log 21). -/
def execRequestRejected (kind : Byte) (tag : Word16) (body : List Byte) (s : State) : Result :=
  if isRequestKind kind then .next s
  else hostRequest kind tag body (fun s => refuse s .unknownKind) s

/-- REQUEST_OVERFLOW (10, R189): a good control frame that finds the receive buffer full. While the
buffer has room no frame overflows, and nothing happens (log 11). -/
def execRequestOverflow (kind : Byte) (tag : Word16) (s : State) : Result :=
  if tag = 0 then .next s.discardControl.startTx
  else if Config.receiveCap ≤ s.link.received.length then .next (s.overflowed kind tag).startTx
  else .next s

/-- CONTROL_FRAME_DISCARD (10, R185): discarded without answer and counted, whatever the cause. -/
def execControlFrameDiscard (_cause : ControlDiscard) (s : State) : Result :=
  event State.discardControl s

/-- FRAME_TIMEOUT (10, R185): once 20 ms have passed without the next byte, the partial frame is
discarded and counted for its link, and the hunt resumes at the byte after its sync byte (log 17).
Before that, or with no partial frame held, nothing happens (log 2). -/
def execFrameTimeout (link : LinkId) (s : State) : Result :=
  if s.gap link = some 0 then event (fun s => (s.rehunt link).discards link 1) s else .next s

/-- CONTROL_FRAME_SENT (10, R188, R190, R191): the frame just sent leaves its queue, a request's
reply frees the request's entry of the receive buffer, and the next waiting frame begins. With
nothing being sent, nothing happens (log 16). -/
def execControlFrameSent (s : State) : Result :=
  match s.link.tx with
  | .idle => .next s
  | .reply =>
    event (fun s => s.modLink fun l =>
      match l.replies with
      | [] => { l with tx := .idle }
      | r :: rest =>
        { l with
          replies := rest
          received := if r.overflow then l.received else l.received.drop 1
          tx := .idle }) s
  | .notice => event (fun s => s.modLink fun l => { l with notices := l.notices.drop 1, tx := .idle }) s

/-- FLEET_FRAME_DISCARD (10, R185, R194): discarded without answer and counted. -/
def execFleetFrameDiscard (_cause : FleetDiscard) (s : State) : Result :=
  event State.discardFleet s

/-- FLEET_UNKNOWN_KIND (10, R194): at address 0 or from an address without a record the frame is
discarded and counted; else it is answered REFUSED UNKNOWN_KIND. With a robot-to-part kind the
command is ill-formed, and nothing happens (log 21). -/
def execFleetUnknownKind (addr kind : Byte) (s : State) : Result :=
  if isRobotKind kind then .next s
  else robotFrame addr (.ok () : Decoded Unit) (fun a _ _ s => s.sendRefused a .unknownKind .none) s

/-- FLEET_FRAME_SENT (10, R195): the oldest frame leaves the fleet transmit queue. -/
def execFleetFrameSent (s : State) : Result :=
  event (fun s => s.modLink fun l => { l with fleet := l.fleet.drop 1 }) s

end Sys2Proof.Machine
end

