-- ==== Sys2Proof/Machine/Blocks.lean ====
section
/-! DEFINITION. What one block does inside another block's event: audit reports, remaps and
retirement, the return of records and the cut-off, hand-ons and revokes, zone transitions and the
grid hold, and the end of a grant. -/

namespace Sys2Proof.Machine

namespace State

/-! ### Audit unit -/

/-- The pointer's value after it advances from a column (06, R127). -/
def pointerAfter (c : Nat) : Nat := if c + 1 < Config.columnCount then c + 1 else 0

/-- A call on a column is over: its fields become absent, the unit is IDLE and the pointer advances
(06, R132, R134). -/
def endCall (s : State) (c : Nat) : State :=
  { s with audit := ⟨.idle, pointerAfter c, none, none, false, s.audit.tick, s.audit.interval⟩ }

/-- Write a column's verification and seen mark (06, R125). -/
def setAudit (s : State) (c : Nat) (v : Verification) (seen : Bool) : State :=
  s.modCol c fun k => { k with verification := v, seen := seen }

/-- COLUMN_UNVERIFIED for a column as it stands before the change (06, R135). -/
def unverifiedNotice (s : State) (c : Nat) (cause : UnverifiedCause) : NoticeBody :=
  .columnUnverified c (s.mappedBy c) (s.zoneOf c) cause (s.col c).verification (s.col c).causes
    (s.col c).stack.length

/-- A call fails: the column becomes UNVERIFIED with seen clear (06, R132, R133). -/
def failCall (s : State) (c : Nat) (cause : UnverifiedCause) : Noted :=
  ((s.setAudit c .unverified false).endCall c, [s.unverifiedNotice c cause])

/-- A credited end on a column that is not being called (06, R132). -/
def creditColumn (s : State) (c : Nat) : State :=
  s.modCol c fun k =>
    { k with
      seen := true
      verification := if k.verification == .unverified then .fresh else k.verification }

/-- The report of an accepted OP_START (06, R131). -/
def auditStart (s : State) (c : Nat) : State :=
  if s.audit.state == .calling && s.audit.called == some c then
    { s with audit := { s.audit with state := .executing } }
  else s

/-- The report of an operation's end (06, R132). -/
def auditEnd (s : State) (c : Nat) (o : EndOutcome) : Noted :=
  if s.audit.called = some c then
    match o with
    | .credited => ((s.setAudit c .fresh false).endCall c, [])
    | .mismatch => ((s.setAudit c (s.col c).verification false).endCall c, [])
    | .heightOnly =>
      if s.audit.overdue then s.failCall c .callExpired
      else ({ s with audit := { s.audit with state := .calling } }, [])
    | .failed => s.failCall c .opFailed
    | .cutOff => s.failCall c .opCutOff
  else
    match o with
    | .credited => (s.creditColumn c, [])
    | _ => (s, [])

/-! ### Retirement and remap -/

/-- A defined column that no XP maps and that is not retired (00, 0.5). -/
def isSpare (s : State) (c : Nat) : Bool :=
  (s.defn c).isSome && (s.mappedBy c).isNone && !(s.col c).retired

/-- The lowest-index spare of a zone (01, R20). -/
def spareIn (s : State) (z : Nat) : Option Nat := (s.columnsOf z).find? s.isSpare

/-- The stack, reservations, inbound and operation a remap waits for are all gone (01, R19). -/
def remapReady (s : State) (c : Nat) : Bool :=
  (s.col c).stack.isEmpty && s.reservations c == 0 && !(s.col c).inbound && (s.col c).op.isNone

/-- Complete the remap of an XP: the spare of the retired column's zone takes it, or it becomes
UNMAPPED (01, R20); a call on the retired column ends (06, R134). -/
def completeRemap (s : State) (x c : Nat) : Noted :=
  let spare := s.spareIn (s.zoneOf c)
  let s₁ := s.setXp x (spare.map (⟨·, false⟩))
  (if s₁.audit.called = some c then s₁.endCall c else s₁, [.remapDone x c spare])

/-- Examine the remap condition of a column (01, R19). -/
def examineRemap (s : State) (c : Nat) : Noted :=
  match s.mappedBy c with
  | none => (s, [])
  | some x =>
    if ((s.xp x).map (·.remapPending)).getD false && s.remapReady c then s.completeRemap x c
    else (s, [])

/-- Examine the remap condition of each XP, ascending, whose column `p` accepts (01, R20; 07,
R148). -/
def examineRemaps (s : State) (p : Nat → Bool) : Noted :=
  (List.range Config.xpCount).foldl
    (fun acc x =>
      match acc.1.xp x with
      | some e =>
        if p e.column then
          ((acc.1.examineRemap e.column).1, acc.2 ++ (acc.1.examineRemap e.column).2)
        else acc
      | none => acc)
    (s, [])

/-- Retire a column (01, R14): the mark, its XP's remap_pending flag, COLUMN_RETIRED, and the remap
condition, whose REMAP_DONE follows. -/
def retire (s : State) (c : Nat) (cause : RetireCause) : State :=
  let k := s.col c
  let d := (s.defn c).getD ⟨0, 0, 0, 0, 0, 0⟩
  let s₁ := s.modCol c fun k => { k with retired := true }
  let s₂ :=
    match s.mappedBy c with
    | some x => s₁.setXp x (some ⟨c, true⟩)
    | none => s₁
  let s₃ := s₂.notify (.columnRetired c d.x d.y d.zone cause k.faultCount k.lastFault
    (s.mappedBy c) k.stack.length (s.reservations c) k.inbound)
  (s₃.examineRemap c).emit

/-- Count a fault against a column that is not retired; the count that reaches the threshold
retires it (01, R10 to R12). -/
def countFault (s : State) (c : Nat) (f : LastFault) : State :=
  if (s.col c).retired then s
  else
    let s₁ := s.modCol c fun k => { k with faultCount := k.faultCount + 1, lastFault := some f }
    if s.params.faultThreshold ≤ (s₁.col c).faultCount then s₁.retire c .faults else s₁

/-! ### Records of an operation -/

/-- A record returns to its prior state when its operation ends without moving the bin (02, R53,
R54): its deadline resumes; STAGED whose taker was removed becomes PARKED. -/
def returnRecord (uncertain : Bool) (s : State) (p : Nat × HandoverState) : State :=
  s.modHandover p.1 fun h =>
    if p.2 == .staged && h.taker == .none then
      { h with state := .parked, deadline := none, uncertain := h.uncertain || uncertain }
    else s.resumed { h with state := p.2, uncertain := h.uncertain || uncertain }

/-- The records of an operation's halves return to their prior states (02, R53). -/
def returnRecords (s : State) (uncertain : Bool) (o : Operation) : State :=
  o.priors.foldl (returnRecord uncertain) s

/-- Remove a column's operation record and the inbound it took (04, R94, R99, R100). -/
def clearOp (s : State) (c : Nat) (o : Operation) : State :=
  s.modCol c fun k =>
    { k with op := none, inbound := if o.inboundTaken then false else k.inbound }

/-- Cut off the operation in flight on a column, if any (04, R100). Its notices come after that of
the cause: COLUMN_SUSPECT, then those of the audit report and of the remap. COLUMN_SUSPECT names the
XP that mapped the column before that remap (log 31). -/
def cutOff (s : State) (c : Nat) (cause : SuspectCause) : Noted :=
  match (s.col c).op with
  | none => (s, [])
  | some o =>
    let s₁ := ((s.returnRecords true o).clearOp c o).addSuspect c
    let p₂ := s₁.auditEnd c .cutOff
    let p₃ := p₂.1.examineRemap c
    (p₃.1, .columnSuspect c (s.mappedBy c) cause o.robot :: (p₂.2 ++ p₃.2))

/-! ### Grant arbiter -/

/-- The full hold limit in ms (03, R65). -/
def holdMs (s : State) : Nat := s.params.holdLimit * 1000
/-- The full release grace in ms (03, R67). -/
def graceMs (s : State) : Nat := s.params.releaseGrace * 1000

/-- Make a grant and send GRANTED (03, R60, R61). -/
def makeGrant (s : State) (c a : Nat) (k : Cls) : State :=
  (s.modCol c fun q => { q with grant := some ⟨a, k, some s.holdMs, none, none⟩ }).send a
    (.granted c k s.holdMs)

/-- Hand a column without a holder on to its first permitted request (03, R61). -/
def handOn (s : State) (c : Nat) : State :=
  if (s.col c).grant.isSome then s
  else
    match takeFirst (fun w => s.permitted c w.cls) (s.col c).waits with
    | none => s
    | some (w, rest) => (s.modCol c fun q => { q with waits := rest }).makeGrant c w.robot w.cls

/-- Hand on the columns of a zone that have no holder, ascending (03, R71). -/
def handOnZone (s : State) (z : Nat) : State := (s.columnsOf z).foldl handOn s

/-- Revoke the holder of a column unless a revoke is pending (03, R66); the grace starts at once
when no operation is in flight (R67). -/
def revoke (s : State) (c : Nat) (cause : RevokeCause) : State :=
  match (s.col c).grant with
  | none => s
  | some g =>
    if g.revoke.isSome then s
    else
      (s.modCol c fun q =>
        { q with
          grant := some { g with
            revoke := some cause
            holdLimit := none
            grace := if q.op.isSome then none else some s.graceMs } }).send g.robot
        (.revoke c cause s.graceMs)

/-- The release grace of a revoked grant starts at the end of its operation (03, R67). -/
def startGrace (s : State) (c : Nat) : State :=
  s.modCol c fun q =>
    { q with
      grant := q.grant.map fun g =>
        if g.revoke.isSome then { g with grace := some s.graceMs } else g }

/-- Remove every request from a column's wait list, refusing each robot (03, R72, R74). -/
def refuseWaits (s : State) (c : Nat) (r : Status) : State :=
  (s.col c).waits.foldl (fun s w => s.sendRefused w.robot r (.column c))
    (s.modCol c fun q => { q with waits := [] })

/-! ### Zone controller -/

/-- The state with the zone controller changed. -/
def modZones (s : State) (f : ZoneCtl → ZoneCtl) : State := { s with zones := f s.zones }

/-- The zones, ascending, whose target is stricter than their current mode (08, R155). -/
def tightenedZones (s : State) (t : Transition) : List Nat := Quad.zonesWhere (s.tightens t)

/-- A zone's ACK echoes (08, R156). -/
def echoes (s : State) (z : Nat) : Bool := s.zones.ack.get z == s.zones.driven.get z

/-- All four zones echo. -/
def allEcho (s : State) : Bool := s.echoes 0 && s.echoes 1 && s.echoes 2 && s.echoes 3

/-- Hand on the columns of the zones whose effective mode is looser than in an earlier state
(03, R71), zones ascending (log 18). -/
def handOnLoosened (s before : State) : State :=
  (Quad.zonesWhere fun z => (before.effective z).stricter (s.effective z)).foldl handOnZone s

/-- The hold transition completes (08, R169). MODE_CHANGED carries the mixed mark of R164's list, clear
(log 15). -/
def completeHold (s : State) : State :=
  let before := s.zones.current
  let s₁ := s.modZones fun q => { q with current := Quad.same .closed }
  let s₂ := (s₁.definedWhere fun _ _ => true).foldl addZoneCause s₁
  let s₃ := s₂.modZones fun q => { q with trans := none }
  s₃.notify (.modeChanged .hold before (Quad.same .closed)
    (Quad.zonesWhere fun z => before.get z != .closed) false)

/-- What the beginning of the hold does to one column (08, R168): cut-off, end of the grant without
REVOKE or grace, and the wait list emptied with HOLD_ACTIVE (03, R74). -/
def holdColumn (s : State) (c : Nat) : State :=
  (((s.cutOff c .hold).emit).modCol c fun q => { q with grant := none }).refuseWaits c .holdActive

/-- The hold transition begins (08, R168). -/
def beginHold (s : State) : State :=
  let s₁ := s.modZones fun q =>
    { q with
      trans := some ⟨.changing, .hold, Quad.same .closed, Quad.same 0, .hold, false, none⟩
      holdPending := false }
  let s₂ := forUpTo Config.columnCount holdColumn s₁
  let s₃ := (s₂.modZones fun q => { q with driven := Quad.same .closed }).judgeAll
  if s₃.allEcho then s₃.completeHold else s₃

/-- At the end of a NORMAL transition a pending hold begins its own (08, R167). -/
def afterNormal (s : State) : State := if s.zones.holdPending then s.beginHold else s

/-- A zone becomes CLOSED: wait lists emptied with ZONE_CLOSED, then every column gains ZONE
(08, R165; 03, R72). -/
def closeZone (s : State) (z : Nat) : State :=
  (s.columnsOf z).foldl addZoneCause
    ((s.columnsOf z).foldl (fun s c => s.refuseWaits c .zoneClosed) s)

/-- A NORMAL transition succeeds (08, R164). -/
def succeed (s : State) (t : Transition) : State :=
  let before := s.zones.current
  let newlyClosed := Quad.zonesWhere fun z => t.targets.get z == .closed && before.get z != .closed
  let s₁ := s.modZones fun q => { q with current := t.targets }
  let s₂ := newlyClosed.foldl closeZone s₁
  let s₃ := s₂.modZones fun q => { q with trans := none }
  let s₄ := (Quad.zonesWhere fun z => before.get z != t.targets.get z).foldl judgeZone s₃
  let s₅ := (Quad.zonesWhere fun z => (before.get z).stricter (t.targets.get z)).foldl handOnZone s₄
  (s₅.notify (.modeChanged t.requester before t.targets newlyClosed t.mixed)).afterNormal

/-- A NORMAL transition fails at its interlock limit (08, R166). The tightened zones are handed on in
ascending order (log 18). -/
def failTransition (s : State) (t : Transition) : State :=
  let tightened := s.tightenedZones t
  let s₁ := s.modZones fun q => { q with driven := q.current, trans := none }
  let s₂ := tightened.foldl judgeZone s₁
  let s₃ := tightened.foldl handOnZone s₂
  (s₃.notify (.modeFailed t.requester t.mixed t.targets s.zones.ack s.zones.current)).afterNormal

/-- Judge the echo (08, R156): in CHANGING the echo of all four zones decides success. -/
def judgeEcho (s : State) : State :=
  match s.zones.trans with
  | none => s
  | some t =>
    if t.state == .changing && s.allEcho then
      match t.kind with
      | .normal => s.succeed t
      | .hold => s.completeHold
    else s

/-- A NORMAL transition enters CHANGING (08, R163). -/
def enterChanging (s : State) (t : Transition) : State :=
  let s₁ := s.modZones fun q =>
    { q with
      driven := t.targets
      trans := some { t with
        state := .changing
        forbidden := Quad.same 0
        limit := some s.params.interlockLimit } }
  ((Quad.zonesWhere fun z =>
      s.tightens t z && Mode.service.level ≤ (t.targets.get z).level).foldl judgeZone s₁).judgeEcho

/-- WAITING ends when the counts of all tightened zones are 0 (08, R160). -/
def checkWaiting (s : State) (t : Transition) : State :=
  if t.forbidden = Quad.same 0 then s.enterChanging t else s

/-- The columns of a zone, ascending, whose holder's class a target forbids (03, R70). -/
def forbiddenHolders (s : State) (z : Nat) (target : Mode) : List Nat :=
  (s.columnsOf z).filter fun c =>
    match (s.col c).grant with
    | some g => !modePermits target g.cls
    | none => false

/-- A NORMAL transition with a tightened zone enters WAITING (08, R160): the forbidden holders are
revoked and counted. -/
def enterWaiting (s : State) (t : Transition) : State :=
  let holders := fun z =>
    if s.tightens t z then s.forbiddenHolders z (t.targets.get z) else []
  let t₁ := { t with
    state := TransState.waiting
    forbidden := Quad.ofFn fun z => (holders z).length }
  let s₁ := s.modZones fun q => { q with trans := some t₁ }
  let s₂ := ([0, 1, 2, 3].flatMap holders).foldl (fun s c => s.revoke c .zoneMode) s₁
  s₂.checkWaiting t₁

/-- The arbiter reports the end of a grant of a class on a column to the zone controller (03, R64,
R73; 08, R160). -/
def reportGrantEnd (s : State) (c : Nat) (k : Cls) : State :=
  match s.zones.trans with
  | none => s
  | some t =>
    if t.state == .waiting && s.tightens t (s.zoneOf c) then
      let t₁ :=
        if modePermits (t.targets.get (s.zoneOf c)) k then t
        else { t with
          forbidden := t.forbidden.set (s.zoneOf c) (t.forbidden.get (s.zoneOf c) - 1) }
      (s.modZones fun q => { q with trans := some t₁ }).checkWaiting t₁
    else s

/-- A grant ends (03, R64): its record is removed and the zone controller told. The hand-on is the
caller's, after the changes the cause makes. -/
def endGrant (s : State) (c : Nat) : State :=
  match (s.col c).grant with
  | none => s
  | some g => (s.modCol c fun q => { q with grant := none }).reportGrantEnd c g.cls

/-! ### Custody -/

/-- Write the custody of each TRACKED entry of a column from its place in the stack (02, R29). -/
def placeEntries (s : State) (c : Nat) : State :=
  { s with
    handovers := s.handovers.map fun h =>
      match indexFrom (fun e => e == Entry.tracked h.number) (s.col c).stack 0 with
      | some i => { h with custody := .column c i }
      | none => h }

/-- What a giver's slot becomes when its OPEN record is freed: UNTRACKED(tag) if load-confirmed,
EMPTY otherwise (02, R30, R37, R44). -/
def freedSlot (s : State) (h : Handover) : Slot :=
  match h.custody with
  | .robot a =>
    if ((s.robot a).map (·.loadConfirmed)).getD false then .untracked h.tag else .empty
  | _ => .empty

/-- Free an OPEN record (02, R37, R44): the record leaves the table and with it its reservation, and
the slot of the robot that holds the bin is converted. -/
def freeOpen (s : State) (h : Handover) : State :=
  match h.custody with
  | .robot a => (s.setSlot a (s.freedSlot h) false).freeHandover h.number
  | _ => s.freeHandover h.number

/-- Examine the remap condition of a record's column, if it has one. -/
def examineColumnOf (s : State) (h : Handover) : State :=
  match h.column with
  | some c => (s.examineRemap c).emit
  | none => s

end State

end Sys2Proof.Machine
end

