-- ==== Sys2Proof/Machine/Section.lean ====
section
/-! DEFINITION. The section controller (09): configuration, COMMIT, the section reset, the hardware
reset, and STATUS, which the link unit answers (10, R193). -/

namespace Sys2Proof.Machine

/-! ### Parameters -/

/-- The ranges of the twelve parameters, in the order of R175 (09, R175). -/
def paramRanges : List (Nat × Nat) :=
  [(10, 600), (10, 1800), (5, 120), (1, 15), (2, 60), (5, 120), (60, 3600), (10, 600),
    (100, 5000), (1, 7), (0, 255), (0, 15)]

/-- The parameter set with the parameter at a place of R175's table replaced. -/
def Params.put (p : Params) (i n : Nat) : Params :=
  match i with
  | 0 => { p with stageLimit := n }
  | 1 => { p with collectLimit := n }
  | 2 => { p with holdLimit := n }
  | 3 => { p with releaseGrace := n }
  | 4 => { p with operationLimit := n }
  | 5 => { p with readyLimit := n }
  | 6 => { p with auditPeriod := n }
  | 7 => { p with callLimit := n }
  | 8 => { p with interlockLimit := n }
  | 9 => { p with faultThreshold := n }
  | 10 => { p with acceptedClasses := BitVec.ofNat 8 n }
  | _ => { p with minLevel := n }

/-- The first value out of its range, with its place counted from `i` (09, R176). -/
def firstBadParam : List (Option Nat) → List (Nat × Nat) → Nat → Option (Nat × Nat)
  | some n :: vs, r :: rs, i =>
    if r.1 ≤ n ∧ n ≤ r.2 then firstBadParam vs rs (i + 1) else some (i, n)
  | none :: vs, _ :: rs, i => firstBadParam vs rs (i + 1)
  | _, _, _ => none

/-- The set with every given value taken, from place `i` on (09, R176). -/
def Params.apply (p : Params) : List (Option Nat) → Nat → Params
  | [], _ => p
  | none :: vs, i => Params.apply p vs (i + 1)
  | some n :: vs, i => Params.apply (p.put i n) vs (i + 1)

/-- Take SET_PARAMETERS (09, R176). -/
def takeSetParameters (vs : List (Option Nat)) (s : State) : Answer :=
  if s.running then refuse s .lockedConfig
  else
    match firstBadParam vs paramRanges 0 with
    | some (i, n) => refuse s .outOfRange (.paramOutOfRange i n)
    | none => ⟨{ s with params := s.params.apply vs 0 }, .ok, .params (s.params.apply vs 0)⟩

/-- SET_PARAMETERS (09, R176). -/
def execSetParameters (tag : Word16) (body : List Byte) (s : State) : Result :=
  hostRequest 1 tag body (withBody (Body.setParameters body) takeSetParameters) s

/-! ### Column definitions -/

/-- The first field of a definition out of its range, by its place in x, y, zone, lock group,
capacity, settle time (09, R177). -/
def badDefnField (q : Body.DefineColumn) : Option Nat :=
  if 255 < q.x then some 0
  else if 255 < q.y then some 1
  else if 3 < q.zone then some 2
  else if 11 < q.group then some 3
  else if q.capacity < 1 ∨ 4 < q.capacity then some 4
  else if 2000 < q.settle.getD 300 then some 5
  else none

/-- Take DEFINE_COLUMN (09, R177); the settle time is 300 ms when omitted (01, R2). -/
def takeDefineColumn (q : Body.DefineColumn) (s : State) : Answer :=
  if s.running then refuse s .lockedConfig
  else if Config.columnCount ≤ q.index then refuse s .unknownColumn
  else
    match badDefnField q with
    | some i => refuse s .outOfRange (.fieldOutOfRange i)
    | none =>
      let d : Defn := ⟨q.x, q.y, q.zone, q.group, q.capacity, q.settle.getD 300⟩
      ⟨s.modCol q.index fun k => { k with defn := some d }, .ok, .defined q.index d⟩

/-- DEFINE_COLUMN (09, R177). -/
def execDefineColumn (tag : Word16) (body : List Byte) (s : State) : Result :=
  hostRequest 2 tag body (withBody (Body.defineColumn body) takeDefineColumn) s

/-! ### COMMIT -/

/-- A column record at the start of RUNNING: definition and retired mark kept, all else as R24 and
R179 give (01, R24; 09, R179). -/
def Column.shut (k : Column) : Column :=
  { Column.blank with
    defn := k.defn
    retired := k.retired
    causes := if k.defn.isSome then Causes.zoneOnly else Causes.none }

namespace State

/-- The shut state in which a section begins to run, all but the link unit and the map (09, R179,
R181; 08, R173): definitions, retired marks, parameters, hold flag and ACK levels are kept. -/
def shutSection (s : State) : State :=
  { s with
    columns := s.columns.map Column.shut
    lockFlags := List.replicate Config.groupCount false
    handovers := []
    lastNumber := 0
    roster := List.replicate Config.rosterCap none
    audit := AuditUnit.reset
    zones := { s.zones with
      current := Quad.same .closed
      driven := Quad.same .closed
      trans := none
      holdPending := false } }

/-- The tick timer starts at the interval of the mapped count (06, R126). -/
def startTick (s : State) : State :=
  { s with audit := { s.audit with tick := some s.tickInterval, interval := some s.tickInterval } }

/-- The spares of each zone. -/
def spareCounts (s : State) : Quad Nat :=
  Quad.ofFn fun z => ((s.columnsOf z).filter s.isSpare).length

/-- The number of defined columns. -/
def definedCount (s : State) : Nat := (s.definedWhere fun _ _ => true).length

/-- The lowest XP that maps an undefined column, with that column (09, R178). -/
def undefinedMapped (s : State) : Option (Nat × Nat) :=
  (List.range Config.xpCount).findSome? fun x =>
    match s.xp x with
    | some e => if (s.defn e.column).isNone then some (x, e.column) else none
    | none => none

/-- Two columns have the same coordinate. -/
def sameCoordinate (s : State) (c d : Nat) : Bool :=
  (s.defn c).map (fun k => (k.x, k.y)) == (s.defn d).map (fun k => (k.x, k.y))

/-- The first column of an ascending list that shares its coordinate with a later one, and the
first such later one (09, R178). -/
def coordinateClash (s : State) : List Nat → Option (Nat × Nat)
  | [] => none
  | c :: cs =>
    match cs.find? (s.sameCoordinate c) with
    | some d => some (c, d)
    | none => coordinateClash s cs

/-- The first check of COMMIT that fails (09, R178). -/
def configProblem (s : State) : Option ConfigProblem :=
  if s.mappedCount = 0 then some .noMappedXp
  else
    match s.undefinedMapped with
    | some (x, c) => some (.undefinedColumn x c)
    | none =>
      match s.coordinateClash (s.definedWhere fun _ _ => true) with
      | some (c, d) =>
        some (.coordinateClash (((s.defn c).map (·.x)).getD 0) (((s.defn c).map (·.y)).getD 0) c d)
      | none => if s.params.acceptedClasses = 0 then some .noGripperClass else none

/-- The state at the start of RUNNING (09, R179). -/
def committed (s : State) : State :=
  { s.shutSection with
    sectionState := .running
    xpMap :=
      s.xpMap.map (Option.map fun e : XpEntry => { e with remapPending := false }) }.startTick

end State

/-- Take COMMIT (09, R178, R179). -/
def takeCommit (_ : Unit) (s : State) : Answer :=
  if s.running then refuse s .lockedConfig
  else
    match s.configProblem with
    | some p => refuse s .badConfig (.badConfig p)
    | none =>
      ⟨s.committed, .ok,
        .committed s.definedCount s.mappedCount s.spareCounts s.tickInterval⟩

/-- COMMIT (09, R178, R179). -/
def execCommit (tag : Word16) (body : List Byte) (s : State) : Result :=
  hostRequest 4 tag body (withBody (Body.nothing body) takeCommit) s

/-! ### Section reset -/

/-- The link unit after a section reset: both queues keep only the frame being sent, and the overrun
flag and lost count are cleared (10, R197). -/
def LinkUnit.sectionReset (l : LinkUnit) : LinkUnit :=
  { l with
    notices := if l.tx == .notice then l.notices.take 1 else []
    overrun := false
    lost := 0
    fleet := l.fleet.take 1 }

/-- The remap a REMAP_DONE notice reports (09, R181). -/
def remapOf : NoticeBody → Option (Nat × Nat × Option Nat)
  | .remapDone x c d => some (x, c, d)
  | _ => none

namespace State

/-- The section reset as one event: the blocks are shut, then the remaps complete (09, R181;
01, R24). -/
def resetRemaps (s : State) : Noted :=
  ({ s.shutSection with link := s.link.sectionReset }).examineRemaps fun _ => true

/-- The state after a section reset, the tick started at the interval of the remaps' mapped count
(09, R181). -/
def sectionReset (s : State) : State := s.resetRemaps.emit.startTick

/-- The fields of the reply to RESET_SECTION (09, R181). -/
def resetReport (s : State) : ReplyBody :=
  .sectionReset s.handovers.length s.robotCount (s.columns.countP (·.grant.isSome))
    (s.columns.countP (·.op.isSome)) (s.zones.trans.map (·.state))
    (s.resetRemaps.2.filterMap remapOf)

end State

/-- RESET_SECTION (09, R181). -/
def execResetSection (tag : Word16) (body : List Byte) (s : State) : Result :=
  hostRequest 5 tag body
    (withBody (Body.nothing body) fun _ =>
      inRunning fun s => ⟨s.sectionReset, .ok, s.resetReport⟩) s

/-! ### STATUS -/

/-- The states in the order of the record table (02, 2.2). -/
def HandoverState.all : List HandoverState :=
  [.openState, .setting, .staged, .lifting, .carried, .parked, .unlocated]

/-- The robot states in the order of 05, 5.2. -/
def RobotState.all : List RobotState := [.announced, .ready, .active, .lost, .inactive]

namespace State

/-- The number of mapped columns in a verification (06, R136). -/
def verifiedCount (s : State) (v : Verification) : Nat :=
  s.xpMap.countP fun e =>
    match e with
    | some e => (s.col e.column).verification == v
    | none => false

/-- The audit unit's state as STATUS gives it (06, R136). -/
def auditReport (s : State) : AuditReport where
  state := s.audit.state
  pointer := s.audit.pointer
  called := s.audit.called
  callLimit := s.audit.callLimit
  overdue := s.audit.overdue
  tick := s.audit.tick
  interval := s.audit.interval
  fresh := s.verifiedCount .fresh
  due := s.verifiedCount .due
  unverified := s.verifiedCount .unverified

/-- The STATUS reply (10, R193). -/
def statusReport (s : State) : StatusReport where
  section_ := s.sectionState
  params := s.params
  defined := s.definedCount
  mapped := s.mappedCount
  retired := s.columns.countP (·.retired)
  remapsPending := s.xpMap.countP fun e => (e.map (·.remapPending)).getD false
  spares := s.spareCounts
  handovers := s.handovers.length
  byState := HandoverState.all.map fun st => s.handovers.countP (·.state == st)
  robots := s.robotCount
  byRobotState := RobotState.all.map fun st => s.roster.countP fun r => r.map (·.state) == some st
  audit := s.auditReport
  current := s.zones.current
  trans := s.zones.trans.map (·.state)
  hold := s.zones.hold
  holdPending := s.zones.holdPending
  disagree := Quad.zonesWhere fun z => !s.echoes z
  entries := s.link.received.length
  overflows := s.overflows
  notices := s.link.notices.length
  frames := s.link.fleet.length
  overrun := s.link.overrun
  lost := s.link.lost
  nextSeq := s.link.nextSeq
  controlDiscards := s.link.controlDiscards
  fleetDiscards := s.link.fleetDiscards
  fleetDrops := s.link.fleetDrops
  time := s.time

end State

/-- STATUS (10, R193): the reply is made, then the overrun flag and the lost count are cleared. -/
def execStatus (tag : Word16) (body : List Byte) (s : State) : Result :=
  hostRequest 25 tag body
    (withBody (Body.nothing body) fun _ s =>
      ⟨s.modLink fun l => { l with overrun := false, lost := 0 }, .ok, .status s.statusReport⟩) s

/-! ### Hardware reset -/

/-- HARDWARE_RESET (09, R183; 10, R196), as one step that ends at the given input levels (log 20).
Whether a pulse shorter than 1 ms resets the part is a free value (log 4). -/
def execHardwareReset (cause : ResetCause) (pins : PinLevels) (s : State) : Result :=
  match cause with
  | .powerOn => .next (State.afterReset pins s.pending s.choices)
  | .resetLow => .next (State.afterReset pins s.pending s.choices)
  | .shortPulse =>
    if Config.shortResetTaken s.choices then
      .next (State.afterReset pins s.pending (s.choices + 1))
    else .next { s with choices := s.choices + 1 }

end Sys2Proof.Machine
end

