-- ==== Sys2Proof/Machine/Audit.lean ====
section
/-! DEFINITION. The events of the audit unit (06): the tick and the expiry of the call limit. -/

namespace Sys2Proof.Machine

namespace State

/-- The mapped columns, ascending. -/
def mappedColumns (s : State) : List Nat :=
  (List.range Config.columnCount).filter fun c => (s.mappedBy c).isSome

/-- The pointed column (06, R127): the lowest mapped index not below the pointer, else the lowest
mapped index. -/
def pointed (s : State) : Option Nat :=
  (s.mappedColumns.find? fun c => s.audit.pointer ≤ c).or s.mappedColumns.head?

/-- The pointer advances from a column (06, R127). -/
def advance (s : State) (c : Nat) : State :=
  { s with audit := { s.audit with pointer := pointerAfter c } }

/-- The full call limit in ms (06, R130). -/
def callMs (s : State) : Nat := s.params.callLimit * 1000

/-- The AUDIT_DUE notice, before the examination (06, R130). -/
def auditDueNotice (s : State) (c : Nat) : NoticeBody :=
  .auditDue c (s.mappedBy c) (s.zoneOf c) (s.col c).verification (s.col c).stack.length
    (s.topView c) (s.col c).causes (s.col c).retired (s.locked c) s.callMs

/-- A call is made (06, R130); the pointer stays until the call ends. -/
def makeCall (s : State) (c : Nat) : State :=
  { s.setAudit c .due false with
    audit := { s.audit with
      state := if (s.col c).op.isSome then .executing else .calling
      called := some c
      callLimit := some s.callMs
      overdue := false } }.notify (s.auditDueNotice c)

/-- The examination of a column (06, R129). -/
def examine (s : State) (c : Nat) : State :=
  if (s.col c).seen then (s.setAudit c .fresh false).advance c
  else if (s.col c).verification = .unverified then s.advance c
  else if s.effective (s.zoneOf c) = .closed then
    ((s.setAudit c .unverified false).notify (s.unverifiedNotice c .zoneClosed)).advance c
  else s.makeCall c

/-- What a tick does by the unit's state (06, R128, R129). -/
def tickByState (s : State) : State :=
  match s.audit.state with
  | .arming => { s with audit := { s.audit with state := .idle } }
  | .idle =>
    match s.pointed with
    | some c => s.examine c
    | none => s
  | .calling => s
  | .executing => s

/-- The tick timer expires: the unit acts, then the timer starts at the new interval (06, R126). -/
def tickExpired (s : State) : State := s.tickByState.startTick

/-- The call limit expires (06, R133). -/
def callExpired (s : State) (c : Nat) : State :=
  match s.audit.state with
  | .calling => (s.failCall c .callExpired).emit
  | _ => { s with audit := { s.audit with overdue := true, callLimit := none } }

end State

/-- AUDIT_TICK (06, R126; log 2). -/
def execAuditTick (s : State) : Result :=
  if s.audit.tick = some 0 then event State.tickExpired s else .next s

/-- CALL_LIMIT_EXPIRY (06, R133; log 2). -/
def execCallLimitExpiry (s : State) : Result :=
  if s.audit.callLimit = some 0 then
    match s.audit.called with
    | some c => event (fun s => s.callExpired c) s
    | none => .next s
  else .next s

end Sys2Proof.Machine
end

