-- ==== Sys2Proof/Machine/Handovers.lean ====
section
/-! DEFINITION. The commands of the handover table (02): host requests on handovers and the expiry of
their deadlines. -/

namespace Sys2Proof.Machine

/-! ### Opening -/

namespace State

/-- The next number above `n` that no record holds, 1 after 65535 (02, R26); the first argument
bounds how many numbers are tried. -/
def numberAfter (s : State) : Nat → Nat → Nat
  | 0, n => if n < 65535 then n + 1 else 1
  | tries + 1, n =>
    let m := if n < 65535 then n + 1 else 1
    if (s.handover m).isSome then numberAfter s tries m else m

/-- The number OPEN_HANDOVER assigns (02, R26). -/
def nextNumber (s : State) : Nat := s.numberAfter s.handovers.length s.lastNumber

/-- Check 6 of OPEN_HANDOVER: the refusal of a taker (02, R31). -/
def takerProblem (s : State) : Taker → Option (Status × ReplyBody)
  | .none => some (.outOfRange, .none)
  | .any => none
  | .addr a =>
    match s.robot a with
    | none => some (.unknownRobot, .unknownRobot .taker)
    | some r => if r.state = .inactive then some (.inactive, .none) else none

/-- Checks 4 and 5 of OPEN_HANDOVER: the refusal of a giver (02, R31). -/
def giverProblem (s : State) (g : Nat) (tag : BinTag) : Option (Status × ReplyBody) :=
  match s.robot g with
  | none => some (.unknownRobot, .unknownRobot .giver)
  | some r =>
    if r.state ≠ .active then some (.notActive, .none)
    else if r.slot = .empty ∨ r.slot = .untracked tag then none
    else some (.giverLoaded, .none)

/-- Checks 7 and 8 of OPEN_HANDOVER: the XP and column the target yields, or the refusal
(02, R31, R33, R34). -/
def allocate (s : State) : Body.Target → Except (Status × ReplyBody) (Nat × Nat)
  | .xp x =>
    if Config.xpCount ≤ x then .error (.unknownXp, .none)
    else
      match s.xp x with
      | none => .error (.notEligible, .notEligible (some x) none .unmapped)
      | some e =>
        match s.obstacle e.column with
        | some r => .error (.notEligible, .notEligible (some x) (some e.column) r)
        | none => .ok (x, e.column)
  | .zone z =>
    if 3 < z then .error (.outOfRange, .none)
    else
      match s.chooseInZone z with
      | none => .error (.notEligible, .notEligible none none .noColumn)
      | some p => .ok p

/-- The record OPEN_HANDOVER creates (02, R35). -/
def openRecord (s : State) (q : Body.OpenHandover) (c : Nat) : Handover where
  number := s.nextNumber
  tag := q.tag
  giver := q.giver
  taker := q.taker
  state := .openState
  column := some c
  custody := .robot q.giver
  deadline := some s.freshStage
  uncertain := false
  relocations := 0
  openedAt := s.time

/-- A handover is opened on a column (02, R35). Load-confirmed is set when the giver's slot already
held UNTRACKED of the tag (02, R30). -/
def openOn (s : State) (q : Body.OpenHandover) (c : Nat) : State :=
  { s.addHandover (s.openRecord q c) with lastNumber := s.nextNumber }.setSlot q.giver
    (.tracked s.nextNumber) ((s.robot q.giver).map Robot.slot == some (Slot.untracked q.tag))

/-- The refusal of a request to open, before its target is looked at (02, R31, checks 2 to 6). -/
def openProblem (s : State) (q : Body.OpenHandover) : Option (Status × ReplyBody) :=
  if q.tag = 0 then some (.badTag, .none)
  else if (s.handoverByTag q.tag).isSome then some (.duplicateBin, .none)
  else if Config.handoverCap ≤ s.handovers.length then some (.tableFull, .none)
  else (s.giverProblem q.giver q.tag).or (s.takerProblem q.taker)

end State

/-- Take OPEN_HANDOVER in RUNNING (02, R31 to R35). -/
def takeOpenHandover (q : Body.OpenHandover) (s : State) : Answer :=
  match s.openProblem q with
  | some (st, b) => refuse s st b
  | none =>
    match s.allocate q.target with
    | .error (st, b) => refuse s st b
    | .ok (x, c) => ⟨s.openOn q c, .ok, .opened s.nextNumber c x⟩

/-- OPEN_HANDOVER (02, R31). -/
def execOpenHandover (tag : Word16) (body : List Byte) (s : State) : Result :=
  hostRequest 9 tag body
    (withBody (Body.openHandover body) fun q => inRunning (takeOpenHandover q)) s

/-! ### Requests on open handovers -/

/-- Take a request on a handover that some record holds (02, 2.5). -/
def onHandover (n : Nat) (take : Handover → State → Answer) (s : State) : Answer :=
  match s.handover n with
  | none => refuse s .unknownHandover
  | some h => take h s

namespace State

/-- A new COLLECT deadline of a record, RUNNING or SUSPENDED as R43 gives. -/
def freshCollectOf (s : State) (h : Handover) : Deadline :=
  match h.column with
  | some c => s.freshCollect c
  | none => ⟨.collect, s.params.collectLimit * 1000, .running⟩

/-- A record given a taker (02, R36). -/
def withTaker (s : State) (h : Handover) (k : Taker) : Handover :=
  match h.state with
  | .staged => { h with taker := k, deadline := some (s.freshCollectOf h) }
  | .parked =>
    { h with taker := k, state := .staged, deadline := some (s.freshCollectOf h) }
  | _ => { h with taker := k }

end State

/-- The state of a record in which ASSIGN_TAKER is refused (02, R36). -/
def takerFixed : HandoverState → Bool
  | .setting | .lifting | .unlocated => true
  | _ => false

/-- Take ASSIGN_TAKER on a record (02, R36). -/
def takeAssignTaker (k : Taker) (h : Handover) (s : State) : Answer :=
  if takerFixed h.state then refuse s .wrongState
  else
    match s.takerProblem k with
    | some (st, b) => refuse s st b
    | none =>
      ⟨s.modHandover h.number fun _ => s.withTaker h k, .ok,
        .takerAssigned h.number k (s.withTaker h k).state (s.withTaker h k).deadline⟩

/-- ASSIGN_TAKER (02, R36). -/
def execAssignTaker (tag : Word16) (body : List Byte) (s : State) : Result :=
  hostRequest 10 tag body
    (withBody (Body.assignTaker body) fun q =>
      inRunning (onHandover q.1 (takeAssignTaker q.2))) s

/-- An OPEN record is freed on the host's request (02, R37). -/
def freeOpenRequest (h : Handover) (s : State) : Answer :=
  ⟨(s.freeOpen h).examineColumnOf h, .ok, .cancelled h.number (s.freedSlot h)⟩

/-- A record becomes PARKED with taker NONE and no deadline (02, R37, R46). -/
def Handover.park (h : Handover) : Handover :=
  { h with state := .parked, taker := .none, deadline := none }

/-- Take CANCEL_HANDOVER on a record (02, R37). -/
def takeCancelHandover (h : Handover) (s : State) : Answer :=
  match h.state with
  | .openState => freeOpenRequest h s
  | .staged => ⟨s.modHandover h.number fun _ => h.park, .ok, .nowParked h.number⟩
  | st => refuse s .wrongState (.inState st)

/-- CANCEL_HANDOVER (02, R37). -/
def execCancelHandover (tag : Word16) (body : List Byte) (s : State) : Result :=
  hostRequest 11 tag body
    (withBody (Body.number body) fun n => inRunning (onHandover n takeCancelHandover)) s

/-- The kind of place a record's bin is in (02, R38). -/
def Custody.place : Custody → Place
  | .column c i => .column c i
  | .robot a => .robot a
  | .unlocated => .unlocated

namespace State

/-- A TRACKED entry becomes FOREIGN in the same position (02, R38). -/
def untrackEntry (s : State) (h : Handover) : State :=
  match h.custody with
  | .column c _ =>
    s.modCol c fun k =>
      { k with
        stack := k.stack.map fun e => if e = .tracked h.number then .foreign h.tag else e }
  | _ => s

/-- The carrying robot's slot becomes UNTRACKED (02, R38). -/
def untrackSlot (s : State) (h : Handover) : State :=
  match h.custody with
  | .robot a => s.setSlot a (.untracked h.tag) false
  | _ => s

end State

/-- Take RELEASE_TRACKING on a record (02, R38). -/
def takeReleaseTracking (h : Handover) (s : State) : Answer :=
  match h.state with
  | .openState => freeOpenRequest h s
  | .parked =>
    ⟨(s.untrackEntry h).freeHandover h.number, .ok, .released h.number h.tag h.custody.place⟩
  | .carried =>
    if (s.operationOf h.number).isSome then refuse s .inFlight
    else
      ⟨(s.untrackSlot h).freeHandover h.number, .ok, .released h.number h.tag h.custody.place⟩
  | .unlocated => ⟨s.freeHandover h.number, .ok, .released h.number h.tag h.custody.place⟩
  | _ => refuse s .wrongState

/-- RELEASE_TRACKING (02, R38). -/
def execReleaseTracking (tag : Word16) (body : List Byte) (s : State) : Result :=
  hostRequest 12 tag body
    (withBody (Body.number body) fun n => inRunning (onHandover n takeReleaseTracking)) s

/-! ### Queries -/

namespace State

/-- The custody part of a QUERY_HANDOVER reply (02, R40). A robot in whose custody a record is has a
roster record (R30, R121); without one the reply says LOST (log 22). -/
def custodyView (s : State) : Custody → CustodyView
  | .column c i => .column c i (s.col c).stack.length
  | .robot a =>
    match s.robot a with
    | some r => .robot a r.state r.loadConfirmed
    | none => .robot a .lost false
  | .unlocated => .unlocated

/-- The suspension conditions reported with a deadline: those that hold when it is SUSPENDED
(02, R40). -/
def reportedConds (s : State) (h : Handover) (d : Deadline) : SuspendConds :=
  match h.column, d.cond with
  | some c, .suspended => s.suspendConds c
  | _, _ => ⟨false, false, false⟩

/-- The QUERY_HANDOVER reply (02, R40). -/
def handoverReport (s : State) (h : Handover) : HandoverReport where
  number := h.number
  tag := h.tag
  giver := h.giver
  taker := h.taker
  state := h.state
  column := h.column.map fun c => (c, s.mappedBy c, s.zoneOf c)
  custody := s.custodyView h.custody
  deadline := h.deadline.map fun d => (d, s.reportedConds h d)
  inFlight :=
    (s.operationOf h.number).bind fun c => (s.col c).op.map fun o => (o.kind, o.robot)
  uncertain := h.uncertain
  relocations := h.relocations
  sinceOpened := s.time - h.openedAt

/-- The record a query names (02, R40). -/
def named (s : State) : Body.HandoverRef → Option Handover
  | .number n => s.handover n
  | .tag t => s.handoverByTag t

end State

/-- Take QUERY_HANDOVER (02, R40). Tag 0 is refused BAD_TAG in both section states (log 33). -/
def takeQueryHandover (q : Body.HandoverRef) (s : State) : Answer :=
  if q = .tag 0 then refuse s .badTag
  else
    match s.named q with
    | none => refuse s .unknownHandover
    | some h => ⟨s, .ok, .handover (s.handoverReport h)⟩

/-- QUERY_HANDOVER (02, R40). -/
def execQueryHandover (tag : Word16) (body : List Byte) (s : State) : Result :=
  hostRequest 13 tag body (withBody (Body.queryHandover body) takeQueryHandover) s

/-- A state filter matches a record (02, R41). -/
def stateMatches (f : Option Byte) (h : Handover) : Bool :=
  match f with
  | none => true
  | some b => HandoverState.ofByte? b == some h.state

namespace State

/-- A zone filter matches a record (02, R41). -/
def zoneMatches (s : State) (f : Option Byte) (h : Handover) : Bool :=
  match f with
  | none => true
  | some b =>
    match h.column with
    | some c => (s.defn c).map (·.zone) == some b.toNat
    | none => false

/-- The records a LIST_HANDOVERS matches, ascending (02, R41). -/
def listMatches (s : State) (q : Body.ListHandovers) : List Handover :=
  s.handovers.filter fun h =>
    q.start ≤ h.number && stateMatches q.state h && s.zoneMatches q.zone h

end State

/-- One record of the list (02, R41). -/
def Handover.item (h : Handover) : HandoverItem :=
  ⟨h.number, h.tag, h.state, h.taker, h.column, h.deadline.map fun d => (d.kind, d.remaining),
    h.uncertain⟩

/-- Take LIST_HANDOVERS (02, R41). -/
def takeListHandovers (q : Body.ListHandovers) (s : State) : Answer :=
  if (q.state.map HandoverState.ofByte?) = some none then refuse s .outOfRange
  else if 3 < (q.zone.map BitVec.toNat).getD 0 then refuse s .outOfRange
  else
    ⟨s, .ok, .handoverList (((s.listMatches q).take Config.listCap).map Handover.item)
      ((((s.listMatches q).drop Config.listCap).head?.map (·.number)).getD 0)⟩

/-- LIST_HANDOVERS (02, R41). -/
def execListHandovers (tag : Word16) (body : List Byte) (s : State) : Result :=
  hostRequest 14 tag body (withBody (Body.listHandovers body) takeListHandovers) s

/-! ### Deadlines -/

/-- A RUNNING deadline of a kind has run out (02, R42; log 2). -/
def Handover.due (h : Handover) (st : HandoverState) (k : DeadlineKind) : Bool :=
  h.state == st && h.deadline == some ⟨k, 0, .running⟩

/-- The stage deadline of an OPEN record expires (02, R44; log 31). -/
def State.expireStage (s : State) (h : Handover) : State :=
  ((s.freeOpen h).examineColumnOf h).notify
    (.stageExpired h.number h.tag h.giver (h.column.getD 0) (h.column.bind s.mappedBy)
      (s.freedSlot h))

/-- STAGE_EXPIRED (02, R44). -/
def execStageExpired (n : Nat) (s : State) : Result :=
  match s.handover n with
  | some h => if h.due .openState .stage then event (fun s => s.expireStage h) s else .next s
  | none => .next s

/-- The address of the robot that holds a record's bin; 0 for no robot, which no due record has. -/
def Custody.carrier : Custody → Nat
  | .robot a => a
  | _ => 0

/-- The position of a record's bin on its column; 0 for no column, which no due record has. -/
def Custody.position : Custody → Nat
  | .column _ i => i
  | _ => 0

/-- The stage deadline of a CARRIED record expires (02, R45). -/
def State.expireRelocation (s : State) (h : Handover) : State :=
  (s.modHandover h.number fun _ => { h with deadline := none }).notify
    (.relocationOverdue h.number h.tag h.custody.carrier h.taker h.relocations)

/-- RELOCATION_OVERDUE (02, R45). -/
def execRelocationOverdue (n : Nat) (s : State) : Result :=
  match s.handover n with
  | some h => if h.due .carried .stage then event (fun s => s.expireRelocation h) s else .next s
  | none => .next s

/-- The collect deadline of a STAGED record expires (02, R46). -/
def State.expireCollect (s : State) (h : Handover) : State :=
  (s.modHandover h.number fun _ => h.park).notify
    (.collectExpired h.number h.tag h.taker (h.column.getD 0) (h.column.bind s.mappedBy)
      h.custody.position)

/-- COLLECT_EXPIRED (02, R46). -/
def execCollectExpired (n : Nat) (s : State) : Result :=
  match s.handover n with
  | some h => if h.due .staged .collect then event (fun s => s.expireCollect h) s else .next s
  | none => .next s

end Sys2Proof.Machine
end

