-- ==== Sys2Proof/Machine/Arbiter.lean ====
section
/-! DEFINITION. The commands of the grant arbiter (03): GRANT_REQ, WITHDRAW, RELEASE, and the expiry
of the hold limit and of the release grace. -/

namespace Sys2Proof.Machine

/-! ### Asking for a column -/

/-- How many requests of a wait list stand before a new request of a class: those of its own or
higher class (03, R57). -/
def waitPlace (k : Cls) (ws : List WaitReq) : Nat := (ws.takeWhile fun w => w.cls.rank ≤ k.rank).length

/-- A wait list with a request put in its order (03, R57). -/
def insertWait (w : WaitReq) (ws : List WaitReq) : List WaitReq :=
  ws.take (waitPlace w.cls ws) ++ w :: ws.drop (waitPlace w.cls ws)

/-- A class byte that names one of the four classes not above a ceiling (03, R59, check 4). -/
def classWithin (ceiling : Option Cls) (k : Byte) : Option Cls :=
  match Cls.ofByte? k, ceiling with
  | some k, some m => if k.above m then none else some k
  | _, _ => none

namespace State

/-- The column of a robot's grant or waiting request (03, R59, check 3). -/
def standingOn (s : State) (a : Nat) : Option Nat := (s.grantedTo a).or (s.waitingOn a)

/-- A request of class AUDIT may name the column (03, R59, check 5). -/
def auditAllowed (s : State) (c : Nat) (k : Cls) : Bool :=
  k != .audit || s.audit.called == some c || (s.col c).verification == .unverified

/-- A holder without a revoke pending whose class is below a class (03, R60). -/
def outrankedBy (s : State) (c : Nat) (k : Cls) : Bool :=
  match (s.col c).grant with
  | some g => k.above g.cls && g.revoke.isNone
  | none => false

/-- Queue a request; it revokes a holder it outranks (03, R60). -/
def queueRequest (s : State) (c a : Nat) (k : Cls) : State :=
  let s₁ := (s.modCol c fun q => { q with waits := insertWait ⟨a, k⟩ q.waits }).send a
    (.queued c k (waitPlace k (s.col c).waits + 1))
  if s.outrankedBy c k then s₁.revoke c .outranked else s₁

/-- Decide a GRANT_REQ that passes its checks (03, R60). -/
def decideGrant (s : State) (c a : Nat) (k : Cls) : State :=
  if (s.col c).grant.isNone && s.permitted c k then s.makeGrant c a k
  else if Config.waitCap ≤ (s.col c).waits.length then s.sendRefused a .waitFull (.column c)
  else s.queueRequest c a k

end State

/-- Take GRANT_REQ (03, R59, R60). -/
def takeGrantReq (a : Nat) (r : Robot) (q : Nat × Byte) (s : State) : State :=
  if (s.defn q.1).isNone then s.sendRefused a .unknownColumn (.column q.1)
  else if r.state != .active then s.sendRefused a .notActive (.column q.1)
  else
    match s.standingOn a with
    | some c => s.sendRefused a .already (.already q.1 c)
    | none =>
      match classWithin r.maxClass q.2 with
      | none => s.sendRefused a .cls (.column q.1)
      | some k =>
        if !s.auditAllowed q.1 k then s.sendRefused a .notCalled (.column q.1)
        else if s.effective (s.zoneOf q.1) = .closed then
          s.sendRefused a .zoneClosed (.column q.1)
        else s.decideGrant q.1 a k

/-- GRANT_REQ (03, R59, R60). -/
def execGrantReq (addr : Byte) (body : List Byte) (s : State) : Result :=
  robotFrame addr (Body.grantReq body) takeGrantReq s

/-! ### Leaving -/

/-- The robot's request leaves a column's wait list (03, R57). -/
def State.removeWait (s : State) (c a : Nat) : State :=
  s.modCol c fun q => { q with waits := q.waits.filter fun w => w.robot != a }

/-- Take WITHDRAW (03, R62). -/
def takeWithdraw (a : Nat) (_ : Robot) (c : Nat) (s : State) : State :=
  if (s.col c).waits.any (·.robot == a) then (s.removeWait c a).send a (.accepted (.column c))
  else s.sendRefused a .notWaiting (.column c)

/-- WITHDRAW (03, R62). -/
def execWithdraw (addr : Byte) (body : List Byte) (s : State) : Result :=
  robotFrame addr (Body.one body) takeWithdraw s

/-- Take RELEASE (03, R63): ACCEPTED, the end of the grant, then the hand-on (log 14). -/
def takeRelease (a : Nat) (r : Robot) (c : Nat) (s : State) : State :=
  if r.state = .lost then s.sendRefused a .lost (.column c)
  else if (s.col c).grant.map (·.robot) != some a then s.sendRefused a .noGrant (.column c)
  else if (s.col c).op.isSome then s.sendRefused a .busy (.column c)
  else ((s.send a (.accepted (.column c))).endGrant c).handOn c

/-- RELEASE (03, R63, R64). -/
def execRelease (addr : Byte) (body : List Byte) (s : State) : Result :=
  robotFrame addr (Body.one body) takeRelease s

/-! ### Hold limit and release grace -/

/-- The hold limit of a grant has run out (03, R65; log 2). -/
def Grant.holdDue (g : Grant) : Bool := g.revoke.isNone && g.holdLimit == some 0

/-- The release grace of a grant has run out (03, R67, R68; log 2). -/
def Grant.graceDue (g : Grant) : Bool := g.revoke.isSome && g.grace == some 0

/-- HOLD_LIMIT_EXPIRY (03, R65): the holder is revoked. -/
def execHoldLimitExpiry (c : Nat) (s : State) : Result :=
  match (s.col c).grant with
  | some g => if g.holdDue then event (fun s => s.revoke c .holdLimit) s else .next s
  | none => .next s

namespace State

/-- A robot becomes LOST; max class and slot are kept (05, R120). -/
def loseRobot (s : State) (a : Nat) : State :=
  s.modRobot a fun r => { r with state := .lost, readyTimer := none }

/-- ROBOT_LOST for a robot (05, R120). -/
def robotLostNotice (s : State) (a : Nat) (cause : LostCause) (c : Nat) : NoticeBody :=
  .robotLost a (((s.robot a).map (·.serial)).getD 0) cause c
    (((s.robot a).map (·.slot)).getD .empty)

/-- The release grace of a grant expires (03, R68). -/
def graceExpired (s : State) (c : Nat) (g : Grant) : State :=
  let s₁ := ((s.loseRobot g.robot).endGrant c).addSuspect c
  ((s₁.notify (s₁.robotLostNotice g.robot .grace c)).notify
    (.columnSuspect c (s₁.mappedBy c) .grace g.robot)).handOn c

end State

/-- RELEASE_GRACE_EXPIRY (03, R68). -/
def execReleaseGraceExpiry (c : Nat) (s : State) : Result :=
  match (s.col c).grant with
  | some g => if g.graceDue then event (fun s => s.graceExpired c g) s else .next s
  | none => .next s

end Sys2Proof.Machine
end

