-- ==== Sys2Proof/Machine/Operations.lean ====
section
/-! DEFINITION. The commands of the operation unit (04): OP_START, OP_END and the expiry of the
operation limit. -/

namespace Sys2Proof.Machine

/-! ### OP_START: checks -/

namespace State

/-- The tag of a handover's bin. -/
def tagOf (s : State) (n : Nat) : BinTag := ((s.handover n).map (·.tag)).getD 0

/-- The tag of the carried bin (04, R83, check 2). -/
def slotTag (s : State) : Slot → BinTag
  | .empty => 0
  | .tracked n => s.tagOf n
  | .untracked t => t

/-- The refusal of a set that adds an untracked or relocated bin: class, and room when it is tested
(04, R83, check 6). -/
def extraSetProblem (s : State) (c : Nat) (k : Cls) (room : Bool) : Option Status :=
  if !k.recoveryOrAbove then some .cls
  else if room && !s.hasRoom c then some .full
  else none

/-- The set half, judged by what the slot holds (04, R83, check 6). A tracked record in another
state is in flight with this robot, which R81 has refused already (log 22). -/
def judgeSet (s : State) (c : Nat) (k : Cls) (room : Bool) : Slot → Except Status SetHalf
  | .empty => .error .unloaded
  | .tracked n =>
    match s.handover n with
    | some h =>
      match h.state with
      | .openState => if h.column = some c then .ok (.reserved n) else .error .wrongColumn
      | .carried =>
        match s.extraSetProblem c k room with
        | some e => .error e
        | none => .ok (.relocation n)
      | _ => .error .busy
    | none => .error .busy
  | .untracked t =>
    match s.extraSetProblem c k room with
    | some e => .error e
    | none => .ok (.untracked t)

/-- The robot qualifies as the record's taker (04, R85, check 3). -/
def qualifies (h : Handover) (a : Nat) : Bool :=
  h.state == .staged && (h.taker == .addr a || h.taker == .any)

/-- The lift half, judged by the top entry (04, R85, checks 2 and 3). -/
def judgeLift (s : State) (c a : Nat) (k : Cls) : Except Status LiftHalf :=
  match s.top c with
  | none => .error .empty
  | some (.foreign t) => if k.recoveryOrAbove then .ok (.foreign t) else .error .cls
  | some (.tracked n) =>
    match (s.handover n).filter (qualifies · a) with
    | some h => if h.uncertain then .error .uncertain else .ok (.taker n)
    | none => if k.recoveryOrAbove then .ok (.relocation n) else .error .notYours

/-- The refusal of a SET or SWAP by the slot, the tag and the column's standing (04, R83, checks 1
to 5; R87, checks 1 to 3). -/
def setProblem (s : State) (c : Nat) (r : Robot) (tag : BinTag) : Option Status :=
  if r.slot = .empty then some .unloaded
  else if tag = 0 then some .badTag
  else if tag ≠ s.slotTag r.slot then some .tagMismatch
  else if (s.col c).retired then some .retired
  else if s.locked c then some .locked
  else if (s.col c).verification = .unverified then some .unverified
  else none

/-- The two halves of an operation, each absent where the kind has none (04, R79). -/
abbrev Halves := Option SetHalf × Option LiftHalf

/-- The checks of the kind (04, R83, R85, R87, R89). -/
def judgeKind (s : State) (c a : Nat) (r : Robot) (k : Cls) (tag : BinTag) :
    OpKind → Except Status Halves
  | .scan => .ok (none, none)
  | .set =>
    match s.setProblem c r tag with
    | some e => .error e
    | none => (s.judgeSet c k true r.slot).map fun h => (some h, none)
  | .lift =>
    if r.slot ≠ .empty then .error .loaded
    else (s.judgeLift c a k).map fun h => (none, some h)
  | .swap =>
    match s.setProblem c r tag with
    | some e => .error e
    | none =>
      match s.judgeLift c a k with
      | .error e => .error e
      | .ok l => (s.judgeSet c k false r.slot).map fun h => (some h, some l)

/-- Check 7 of R81, for kinds other than SCAN: the refusal and what it carries (04, R81, R82). -/
def columnProblem (s : State) (c : Nat) : Option (Status × RefusedDetail) :=
  if s.frozen c then some ((s.col c).causes.status, .column c)
  else if (s.mappedBy c).isNone then some (.unmapped, .column c)
  else if s.settleLeft c ≠ 0 then some (.settling, .settling c (s.settleLeft c))
  else none

/-! ### OP_START: acceptance -/

/-- What a set half does to its record at the start (04, R84; 02, R47). -/
def startSet (s : State) : Option SetHalf → State
  | some (.reserved n) =>
    s.modHandover n fun h =>
      { h with state := .setting, deadline := h.deadline.map Deadline.stop }
  | some (.relocation n) =>
    s.modHandover n fun h => { h with deadline := h.deadline.map Deadline.stop }
  | _ => s

/-- What a lift half does to its record at the start (04, R86; 02, R47). -/
def startLift (s : State) : Option LiftHalf → State
  | some (.taker n) | some (.relocation n) =>
    s.modHandover n fun h =>
      { h with state := .lifting, deadline := h.deadline.map Deadline.stop }
  | _ => s

/-- The set takes inbound: a SET that adds a bin without a reservation (01, R5; 04, R84, R88). -/
def takesInbound (kind : OpKind) : Option SetHalf → Bool
  | some (.relocation _) | some (.untracked _) => kind == .set
  | _ => false

/-- The state a record has as an operation is accepted (04, R79). -/
def prior (s : State) (n : Nat) : Option (Nat × HandoverState) :=
  (s.handover n).map fun h => (n, h.state)

/-- The operation limit in ms (04, R80). -/
def operationMs (s : State) : Nat := s.params.operationLimit * 1000

/-- The operation record of an accepted OP_START (04, R79, R90). -/
def newOperation (s : State) (a : Nat) (kind : OpKind) (hs : Halves) : Operation where
  kind := kind
  robot := a
  setHalf := hs.1
  liftHalf := hs.2
  priors :=
    ((hs.1.bind SetHalf.handover).toList ++ (hs.2.bind LiftHalf.handover).toList).filterMap s.prior
  inboundTaken := takesInbound kind hs.1
  startedAt := s.time
  limit := s.operationMs

/-- An OP_START is accepted (04, R90). -/
def startOperation (s : State) (c a : Nat) (kind : OpKind) (hs : Halves) : State :=
  (((s.startSet hs.1).startLift hs.2).modCol c fun k =>
    { k with
      op := some (s.newOperation a kind hs)
      inbound := k.inbound || takesInbound kind hs.1 }).auditStart c |>.send a
    (.go c kind s.operationMs hs.1 hs.2)

end State

/-- Take OP_START on a column whose holder is the robot, after checks 1 to 6 (04, R81, R90). -/
def startChecked (a : Nat) (r : Robot) (c : Nat) (kind : OpKind) (k : Cls) (tag : BinTag)
    (s : State) : State :=
  match if kind = .scan then none else s.columnProblem c with
  | some (e, d) => s.sendRefused a e d
  | none =>
    match s.judgeKind c a r k tag kind with
    | .error e => s.sendRefused a e (.column c)
    | .ok hs => s.startOperation c a kind hs

/-- Take OP_START (04, R81). -/
def takeOpStart (a : Nat) (r : Robot) (q : Body.OpStart) (s : State) : State :=
  if (s.defn q.column).isNone then s.sendRefused a .unknownColumn (.column q.column)
  else if r.state ≠ .active then s.sendRefused a .notActive (.column q.column)
  else
    match OpKind.ofByte? q.kind with
    | none => s.sendRefused a .outOfRange (.column q.column)
    | some kind =>
      match (s.col q.column).grant.filter fun g => g.robot == a with
      | none => s.sendRefused a .noGrant (.column q.column)
      | some g =>
        if (s.col q.column).op.isSome then s.sendRefused a .busy (.column q.column)
        else if g.revoke.isSome then s.sendRefused a .revoked (.column q.column)
        else startChecked a r q.column kind g.cls q.tag s

/-- OP_START (04, R81 to R90). -/
def execOpStart (addr : Byte) (body : List Byte) (s : State) : Result :=
  robotFrame addr (Body.opStart body) takeOpStart s

/-! ### OP_END: the stack and custody -/

/-- The entry a set half pushes (04, R92). -/
def SetHalf.entry : SetHalf → Entry
  | .reserved n => .tracked n
  | .relocation n => .tracked n
  | .untracked t => .foreign t

/-- The stack after an OK end (04, R92): the lift half removes the top entry, then the set half
pushes its own. -/
def Operation.stackAfter (o : Operation) (st : List Entry) : List Entry :=
  (if o.liftHalf.isSome then st.dropLast else st) ++ (o.setHalf.map SetHalf.entry).toList

namespace State

/-- A record whose bin was set on column `c` at position `i` (02, R50). -/
def setDown (s : State) (c i : Nat) (relocated : Bool) (h : Handover) : Handover :=
  { h with
    column := some c
    custody := .column c i
    state := if h.taker = .none then .parked else .staged
    deadline := if h.taker = .none then none else some (s.freshCollect c)
    relocations := if relocated then countUp 255 h.relocations else h.relocations }

/-- The set half of an OK end (04, R93; 02, R50): its record takes its new state, and the robot's
slot becomes EMPTY. -/
def finishSet (s : State) (c a i : Nat) : Option SetHalf → State
  | none => s
  | some (.reserved n) => (s.modHandover n (s.setDown c i false)).setSlot a .empty false
  | some (.relocation n) => (s.modHandover n (s.setDown c i true)).setSlot a .empty false
  | some (.untracked _) => s.setSlot a .empty false

/-- HANDOVER_DONE for a record lifted by its taker (02, R52). -/
def doneNotice (s : State) (h : Handover) (a : Nat) : NoticeBody :=
  .handoverDone h.number h.tag h.giver a h.relocations (s.time - h.openedAt)

/-- A record is complete (02, R52). -/
def complete (s : State) (a : Nat) (h : Handover) : State :=
  ((s.freeHandover h.number).setSlot a (.untracked h.tag) false).notify (s.doneNotice h a)

/-- A record lifted by relocation (02, R51). -/
def lifted (s : State) (a : Nat) (h : Handover) : Handover :=
  { h with
    state := .carried
    column := none
    custody := .robot a
    deadline := some s.freshStage }

/-- The lift half of an OK end (04, R93; 02, R51, R52). The slot is written whatever it holds, also
when its robot was named giver while the lift was in flight (log 32). -/
def finishLift (s : State) (a : Nat) : Option LiftHalf → State
  | none => s
  | some (.taker n) =>
    match s.handover n with
    | some h => s.complete a h
    | none => s
  | some (.relocation n) => (s.modHandover n (s.lifted a)).setSlot a (.tracked n) true
  | some (.foreign t) => s.setSlot a (.untracked t) false

/-- The stack change, the records and the slot of an OK end (04, R92, R93). -/
def applyOperation (s : State) (c : Nat) (o : Operation) : State :=
  let st := o.stackAfter (s.col c).stack
  let s₁ := s.modCol c fun k => { k with stack := st }
  (s₁.finishSet c o.robot (st.length - 1) o.setHalf).finishLift o.robot o.liftHalf

/-! ### OP_END: the observation -/

/-- The bin tag of an entry (04, R95). -/
def entryTag (s : State) : Entry → BinTag
  | .tracked n => s.tagOf n
  | .foreign t => t

/-- An observation compared with the column's stack (04, R95). -/
def compare (s : State) (c height : Nat) (tag : BinTag) : Compare :=
  if height ≠ (s.col c).stack.length then .mismatch
  else
    match s.top c with
    | none => .credited
    | some e => if tag = 0 then .heightOnly else if tag = s.entryTag e then .credited else .mismatch

/-- The DISCREPANCY notice (04, R97). -/
def discrepancyNotice (s : State) (c : Nat) (o : Operation) (r : OpResult) (height : Nat)
    (tag : BinTag) : NoticeBody :=
  .discrepancy c (s.mappedBy c) o.kind o.robot r (s.col c).stack.length (s.topView c) height tag

/-- A MISMATCH (04, R97). -/
def mismatched (s : State) (c : Nat) (o : Operation) (r : OpResult) (height : Nat) (tag : BinTag) :
    State :=
  (s.addDiscrepancy c).notify (s.discrepancyNotice c o r height tag)

/-- The records involved in a credited end: those of the halves and the one named by the new top
(04, R96). -/
def involved (s : State) (c : Nat) (o : Operation) : List Nat :=
  o.records ++
    (match s.top c with
      | some (.tracked n) => [n]
      | _ => [])

/-- A credited OK end: uncertain flags, and the freeze causes for a SCAN (04, R96, R98). -/
def credited (s : State) (c : Nat) (o : Operation) : State :=
  let s₁ := s.modHandovers (fun h => (s.involved c o).contains h.number) fun h =>
    { h with uncertain := false }
  if o.kind = .scan then s₁.confirmStack c else s₁

/-- Act on the comparison of an OK end (04, R96 to R98). -/
def actOn (s : State) (c : Nat) (o : Operation) (height : Nat) (tag : BinTag) : Compare → State
  | .credited => s.credited c o
  | .heightOnly => s
  | .mismatch => s.mismatched c o .ok height tag

end State

/-- The outcome of an OK end as the audit unit is told (04, R94). -/
def Compare.outcome : Compare → EndOutcome
  | .credited => .credited
  | .heightOnly => .heightOnly
  | .mismatch => .mismatch

namespace State

/-- The column once an OK end's stack change is made: inbound and the record are removed, and the
settle mark is written unless the operation is a SCAN (04, R94, steps 1 to 3). -/
def closeOk (s : State) (c : Nat) (o : Operation) : State :=
  let s₁ := s.clearOp c o
  if o.kind = .scan then s₁ else s₁.markSettle c

/-- An OK end (04, R92 to R98). -/
def endOk (s : State) (c : Nat) (o : Operation) (height : Nat) (tag : BinTag) : State :=
  let s₁ := (s.applyOperation c o).closeOk c o
  let r := s₁.compare c height tag
  let s₂ := ((s₁.actOn c o height tag r).auditEnd c r.outcome).emit
  ((s₂.examineRemap c).emit.startGrace c).send o.robot (.accepted (.compared c r))

/-- The records, inbound and the operation record at a FAILED end (04, R99, steps 1 to 3). -/
def closeFailed (s : State) (c : Nat) (o : Operation) : State :=
  (s.returnRecords false o).clearOp c o

/-- A FAILED end (04, R99). -/
def endFailed (s : State) (c : Nat) (o : Operation) (height : Nat) (tag : BinTag) : State :=
  let s₁ := s.closeFailed c o
  let r := s₁.compare c height tag
  let s₂ := if r = .mismatch then s₁.mismatched c o .failed height tag else s₁
  let s₃ := ((s₂.auditEnd c .failed).emit).countFault c (.opFailed o.kind o.robot)
  ((s₃.examineRemap c).emit.startGrace c).send o.robot (.accepted (.compared c r))

end State

/-- Take OP_END (04, R91). -/
def takeOpEnd (a : Nat) (r : Robot) (q : Body.OpEnd) (s : State) : State :=
  if r.state = .lost then s.sendRefused a .lost (.column q.column)
  else if (s.defn q.column).isNone then s.sendRefused a .unknownColumn (.column q.column)
  else
    match (s.col q.column).op.filter fun o => o.robot == a with
    | none => s.sendRefused a .noOperation (.column q.column)
    | some o =>
      match OpResult.ofByte? q.result with
      | none => s.sendRefused a .outOfRange (.column q.column)
      | some res =>
        if 4 < q.height then s.sendRefused a .outOfRange (.column q.column)
        else
          match res with
          | .ok => s.endOk q.column o q.height q.tag
          | .failed => s.endFailed q.column o q.height q.tag

/-- OP_END (04, R91 to R99). -/
def execOpEnd (addr : Byte) (body : List Byte) (s : State) : Result :=
  robotFrame addr (Body.opEnd body) takeOpEnd s

/-! ### Operation limit -/

/-- The operation limit expires (04, R101): cut-off, LOST, end of the grant, the notices, and the
hand-on. -/
def State.limitExpired (s : State) (c : Nat) (o : Operation) : State :=
  let p := s.cutOff c .opLimit
  let s₁ := (p.1.loseRobot o.robot).endGrant c
  (s₁.notifyAll (s₁.robotLostNotice o.robot .opLimit c :: p.2)).handOn c

/-- OPERATION_LIMIT_EXPIRY (04, R101; log 2). -/
def execOperationLimitExpiry (c : Nat) (s : State) : Result :=
  match (s.col c).op with
  | some o => if o.limit = 0 then event (fun s => s.limitExpired c o) s else .next s
  | none => .next s

end Sys2Proof.Machine
end

