-- ==== Sys2Proof/Machine/Roster.lean ====
section
/-! DEFINITION. The commands of the fleet roster (05): announcement, readiness, admission, load
reports, dismissal and the expiry of the ready limit. -/

namespace Sys2Proof.Machine

/-! ### Announcements -/

/-- The section accepts a gripper class (05, R109; 09, R175). -/
def Params.accepts (p : Params) (g : Nat) : Bool := p.acceptedClasses.getLsbD g

namespace State

/-- The judgement of a robot's class and level: the reason it is INACTIVE, or none (05, R109). -/
def inactiveReason (s : State) (g l : Nat) : Option InactiveReason :=
  if !s.params.accepts g then some .cls
  else if l < s.params.minLevel then some .level
  else none

/-- The full ready limit in ms (05, R112). -/
def readyMs (s : State) : Nat := s.params.readyLimit * 1000

end State

/-- The slot an untracked load declares (05, R114). -/
def Slot.ofLoad (t : BinTag) : Slot := if t = 0 then .empty else .untracked t

/-- The state a judged robot enters (05, R109). -/
def judgedState : Option InactiveReason → RobotState
  | none => .announced
  | some _ => .inactive

namespace State

/-- The record with an announcement's class and level, judged: ANNOUNCED with the ready timer
started, or INACTIVE (05, R109, R118). -/
def enrolled (s : State) (r : Robot) (q : Body.Announce) : Robot :=
  { r with
    boot := q.boot
    gripper := q.gripper
    level := q.level
    state := judgedState (s.inactiveReason q.gripper q.level)
    maxClass := none
    admitPending := false
    readyTimer :=
      if (s.inactiveReason q.gripper q.level).isNone then some s.readyMs else none
    lastInactive := (s.inactiveReason q.gripper q.level).or r.lastInactive }

/-- The record of a first announcement (05, R109). -/
def newRobot (s : State) (q : Body.Announce) : Robot :=
  s.enrolled ⟨q.serial, q.boot, q.gripper, q.level, .announced, none, false, Slot.ofLoad q.load,
    false, none, none⟩ q

/-- ADDRESS for a robot's record, sent at fleet address 0; the reason goes with INACTIVE
(05, R109). -/
def sendAddress (s : State) (a : Nat) (r : Robot) : State :=
  s.send 0 (.address r.serial a r.state (if r.state = .inactive then r.lastInactive else none))

/-- CUSTODY_CONFLICT about a record (05, R116). -/
def conflict (s : State) (k : ConflictKind) (a : Nat) (r : Robot) (tag : BinTag) (h : Handover) :
    State :=
  s.notify (.custodyConflict k a r.serial tag r.slot h.number h.state h.custody)

/-- The record whose tag an untracked load declares (05, R116). -/
def elsewhere (s : State) (t : BinTag) : Option Handover :=
  if t = 0 then none else s.handoverByTag t

/-- TRACKED_ELSEWHERE, when the declared tag is that of a record (05, R116). -/
def judgeElsewhere (s : State) (a : Nat) (r : Robot) (t : BinTag) : State :=
  match s.elsewhere t with
  | some h => s.conflict .trackedElsewhere a r t h
  | none => s

/-- A first announcement (05, R109). -/
def firstAnnouncement (s : State) (a : Nat) (q : Body.Announce) : State :=
  let r := s.newRobot q
  let s₁ := (s.setRobot a (some r)).sendAddress a r
  (s₁.notify (.robotAnnounced a r.serial r.boot r.gripper r.level r.state r.lastInactive
    r.slot)).judgeElsewhere a r q.load

/-- The slot and its mark after a restart takes the load tag (05, R118, step 3). -/
def slotAfter (s : State) (r : Robot) (t : BinTag) : Slot × Bool :=
  match r.slot with
  | .tracked n => (.tracked n, r.loadConfirmed || t == s.tagOf n)
  | _ => (Slot.ofLoad t, false)

/-- The record of a robot after its restart (05, R118, steps 3 and 4). -/
def restarted (s : State) (r : Robot) (q : Body.Announce) : Robot :=
  { s.enrolled r q with
    slot := (s.slotAfter r q.load).1
    loadConfirmed := (s.slotAfter r q.load).2 }

/-- The grant a robot holds, with its column and class. -/
def grantOf (s : State) (a : Nat) : Option (Nat × Cls) :=
  (s.grantedTo a).bind fun c => (s.col c).grant.map fun g => (c, g.cls)

/-- The operation in flight of a robot, with its column. -/
def operationBy (s : State) (a : Nat) : Option (Nat × Operation) :=
  (s.workingOn a).bind fun c => (s.col c).op.map fun o => (c, o)

/-- The cut-off of a restart (05, R118, step 1). -/
def restartCut (s : State) (a : Nat) : Noted :=
  match s.workingOn a with
  | some c => s.cutOff c .restart
  | none => (s, [])

/-- ROBOT_RESTARTED (05, R118). -/
def restartNotice (s : State) (a : Nat) (r : Robot) (q : Body.Announce) : NoticeBody :=
  let r' := s.restarted r q
  .robotRestarted a r.serial r.boot q.boot r.state r'.state
    (if r'.state = .inactive then r'.lastInactive else none) (s.grantOf a) (s.waitingOn a)
    ((s.operationBy a).map fun p => (p.2.kind, p.1)) r'.slot r'.loadConfirmed

/-- The robot's grant ends and its column is handed on, or its request leaves its list (05, R118,
step 2; 03, R75). -/
def restartGrant (s : State) (a : Nat) : State :=
  match s.grantedTo a with
  | some c => (s.endGrant c).handOn c
  | none =>
    match s.waitingOn a with
    | some c => s.removeWait c a
    | none => s

/-- The record in the robot's slot becomes uncertain (05, R118, step 3; 02, R54). -/
def restartCustody (s : State) (r : Robot) : State :=
  match r.slot with
  | .tracked n => s.modHandover n fun h => { h with uncertain := true }
  | _ => s

/-- The conflict a restart's load tag gives (05, R118, step 3). -/
def restartConflict (s : State) (a : Nat) (r : Robot) (t : BinTag) : State :=
  match r.slot with
  | .tracked n =>
    if t = 0 ∨ t = s.tagOf n then s
    else
      match s.handover n with
      | some h => s.conflict .wrongBin a r t h
      | none => s
  | _ => s.judgeElsewhere a r t

/-- A restart (05, R118). ROBOT_RESTARTED tells what the restart ends, and its notice comes before
those of the cut-off. -/
def restart (s : State) (a : Nat) (r : Robot) (q : Body.Announce) : State :=
  let p := s.restartCut a
  let s₁ := p.1.notifyAll (s.restartNotice a r q :: p.2)
  let s₂ := (s₁.restartGrant a).restartCustody r
  let r' := s.restarted r q
  ((s₂.setRobot a (some r')).restartConflict a r' q.load).sendAddress a r'

/-- An ANNOUNCE from a robot whose serial a record holds: a repeat with the same boot count, which
is answered ADDRESS again and changes nothing else (05, R110), or a restart (R118). -/
def knownAnnouncement (s : State) (a : Nat) (r : Robot) (q : Body.Announce) : State :=
  if r.boot = q.boot then s.sendAddress a r else s.restart a r q

end State

/-- Take ANNOUNCE (05, R108). The roster is full exactly when no address is free. -/
def takeAnnounce (q : Body.Announce) (s : State) : State :=
  if !s.running then s.sendRefused 0 .notRunning (.serial q.serial)
  else if q.serial = 0 ∨ 7 < q.gripper ∨ 15 < q.level then
    s.sendRefused 0 .outOfRange (.serial q.serial)
  else
    match s.addressOf q.serial with
    | some a =>
      match s.robot a with
      | some r => s.knownAnnouncement a r q
      | none => s
    | none =>
      match s.freeAddress with
      | some a => s.firstAnnouncement a q
      | none => s.sendRefused 0 .rosterFull (.serial q.serial)

/-- ANNOUNCE (05, R108): taken whatever its address holds; one whose body does not decode is
discarded and counted (10, R194). -/
def execAnnounce (_addr : Byte) (body : List Byte) (s : State) : Result :=
  match Body.announce body with
  | .error _ => event State.discardFleet s
  | .ok q => event (takeAnnounce q) s

/-! ### Ready and admission -/

/-- Take READY (05, R111). -/
def takeReady (a : Nat) (r : Robot) (_ : Unit) (s : State) : State :=
  match r.state with
  | .announced =>
    let st : RobotState := if r.admitPending then .active else .ready
    (s.modRobot a fun r =>
      { r with state := st, admitPending := false, readyTimer := none }).send a
      (.accepted (.state st))
  | .lost => s.sendRefused a .lost .none
  | .inactive => s.sendRefused a .inactive .none
  | st => s.send a (.accepted (.state st))

/-- READY (05, R111). -/
def execReady (addr : Byte) (body : List Byte) (s : State) : Result :=
  robotFrame addr (Body.nothing body) takeReady s

/-- The address and record a request names (05, R113). -/
def State.enrolledAs (s : State) : RobotRef → Option (Nat × Robot)
  | .address a => (s.robot a).map fun r => (a, r)
  | .serial n => (s.addressOf n).bind fun a => (s.robot a).map fun r => (a, r)

/-- Take a request on a robot of the roster. -/
def onRobot (q : RobotRef) (take : Nat → Robot → State → Answer) (s : State) : Answer :=
  match s.enrolledAs q with
  | none => refuse s .unknownRobot
  | some (a, r) => take a r s

/-- Take ADMIT on a robot (05, R113, checks 3 and 4 and the effects). -/
def takeAdmit (k : Byte) (a : Nat) (r : Robot) (s : State) : Answer :=
  match Cls.ofByte? k with
  | none => refuse s .outOfRange
  | some k =>
    match r.state with
    | .inactive => refuse s .inactive
    | .active => refuse s .wrongState
    | .announced =>
      ⟨s.modRobot a fun r => { r with maxClass := some k, admitPending := true }, .ok,
        .admitted a r.serial k .announced⟩
    | _ =>
      ⟨(s.modRobot a fun r => { r with maxClass := some k, state := .active }).send 0
          (.address r.serial a .active none), .ok, .admitted a r.serial k .active⟩

/-- ADMIT (05, R113). -/
def execAdmit (tag : Word16) (body : List Byte) (s : State) : Result :=
  hostRequest 6 tag body
    (withBody (Body.admission body) fun q => inRunning (onRobot q.1 (takeAdmit q.2))) s

/-- The ready limit of a robot has run out (05, R112; log 2). -/
def Robot.readyDue (r : Robot) : Bool := r.state == .announced && r.readyTimer == some 0

/-- A robot whose ready limit expired (05, R112). -/
def Robot.notReady (r : Robot) : Robot :=
  { r with
    state := .inactive
    lastInactive := some .notReady
    maxClass := none
    admitPending := false
    readyTimer := none }

/-- The ready limit expires (05, R112). -/
def State.readyExpired (s : State) (a : Nat) (r : Robot) : State :=
  ((s.setRobot a (some r.notReady)).sendAddress a r.notReady).notify
    (.robotInactive a r.serial .notReady)

/-- READY_LIMIT_EXPIRY (05, R112). -/
def execReadyLimitExpiry (a : Nat) (s : State) : Result :=
  match s.robot a with
  | some r => if r.readyDue then event (fun s => s.readyExpired a r) s else .next s
  | none => .next s

/-! ### The carried slot -/

/-- Take LOAD_REPORT with the slot TRACKED (05, R115, first three cases). -/
def reportTracked (a : Nat) (r : Robot) (n : Nat) (t : BinTag) (s : State) : State :=
  if t = 0 then s.send a (.accepted (.load .noted))
  else if t = s.tagOf n then
    (s.modRobot a fun r => { r with loadConfirmed := true }).send a (.accepted (.load .confirmed))
  else
    match s.handover n with
    | some h => (s.conflict .wrongBin a r t h).send a (.accepted (.load .conflict))
    | none => s.send a (.accepted (.load .conflict))

/-- Take LOAD_REPORT with the slot not TRACKED (05, R115, last two cases). -/
def reportUntracked (a : Nat) (r : Robot) (t : BinTag) (s : State) : State :=
  if (s.workingOn a).isSome then s.send a (.accepted (.load .inFlight))
  else
    ((s.setSlot a (Slot.ofLoad t) false).judgeElsewhere a { r with slot := Slot.ofLoad t } t).send a
      (.accepted (.load (if (s.elsewhere t).isSome then .conflict else .noted)))

/-- Take LOAD_REPORT (05, R115). -/
def takeLoadReport (a : Nat) (r : Robot) (t : BinTag) (s : State) : State :=
  match r.slot with
  | .tracked n => reportTracked a r n t s
  | _ => reportUntracked a r t s

/-- LOAD_REPORT (05, R115). -/
def execLoadReport (addr : Byte) (body : List Byte) (s : State) : Result :=
  robotFrame addr (Body.loadReport body) takeLoadReport s

/-- Does a slot hold a tracked bin? -/
def Slot.handover : Slot → Option Nat
  | .tracked n => some n
  | _ => none

/-- Take DROP_OFF (05, R117). -/
def takeDropOff (a : Nat) (r : Robot) (_ : Unit) (s : State) : State :=
  if r.slot.handover.isSome then s.sendRefused a .trackedLoad .none
  else if (s.workingOn a).isSome then s.sendRefused a .busy .none
  else (s.setSlot a .empty false).send a (.accepted .none)

/-- DROP_OFF (05, R117). -/
def execDropOff (addr : Byte) (body : List Byte) (s : State) : Result :=
  robotFrame addr (Body.nothing body) takeDropOff s

/-! ### Dismissal -/

/-- A record whose taker is dismissed (02, R39). -/
def Handover.takerGone (h : Handover) : Handover :=
  if h.state = .staged then h.park else { h with taker := .none }

namespace State

/-- Remove a robot as taker (02, R39). -/
def removeTaker (s : State) (a : Nat) : State :=
  s.modHandovers (fun h => h.taker == .addr a) Handover.takerGone

/-- The number of records that name a robot as taker. -/
def takerCount (s : State) (a : Nat) : Nat := s.handovers.countP fun h => h.taker == .addr a

end State

/-- Take DISMISS on a robot (05, R121). -/
def takeDismiss (a : Nat) (r : Robot) (s : State) : Answer :=
  match r.slot.handover with
  | some n => refuse s .custodian (.custodian n)
  | none =>
    if (s.standingOn a).isSome then refuse s .busy
    else
      ⟨((s.send a .dismissed).removeTaker a).setRobot a none, .ok,
        .dismissed a r.serial r.slot (s.takerCount a)⟩

/-- DISMISS (05, R121). -/
def execDismiss (tag : Word16) (body : List Byte) (s : State) : Result :=
  hostRequest 7 tag body
    (withBody (Body.robot body) fun q => inRunning (onRobot q takeDismiss)) s

/-! ### QUERY_ROBOT -/

namespace State

/-- The carried slot as a query gives it (05, R122). A slot TRACKED(n) names a record (02, R30);
without one the reply says UNLOCATED (log 22). -/
def slotView (s : State) (r : Robot) : SlotView :=
  match r.slot with
  | .empty => .empty
  | .tracked n =>
    match s.handover n with
    | some h => .tracked n h.state h.uncertain r.loadConfirmed
    | none => .tracked n .unlocated false r.loadConfirmed
  | .untracked t => .untracked t

/-- The position of a robot's request in a wait list, from 1 (03, R57). -/
def positionOn (s : State) (c a : Nat) : Nat :=
  (indexFrom (fun w => w.robot == a) (s.col c).waits 1).getD 0

/-- The class of a robot's request in a wait list. -/
def classOn (s : State) (c a : Nat) : Cls :=
  (((s.col c).waits.find? fun w => w.robot == a).map (·.cls)).getD .transfer

/-- A robot's grant or waiting request (05, R122). -/
def standing (s : State) (a : Nat) : Standing :=
  match s.grantedTo a with
  | some c =>
    match (s.col c).grant with
    | some g => .grant c g
    | none => .none
  | none =>
    match s.waitingOn a with
    | some c => .waiting c (s.classOn c a) (s.positionOn c a)
    | none => .none

/-- The QUERY_ROBOT reply (05, R122). -/
def robotReport (s : State) (a : Nat) (r : Robot) : RobotReport where
  address := a
  robot := r
  slot := s.slotView r
  standing := s.standing a
  op := (s.operationBy a).map fun p => (p.2.kind, p.1, s.time - p.2.startedAt)
  takerOf := s.takerCount a

end State

/-- QUERY_ROBOT (05, R122). -/
def execQueryRobot (tag : Word16) (body : List Byte) (s : State) : Result :=
  hostRequest 8 tag body
    (withBody (Body.robot body) fun q =>
      onRobot q fun a r s => ⟨s, .ok, .robot (s.robotReport a r)⟩) s

end Sys2Proof.Machine
end

