-- ==== Sys2Proof/Machine/Zones.lean ====
section
/-! DEFINITION. The commands of the zone controller (08): mode requests, the ZONE_ACK pairs, the
interlock limit and GRID_HOLD. -/

namespace Sys2Proof.Machine

/-! ### Mode requests -/

/-- The four targets, if each byte is one of the four modes (08, R157). -/
def targetsOf (q : Quad Byte) : Option (Quad Mode) :=
  match Mode.ofByte? q.z0, Mode.ofByte? q.z1, Mode.ofByte? q.z2, Mode.ofByte? q.z3 with
  | some a, some b, some c, some d => some ⟨a, b, c, d⟩
  | _, _, _, _ => none

namespace State

/-- The zones a request would tighten (08, 8.2). -/
def tightenedBy (s : State) (q : Quad Mode) : List Nat :=
  Quad.zonesWhere fun z => (q.get z).stricter (s.zones.current.get z)

/-- The zones a request would loosen (08, 8.2). -/
def loosenedBy (s : State) (q : Quad Mode) : List Nat :=
  Quad.zonesWhere fun z => (s.zones.current.get z).stricter (q.get z)

/-- The targets of the loosening part of a mixed request: the current mode for tightened zones
(08, R158). -/
def looseningPart (s : State) (q : Quad Mode) : Quad Mode :=
  Quad.ofFn fun z =>
    if (q.get z).stricter (s.zones.current.get z) then s.zones.current.get z else q.get z

/-- Drop a transition in WAITING (08, R162): the zones it tightened loosen, and their columns
without a holder are handed on (03, R71). -/
def dropWaiting (s : State) : State := (s.modZones fun q => { q with trans := none }).handOnLoosened s

/-- A NORMAL transition as a request builds it (08, R158). -/
def buildTransition (tag : Word16) (targets : Quad Mode) (mixed : Bool) : Transition :=
  ⟨.waiting, .normal, targets, Quad.same 0, .request tag, mixed, none⟩

/-- The built record takes the place of the one in WAITING, if any, and the zones whose effective
mode is thereby looser are handed on (08, R161; log 18). -/
def installTransition (s : State) (t : Transition) : State :=
  (s.modZones fun q => { q with trans := some t }).handOnLoosened s

/-- A request that only loosens, or the loosening part of a mixed one, enters CHANGING
(08, R158). -/
def startLoosening (s : State) (tag : Word16) (targets : Quad Mode) (mixed : Bool) : State :=
  ((s.modZones fun q => { q with
      trans := some { buildTransition tag targets mixed with state := .changing } }).handOnLoosened
    s).enterChanging (buildTransition tag targets mixed)

/-- A request that only tightens enters WAITING (08, R158, R160). -/
def startTightening (s : State) (tag : Word16) (targets : Quad Mode) : State :=
  (s.installTransition (buildTransition tag targets false)).enterWaiting
    (buildTransition tag targets false)

/-- A MODE_REQUEST that passes its checks, by its class (08, R158, R161). -/
def modeRequested (s : State) (tag : Word16) (q : Quad Mode) : State :=
  if (s.tightenedBy q).isEmpty then
    if (s.loosenedBy q).isEmpty then s.dropWaiting else s.startLoosening tag q false
  else if (s.loosenedBy q).isEmpty then s.startTightening tag q
  else s.startLoosening tag (s.looseningPart q) true

/-- A request tightens at least one zone and loosens at least one (08, R158). -/
def mixedRequest (s : State) (q : Quad Mode) : Bool :=
  !(s.tightenedBy q).isEmpty && !(s.loosenedBy q).isEmpty

/-- What the reply to a MODE_REQUEST that left `t` gives (08, R158). -/
def modeReply (t : State) (tag : Word16) : ModeReply where
  tag := tag
  current := t.zones.current
  state := t.zones.trans.map (·.state)
  targets := t.zones.trans.map (·.targets)

/-- The zones whose tightening a mixed request drops, with current mode and target (08, R159). -/
def droppedBy (s : State) (q : Quad Mode) : List (Nat × Mode × Mode) :=
  (s.tightenedBy q).map fun z => (z, s.zones.current.get z, q.get z)

end State

/-- The answer to a MODE_REQUEST that passes its checks: OK, or PARTIAL for a mixed request, with the
mixed mark and the zones dropped (08, R158, R159). -/
def modeAnswer (tag : Word16) (q : Quad Mode) (s : State) : Answer :=
  let t := s.modeRequested tag q
  if s.mixedRequest q then ⟨t, .partialOk, .modePartial (t.modeReply tag) (s.droppedBy q)⟩
  else ⟨t, .ok, .mode (t.modeReply tag)⟩

/-- Take MODE_REQUEST in RUNNING (08, R157, R158). -/
def takeModeRequest (tag : Word16) (b : Quad Byte) (s : State) : Answer :=
  match targetsOf b with
  | none => refuse s .outOfRange
  | some q =>
    if s.zones.hold || s.zones.holdPending then refuse s .holdActive
    else if s.zones.trans.map (·.state) = some .changing then refuse s .modeBusy
    else modeAnswer tag q s

/-- MODE_REQUEST (08, R157 to R161). -/
def execModeRequest (tag : Word16) (body : List Byte) (s : State) : Result :=
  hostRequest 22 tag body
    (withBody (Body.modeRequest body) fun b => inRunning (takeModeRequest tag b)) s

/-- Take MODE_CANCEL in RUNNING (08, R162). -/
def takeModeCancel (s : State) : Answer :=
  match s.zones.trans with
  | none => refuse s .wrongState
  | some t =>
    if t.state = .changing then refuse s .modeBusy
    else ⟨s.dropWaiting, .ok, .modeCancelled s.zones.current t.targets⟩

/-- MODE_CANCEL (08, R162). -/
def execModeCancel (tag : Word16) (body : List Byte) (s : State) : Result :=
  hostRequest 23 tag body (withBody (Body.nothing body) fun _ => inRunning takeModeCancel) s

/-! ### QUERY_ZONES -/

namespace State

/-- One zone of a QUERY_ZONES reply (08, R171). -/
def zoneReport (s : State) (z : Nat) : ZoneReport where
  current := s.zones.current.get z
  driven := s.zones.driven.get z
  ack := s.zones.ack.get z
  echoes := s.echoes z
  effective := s.effective z
  defined := (s.columnsOf z).length
  zoneFrozen := (s.columnsOf z).countP fun c => (s.col c).causes.zone
  holders := (s.columnsOf z).countP fun c => (s.col c).grant.isSome
  waiting := ((s.columnsOf z).map fun c => (s.col c).waits.length).sum

/-- The QUERY_ZONES reply (08, R171). -/
def zonesReport (s : State) : ZonesReport where
  zones := Quad.ofFn s.zoneReport
  trans := s.zones.trans.map fun t => (t, s.tightenedZones t)
  hold := s.zones.hold
  holdPending := s.zones.holdPending

end State

/-- QUERY_ZONES (08, R171). -/
def execQueryZones (tag : Word16) (body : List Byte) (s : State) : Result :=
  hostRequest 24 tag body
    (withBody (Body.nothing body) fun _ s => ⟨s, .ok, .zones s.zonesReport⟩) s

/-! ### The interlock lines -/

/-- ZONE_ACK_CHANGE (08, R156; 10, R196): the filter takes the new level of a pair, and the echo is
judged. A pair already at the level has not changed, and one that has not been steady for 2 ms is not
taken: nothing happens (logs 16, 35). -/
def execZoneAckChange (zone : Fin 4) (level : Mode) (s : State) : Result :=
  if (s.lines.ack.get zone).takes (s.zones.ack.get zone) level then
    event (fun s => (s.takeAck zone level).judgeEcho) s
  else .next s

/-- The interlock limit of the transition has run out (08, R166; log 2). -/
def interlockDue (t : Transition) : Bool :=
  t.state == .changing && t.kind == .normal && t.limit == some 0

/-- INTERLOCK_LIMIT_EXPIRY (08, R166). -/
def execInterlockLimitExpiry (s : State) : Result :=
  match s.zones.trans with
  | none => .next s
  | some t => if interlockDue t then event (fun s => s.failTransition t) s else .next s

namespace State

/-- GRID_HOLD asserted (08, R167). -/
def assertHold (s : State) : State :=
  let s₁ := s.modZones fun q => { q with hold := true }
  if s.running then
    match s.zones.trans with
    | none => (s₁.notify (.holdAsserted .none)).beginHold
    | some t =>
      match t.state, t.kind with
      | .waiting, _ =>
        (((s₁.modZones fun q => { q with trans := none }).notify (.holdAsserted .waiting)).notify
          (.requestOvertaken t.requester t.targets)).beginHold
      | .changing, .normal =>
        (s₁.modZones fun q => { q with holdPending := true }).notify (.holdAsserted .changingNormal)
      | .changing, .hold => s₁.notify (.holdAsserted .changingHold)
  else s₁.notify (.holdAsserted .unconfigured)

/-- GRID_HOLD released (08, R170): the columns of the zones whose effective mode is thereby looser
are handed on (03, R71). -/
def releaseHold (s : State) : State :=
  let s₁ := s.modZones fun q => { q with hold := false, holdPending := false }
  (s₁.notify (.holdReleased (s.zones.trans.map (·.state)) s.zones.current)).handOnLoosened s

end State

/-- GRID_HOLD_ASSERTED (08, R167; 10, R196). A line already asserted has not changed, and one that has
not been steady for 2 ms is not taken: nothing happens (logs 16, 35). -/
def execGridHoldAsserted (s : State) : Result :=
  if s.lines.gridHold.takes s.zones.hold true then
    event (fun s => (s.takeGridHold true).assertHold) s
  else .next s

/-- GRID_HOLD_RELEASED (08, R170; 10, R196). A line already released has not changed, and one that has
not been steady for 2 ms is not taken: nothing happens (logs 16, 35). -/
def execGridHoldReleased (s : State) : Result :=
  if s.lines.gridHold.takes s.zones.hold false then
    event (fun s => (s.takeGridHold false).releaseHold) s
  else .next s

end Sys2Proof.Machine
end

