-- ==== Sys2Proof/Machine/Clock.lean ====
section
/-! DEFINITION. One millisecond of the time base (00, 0.6): every running timer counts down, the filter
of every plain line goes on, and the expiry of each timer that has run out and the change of each line
that has been steady for 2 ms are put in the queue of commands (logs 1, 2, 3, 35). -/

namespace Sys2Proof.Machine

/-- A deadline counts down while RUNNING (02, R42). -/
def Deadline.count (d : Deadline) : Deadline :=
  match d.cond with
  | .running => { d with remaining := d.remaining - 1 }
  | _ => d

/-- The timers of a grant (03, R65, R67). -/
def Grant.count (g : Grant) : Grant :=
  { g with holdLimit := g.holdLimit.map (· - 1), grace := g.grace.map (· - 1) }

/-- The timers of a column: hold limit, grace, operation limit, and the settle time (04, R80,
R82). -/
def Column.count (k : Column) : Column :=
  { k with
    settleMark := k.settleMark.map fun m => { m with left := m.left - 1 }
    grant := k.grant.map Grant.count
    op := k.op.map fun o => { o with limit := o.limit - 1 } }

/-- The clock of a record (02, R42). -/
def Handover.count (h : Handover) : Handover := { h with deadline := h.deadline.map Deadline.count }

/-- The ready timer of a robot (05, R112). -/
def Robot.count (r : Robot) : Robot := { r with readyTimer := r.readyTimer.map (· - 1) }

/-- The tick timer and the call limit (06, R126, R133). -/
def AuditUnit.count (u : AuditUnit) : AuditUnit :=
  { u with callLimit := u.callLimit.map (· - 1), tick := u.tick.map (· - 1) }

/-- The interlock limit (08, R163). -/
def ZoneCtl.count (q : ZoneCtl) : ZoneCtl :=
  { q with trans := q.trans.map fun t => { t with limit := t.limit.map (· - 1) } }

/-- The gap timers of the two receivers (10, R185). -/
def LinkUnit.count (l : LinkUnit) : LinkUnit :=
  { l with controlGap := l.controlGap.map (· - 1), fleetGap := l.fleetGap.map (· - 1) }

namespace State

/-- The time base, every running timer and every line filter advance by 1 ms. -/
def countDown (s : State) : State :=
  { s with
    columns := s.columns.map Column.count
    handovers := s.handovers.map Handover.count
    roster := s.roster.map (Option.map Robot.count)
    audit := s.audit.count
    zones := s.zones.count
    lines := s.lines.count
    link := s.link.count
    time := s.time + 1 }

end State

/-- The expiry of a record's deadline, when it has run out. -/
def Handover.expiry (h : Handover) : List Instr :=
  if h.due .openState .stage then [.stageExpired h.number]
  else if h.due .carried .stage then [.relocationOverdue h.number]
  else if h.due .staged .collect then [.collectExpired h.number]
  else []

/-- The expiries of a column. -/
def Column.expiries (c : Nat) (k : Column) : List Instr :=
  (match k.grant with
    | some g =>
      if g.holdDue then [.holdLimitExpiry c]
      else if g.graceDue then [.releaseGraceExpiry c]
      else []
    | none => []) ++
  (match k.op with
    | some o => if o.limit = 0 then [.operationLimitExpiry c] else []
    | none => [])

namespace State

/-- The changes of the plain lines that the filters take (10, R196). -/
def lineChanges (s : State) : List Instr :=
  ([0, 1, 2, 3] : List (Fin 4)).filterMap (fun z : Fin 4 =>
    let p := s.lines.ack.get z
    if p.takes (s.zones.ack.get z) p.seen then some (.zoneAckChange z p.seen) else none) ++
  (if s.lines.gridHold.takes s.zones.hold s.lines.gridHold.seen then
    [if s.lines.gridHold.seen then .gridHoldAsserted else .gridHoldReleased]
  else [])

/-- The timeouts of the partial frames whose 20 ms have passed (10, R185). -/
def frameTimeouts (s : State) : List Instr :=
  ([.control, .fleet] : List LinkId).filterMap fun l =>
    if s.gap l = some 0 then some (.frameTimeout l) else none

/-- The expiries of the timers that have run out, and the changes of the lines. -/
def expiries (s : State) : List Instr :=
  s.handovers.flatMap Handover.expiry ++
  (List.range Config.columnCount).flatMap (fun c => (s.col c).expiries c) ++
  (List.range (Config.rosterCap + 1)).flatMap (fun a =>
    match s.robot a with
    | some r => if r.readyDue then [.readyLimitExpiry a] else []
    | none => []) ++
  (if s.audit.tick = some 0 then [.auditTick] else []) ++
  (if s.audit.callLimit = some 0 then [.callLimitExpiry] else []) ++
  (match s.zones.trans with
    | some t => if interlockDue t then [.interlockLimitExpiry] else []
    | none => []) ++
  s.frameTimeouts ++
  s.lineChanges

end State

/-- Put a command at a place of a list; at its end for a place beyond it. -/
def putAt (c : Instr) : Nat → List Instr → List Instr
  | _, [] => [c]
  | 0, d :: ds => c :: d :: ds
  | n + 1, d :: ds => d :: putAt c n ds

/-- The expiries of one millisecond in the order the free choices from `k` on give (log 3). -/
def arrange (k : Nat) : List Instr → List Instr
  | [] => []
  | c :: cs =>
    putAt c (Config.expiryPlace k cs.length % (cs.length + 1)) (arrange (k + 1) cs)

/-- How many free choices the order of that many expiries takes: one is in its only order. -/
def choicesFor (n : Nat) : Nat := if n < 2 then 0 else n

namespace State

/-- One millisecond passes while no command waits (log 1). -/
def tick (s : State) : State :=
  { s.countDown with
    pending := arrange s.choices s.countDown.expiries
    choices := s.choices + choicesFor s.countDown.expiries.length }

end State

end Sys2Proof.Machine
end

