-- ==== Sys2Proof/Machine/Columns.lean ====
section
/-! DEFINITION. The commands of the column table and the exchange point map (01). -/

namespace Sys2Proof.Machine

/-! ### The map -/

/-- Take MAP_XP in UNCONFIGURED (01, R17). -/
def mapUnconfigured (x : Nat) (c : Option Nat) (s : State) : Answer :=
  match c with
  | none => ⟨s.setXp x none, .ok, .mapped x none⟩
  | some c =>
    if Config.columnCount ≤ c then refuse s .unknownColumn
    else if (s.xp x).map (·.column) = some c then ⟨s, .ok, .mapped x (s.xp x)⟩
    else if (s.mappedBy c).isSome then refuse s .inUse
    else ⟨s.setXp x (some ⟨c, false⟩), .ok, .mapped x (some ⟨c, false⟩)⟩

/-- Take MAP_XP in RUNNING, after its check of the XP number (01, R18). -/
def mapRunning (x : Nat) (c : Option Nat) (s : State) : Answer :=
  match c with
  | none => refuse s .wrongState
  | some c =>
    if (s.defn c).isNone then refuse s .unknownColumn
    else if (s.xp x).isSome then refuse s .wrongState
    else if (s.col c).retired then refuse s .retired
    else if (s.mappedBy c).isSome then refuse s .inUse
    else
      ⟨s.setXp x (some ⟨c, false⟩), .ok,
        .mappedSpare x c (s.zoneOf c) (s.col c).verification⟩

/-- Take MAP_XP (01, R1, R17, R18); the XP number is checked first in both states (log 27). -/
def takeMapXp (q : Nat × Option Nat) (s : State) : Answer :=
  if Config.xpCount ≤ q.1 then refuse s .unknownXp
  else if s.running then mapRunning q.1 q.2 s
  else mapUnconfigured q.1 q.2 s

/-- MAP_XP (01, R17, R18). -/
def execMapXp (tag : Word16) (body : List Byte) (s : State) : Result :=
  hostRequest 3 tag body (withBody (Body.mapXp body) takeMapXp) s

/-! ### Lock groups -/

/-- Set or clear a lock-group flag (01, R9). -/
def takeLock (set : Bool) (g : Nat) (s : State) : Answer :=
  if Config.groupCount ≤ g then refuse s .outOfRange
  else
    ⟨{ s with lockFlags := updateAt s.lockFlags g fun _ => set }, .ok,
      .lockFlag g set (s.definedWhere fun _ d => d.group == g).length⟩

/-- LOCK_GROUP (01, R9). -/
def execLockGroup (tag : Word16) (body : List Byte) (s : State) : Result :=
  hostRequest 15 tag body (withBody (Body.one body) fun g => inRunning (takeLock true g)) s

/-- UNLOCK_GROUP (01, R9). -/
def execUnlockGroup (tag : Word16) (body : List Byte) (s : State) : Result :=
  hostRequest 16 tag body (withBody (Body.one body) fun g => inRunning (takeLock false g)) s

/-! ### Retirement and faults -/

/-- Take RETIRE_COLUMN in RUNNING (01, R13, R14). The remap completed at once when the column was
mapped and is so no longer. The reply names the XP that mapped the column before that remap, which the
manual leaves open (log 31). -/
def takeRetireColumn (c : Nat) (s : State) : Answer :=
  if (s.defn c).isNone then refuse s .unknownColumn
  else if (s.col c).retired then refuse s .already
  else
    ⟨s.retire c .host, .ok,
      .columnRetired c (s.mappedBy c)
        ((s.mappedBy c).isSome && ((s.retire c .host).mappedBy c).isNone)⟩

/-- RETIRE_COLUMN (01, R13). -/
def execRetireColumn (tag : Word16) (body : List Byte) (s : State) : Result :=
  hostRequest 17 tag body (withBody (Body.one body) fun c => inRunning (takeRetireColumn c)) s

/-- Take FAULT_REPORT (01, R10). -/
def takeFaultReport (a : Nat) (r : Robot) (q : Nat × FaultKind) (s : State) : State :=
  if (s.defn q.1).isNone then s.sendRefused a .unknownColumn .none
  else if r.state != .active then s.sendRefused a .notActive .none
  else (s.countFault q.1 (.report q.2 a)).send a (.accepted .none)

/-- FAULT_REPORT (01, R10). -/
def execFaultReport (addr : Byte) (body : List Byte) (s : State) : Result :=
  robotFrame addr (Body.faultReport body) takeFaultReport s

/-! ### Queries -/

namespace State

/-- The QUERY_COLUMN reply for a column with its definition (01, R21; 03, R77). -/
def columnReport (s : State) (c : Nat) (d : Defn) : ColumnReport where
  index := c
  defn := d
  mapping := (s.mappedBy c).map fun x => (x, ((s.xp x).map (·.remapPending)).getD false)
  retired := (s.col c).retired
  locked := s.locked c
  stack := (s.col c).stack.map s.entryView
  depth := (s.col c).stack.length
  reserving := s.reserving c
  inbound := (s.col c).inbound
  freeRoom := s.freeRoom c
  faultCount := (s.col c).faultCount
  lastFault := (s.col c).lastFault
  causes := (s.col c).causes
  verification := (s.col c).verification
  seen := (s.col c).seen
  sinceSettle := (s.col c).settleMark.map fun m => s.time - m.at_
  grant := (s.col c).grant
  waits := (s.col c).waits
  op := (s.col c).op.map fun o => (o.kind, o.robot, s.time - o.startedAt)
  called := s.audit.called == some c

/-- What QUERY_XP adds for a defined column (01, R22). -/
def eligibilityReport (s : State) (c : Nat) : EligibilityReport where
  zone := s.zoneOf c
  depth := (s.col c).stack.length
  reservations := s.reservations c
  inbound := (s.col c).inbound
  freeRoom := s.freeRoom c
  retired := (s.col c).retired
  locked := s.locked c
  frozen := s.frozen c
  verification := (s.col c).verification
  obstacle := s.obstacle c

/-- The QUERY_XP reply (01, R22, R1). -/
def xpReport (s : State) (x : Nat) : XpReport :=
  ⟨x, (s.xp x).map fun e => (e, (s.defn e.column).map fun _ => s.eligibilityReport e.column)⟩

end State

/-- Take QUERY_COLUMN (01, R21). -/
def takeQueryColumn (c : Nat) (s : State) : Answer :=
  match s.defn c with
  | none => refuse s .unknownColumn
  | some d => ⟨s, .ok, .column (s.columnReport c d)⟩

/-- QUERY_COLUMN (01, R21). -/
def execQueryColumn (tag : Word16) (body : List Byte) (s : State) : Result :=
  hostRequest 20 tag body (withBody (Body.one body) takeQueryColumn) s

/-- Take QUERY_XP (01, R22). -/
def takeQueryXp (x : Nat) (s : State) : Answer :=
  if Config.xpCount ≤ x then refuse s .unknownXp else ⟨s, .ok, .xp (s.xpReport x)⟩

/-- QUERY_XP (01, R22). -/
def execQueryXp (tag : Word16) (body : List Byte) (s : State) : Result :=
  hostRequest 21 tag body (withBody (Body.one body) takeQueryXp) s

end Sys2Proof.Machine
end

