-- ==== Sys2Proof/Machine/Recovery.lean ====
section
/-! DEFINITION. The commands of recovery (07): RECONCILE_COLUMN and RELEASE_FREEZE. -/

namespace Sys2Proof.Machine

/-! ### RECONCILE_COLUMN: checks -/

/-- A record whose tag is in the host's list (07, R142). -/
def listed (ts : List BinTag) (h : Handover) : Bool := ts.contains h.tag

/-- Does a tag appear twice? -/
def twice : List BinTag → Bool
  | [] => false
  | t :: ts => ts.contains t || twice ts

namespace State

/-- The reservations of a column less those of the OPEN records the list names (07, R143). -/
def remaining (s : State) (c : Nat) (ts : List BinTag) : Nat :=
  s.handovers.countP fun h => reserves c h && !(h.state == .openState && listed ts h)

/-- A listed record that is in flight (07, R142, check 7): of several the first in the list, which the
refusal names (log 34). -/
def listedInFlight (s : State) (ts : List BinTag) : Option Handover :=
  ts.findSome? fun t => (s.handoverByTag t).filter s.recordInFlight

/-- The refusal of a reconcile of a defined column (07, R142, checks 3 to 8; R149). -/
def reconcileProblem (s : State) (c : Nat) (d : Defn) (ts : List BinTag) :
    Option (Status × ReplyBody) :=
  if d.capacity < ts.length then
    some (.overCapacity, .overCapacity (s.remaining c ts) d.capacity)
  else if ts.contains 0 then some (.badTag, .none)
  else if twice ts then some (.duplicateBin, .none)
  else if (s.col c).op.isSome then some (.inFlight, .columnInFlight c)
  else if !ts.isEmpty && (s.mappedBy c).isNone then some (.unmapped, .none)
  else
    match s.listedInFlight ts with
    | some h =>
      some (.inFlight, .recordInFlight h.number ((s.operationOf h.number).getD 0))
    | none =>
      if d.capacity < ts.length + s.remaining c ts then
        some (.overCapacity, .overCapacity (s.remaining c ts) d.capacity)
      else none

/-! ### RECONCILE_COLUMN: effects -/

/-- A record whose TRACKED entry stands on the column and whose tag is not listed (07, R144). -/
def losesPlace (s : State) (c : Nat) (ts : List BinTag) (h : Handover) : Bool :=
  (s.col c).stack.contains (.tracked h.number) && !listed ts h

/-- The records the list leaves out become UNLOCATED (07, R144). -/
def unlocate (s : State) (c : Nat) (ts : List BinTag) : State :=
  s.modHandovers (s.losesPlace c ts) fun h =>
    { h with state := .unlocated, column := none, custody := .unlocated, deadline := none }

/-- A listed record is taken out of its present custody place (07, R145). -/
def takeOut (c : Nat) (s : State) (h : Handover) : State :=
  match h.custody with
  | .column d _ =>
    if d = c then s
    else
      ((s.modCol d fun k =>
        { k with stack := k.stack.filter fun e => e != .tracked h.number }).placeEntries
          d).addDiscrepancy d
  | .robot a => s.setSlot a .empty false
  | .unlocated => s

/-- The entry a listed tag gives (07, R146). -/
def listEntry (s : State) (t : BinTag) : Entry :=
  match s.handoverByTag t with
  | some h => .tracked h.number
  | none => .foreign t

/-- A listed record at its listed position (07, R146). -/
def placed (s : State) (c : Nat) (ts : List BinTag) (h : Handover) : Handover :=
  { h with
    column := some c
    custody := .column c ((indexFrom (· == h.tag) ts 0).getD 0)
    state := if h.taker = .none then .parked else .staged
    deadline := if h.taker = .none then none else some (s.freshCollect c)
    uncertain := false }

/-- The stack and the listed records are written (07, R146). -/
def writeList (s : State) (c : Nat) (ts : List BinTag) : State :=
  (s.modCol c fun k => { k with stack := ts.map s.listEntry }).modHandovers (listed ts)
    (s.placed c ts)

/-- The column becomes FRESH with seen clear, and a call on it is settled (06, R134; 07, R148). -/
def reconcileAudit (s : State) (c : Nat) : State :=
  let s₁ := s.setAudit c .fresh false
  if s₁.audit.called = some c then s₁.endCall c else s₁

/-- The listed records, in list order (07, R145). -/
def listedRecords (s : State) (ts : List BinTag) : List Handover :=
  ts.filterMap s.handoverByTag

/-- The stack and the records after R144 to R146, and the column after steps 1 to 4 of R148. -/
def rewritten (s : State) (c : Nat) (ts : List BinTag) : State :=
  let s₁ := (s.listedRecords ts).foldl (takeOut c) (s.unlocate c ts)
  (((s₁.writeList c ts).confirmStack c).reconcileAudit c).markSettle c |>.judgeColumn c

/-- The other columns that lose an entry, ascending (07, R145, R149). -/
def losers (s : State) (c : Nat) (ts : List BinTag) : List Nat :=
  (List.range Config.columnCount).filter fun d =>
    d != c && (s.listedRecords ts).any fun h =>
      match h.custody with
      | .column k _ => k == d
      | _ => false

/-- The columns whose remap condition a reconcile examines (07, R148). -/
def reconcileExamines (s : State) (c : Nat) (ts : List BinTag) (k : Nat) : Bool :=
  k == c || (s.losers c ts).contains k ||
    (s.listedRecords ts).any fun h => h.state == .openState && h.column == some k

/-- A reconcile with its remaps (07, R148). -/
def reconcileNoted (s : State) (c : Nat) (ts : List BinTag) : Noted :=
  (s.rewritten c ts).examineRemaps (s.reconcileExamines c ts)

/-- Where a listed record came from (07, R149). -/
def cameFrom (h : Handover) : CameFrom :=
  match h.custody with
  | .column c i => .column c i
  | .robot a => if h.state = .openState then .openOn a (h.column.getD 0) else .robot a
  | .unlocated => .unlocated

/-- The XP a REMAP_DONE notice names (07, R149). -/
def remappedXp : NoticeBody → Option Nat
  | .remapDone x _ _ => some x
  | _ => none

/-- The reply to a reconcile (07, R149). -/
def reconcileReport (s : State) (c : Nat) (ts : List BinTag) : ReconcileReport where
  index := c
  stack := ((s.rewritten c ts).col c).stack.map (s.rewritten c ts).entryView
  freeRoom := (s.rewritten c ts).freeRoom c
  listed := (s.listedRecords ts).map fun h =>
    (h.number, cameFrom h, if h.taker = .none then .parked else .staged)
  unlocated := (s.handovers.filter (s.losesPlace c ts)).map (·.number)
  others := (s.losers c ts).map fun d => (d, ((s.rewritten c ts).col d).causes)
  causesLeft := ((s.rewritten c ts).col c).causes
  remapped := (s.reconcileNoted c ts).2.filterMap remappedXp

end State

/-- Take RECONCILE_COLUMN in RUNNING (07, R142). -/
def takeReconcile (q : Nat × List BinTag) (s : State) : Answer :=
  match s.defn q.1 with
  | none => refuse s .unknownColumn
  | some d =>
    match s.reconcileProblem q.1 d q.2 with
    | some (st, b) => refuse s st b
    | none => ⟨(s.reconcileNoted q.1 q.2).emit, .ok, .reconciled (s.reconcileReport q.1 q.2)⟩

/-- RECONCILE_COLUMN (07, R142). -/
def execReconcileColumn (tag : Word16) (body : List Byte) (s : State) : Result :=
  hostRequest 18 tag body (withBody (Body.reconcile body) fun q => inRunning (takeReconcile q)) s

/-! ### RELEASE_FREEZE -/

namespace State

/-- Remove the ZONE cause from a column and judge its deadlines (07, R152). -/
def removeZoneCause (s : State) (c : Nat) : State :=
  (s.modCol c fun k => { k with causes := { k.causes with zone := false } }).judgeColumn c

/-- The columns a release leaves frozen (07, R152). -/
def stillFrozen (s : State) (cs : List Nat) : List Nat := cs.filter s.frozen

/-- Release the zone freeze of columns of a zone (07, R151 check 3, R152). -/
def releaseFreeze (s : State) (z : Nat) (cs : List Nat) : Answer :=
  if s.effective z = .closed then refuse s .zoneClosed
  else
    let removed := cs.countP fun c => (s.col c).causes.zone
    let t := cs.foldl removeZoneCause s
    if (t.stillFrozen cs).isEmpty then ⟨t, .ok, .freezeReleased removed⟩
    else
      ⟨t, .needsReconcile, .stillFrozen removed (t.stillFrozen cs).length
        (((t.stillFrozen cs).take Config.frozenListCap).map fun c => (c, (t.col c).causes))⟩

end State

/-- Take RELEASE_FREEZE in RUNNING (07, R151). -/
def takeReleaseFreeze (q : Body.FreezeTarget) (s : State) : Answer :=
  match q with
  | .column c =>
    if (s.defn c).isNone then refuse s .unknownColumn else s.releaseFreeze (s.zoneOf c) [c]
  | .zone z => if 3 < z then refuse s .outOfRange else s.releaseFreeze z (s.columnsOf z)

/-- RELEASE_FREEZE (07, R151, R152). -/
def execReleaseFreeze (tag : Word16) (body : List Byte) (s : State) : Result :=
  hostRequest 19 tag body
    (withBody (Body.releaseFreeze body) fun q => inRunning (takeReleaseFreeze q)) s

end Sys2Proof.Machine
end

