-- ==== Sys2Proof/Machine/Dispatch.lean ====
section
/-! DEFINITION. The effect of every command, one arm per constructor. -/

namespace Sys2Proof.Machine

def exec (i : Instr) (s : State) : Host.Outcome State Fault Refusal :=
  match i with
  | .setParameters tag body => Sys2Proof.Machine.execSetParameters tag body s
  | .defineColumn tag body => Sys2Proof.Machine.execDefineColumn tag body s
  | .mapXp tag body => Sys2Proof.Machine.execMapXp tag body s
  | .commit tag body => Sys2Proof.Machine.execCommit tag body s
  | .resetSection tag body => Sys2Proof.Machine.execResetSection tag body s
  | .admitRobot tag body => Sys2Proof.Machine.execAdmit tag body s
  | .dismiss tag body => Sys2Proof.Machine.execDismiss tag body s
  | .queryRobot tag body => Sys2Proof.Machine.execQueryRobot tag body s
  | .openHandover tag body => Sys2Proof.Machine.execOpenHandover tag body s
  | .assignTaker tag body => Sys2Proof.Machine.execAssignTaker tag body s
  | .cancelHandover tag body => Sys2Proof.Machine.execCancelHandover tag body s
  | .releaseTracking tag body => Sys2Proof.Machine.execReleaseTracking tag body s
  | .queryHandover tag body => Sys2Proof.Machine.execQueryHandover tag body s
  | .listHandovers tag body => Sys2Proof.Machine.execListHandovers tag body s
  | .lockGroup tag body => Sys2Proof.Machine.execLockGroup tag body s
  | .unlockGroup tag body => Sys2Proof.Machine.execUnlockGroup tag body s
  | .retireColumn tag body => Sys2Proof.Machine.execRetireColumn tag body s
  | .reconcileColumn tag body => Sys2Proof.Machine.execReconcileColumn tag body s
  | .releaseFreeze tag body => Sys2Proof.Machine.execReleaseFreeze tag body s
  | .queryColumn tag body => Sys2Proof.Machine.execQueryColumn tag body s
  | .queryXp tag body => Sys2Proof.Machine.execQueryXp tag body s
  | .modeRequest tag body => Sys2Proof.Machine.execModeRequest tag body s
  | .modeCancel tag body => Sys2Proof.Machine.execModeCancel tag body s
  | .queryZones tag body => Sys2Proof.Machine.execQueryZones tag body s
  | .status tag body => Sys2Proof.Machine.execStatus tag body s
  | .requestRejected kind tag body => Sys2Proof.Machine.execRequestRejected kind tag body s
  | .requestOverflow kind tag => Sys2Proof.Machine.execRequestOverflow kind tag s
  | .controlFrameDiscard cause => Sys2Proof.Machine.execControlFrameDiscard cause s
  | .frameTimeout link => Sys2Proof.Machine.execFrameTimeout link s
  | .controlFrameSent => Sys2Proof.Machine.execControlFrameSent s
  | .fleetFrameDiscard cause => Sys2Proof.Machine.execFleetFrameDiscard cause s
  | .fleetUnknownKind addr kind => Sys2Proof.Machine.execFleetUnknownKind addr kind s
  | .fleetFrameSent => Sys2Proof.Machine.execFleetFrameSent s
  | .announce addr body => Sys2Proof.Machine.execAnnounce addr body s
  | .ready addr body => Sys2Proof.Machine.execReady addr body s
  | .loadReport addr body => Sys2Proof.Machine.execLoadReport addr body s
  | .dropOff addr body => Sys2Proof.Machine.execDropOff addr body s
  | .grantReq addr body => Sys2Proof.Machine.execGrantReq addr body s
  | .withdraw addr body => Sys2Proof.Machine.execWithdraw addr body s
  | .release addr body => Sys2Proof.Machine.execRelease addr body s
  | .opStart addr body => Sys2Proof.Machine.execOpStart addr body s
  | .opEnd addr body => Sys2Proof.Machine.execOpEnd addr body s
  | .faultReport addr body => Sys2Proof.Machine.execFaultReport addr body s
  | .stageExpired number => Sys2Proof.Machine.execStageExpired number s
  | .relocationOverdue number => Sys2Proof.Machine.execRelocationOverdue number s
  | .collectExpired number => Sys2Proof.Machine.execCollectExpired number s
  | .holdLimitExpiry column => Sys2Proof.Machine.execHoldLimitExpiry column s
  | .releaseGraceExpiry column => Sys2Proof.Machine.execReleaseGraceExpiry column s
  | .operationLimitExpiry column => Sys2Proof.Machine.execOperationLimitExpiry column s
  | .readyLimitExpiry address => Sys2Proof.Machine.execReadyLimitExpiry address s
  | .auditTick => Sys2Proof.Machine.execAuditTick s
  | .callLimitExpiry => Sys2Proof.Machine.execCallLimitExpiry s
  | .zoneAckChange zone level => Sys2Proof.Machine.execZoneAckChange zone level s
  | .interlockLimitExpiry => Sys2Proof.Machine.execInterlockLimitExpiry s
  | .gridHoldAsserted => Sys2Proof.Machine.execGridHoldAsserted s
  | .gridHoldReleased => Sys2Proof.Machine.execGridHoldReleased s
  | .hardwareReset cause pins => Sys2Proof.Machine.execHardwareReset cause pins s

end Sys2Proof.Machine
end

