-- ==== Sys2Proof/Machine/Step.lean ====
section
/-! DEFINITION. One step of the machine, and a command put in front of its queue. -/

namespace Sys2Proof.Machine

/-- One step: the command at the front of the queue has its effect; with no command waiting, one
millisecond passes (log 1). -/
def step (s : State) : Host.Outcome State Fault Refusal :=
  match s.pending with
  | [] => .next s.tick
  | c :: rest => exec c { s with pending := rest }

/-- The state with the command a table word spells put in front of the queue; no row of the table
has bits, so no word spells one (log 25). -/
def State.withFetchWord (s : State) (nbits w : Nat) : State :=
  match decodeTableWord nbits w with
  | some c => { s with pending := c :: s.pending }
  | none => s

end Sys2Proof.Machine
end

