-- ==== Sys2Proof/Safety.lean ====
section
/-! DEFINITION. The vocabulary of the statements: when the link takes a request, what an answer adds
to the link, what a block's operation never changes, and the invariants of the part. -/

namespace Sys2Proof

/-- The kind, tag and body of a host request that is not REQUEST_REJECTED (10, 10.9). -/
def Instr.request : Instr → Option (Byte × Word16 × List Byte)
  | .setParameters t b => some (1, t, b)
  | .defineColumn t b => some (2, t, b)
  | .mapXp t b => some (3, t, b)
  | .commit t b => some (4, t, b)
  | .resetSection t b => some (5, t, b)
  | .admitRobot t b => some (6, t, b)
  | .dismiss t b => some (7, t, b)
  | .queryRobot t b => some (8, t, b)
  | .openHandover t b => some (9, t, b)
  | .assignTaker t b => some (10, t, b)
  | .cancelHandover t b => some (11, t, b)
  | .releaseTracking t b => some (12, t, b)
  | .queryHandover t b => some (13, t, b)
  | .listHandovers t b => some (14, t, b)
  | .lockGroup t b => some (15, t, b)
  | .unlockGroup t b => some (16, t, b)
  | .retireColumn t b => some (17, t, b)
  | .reconcileColumn t b => some (18, t, b)
  | .releaseFreeze t b => some (19, t, b)
  | .queryColumn t b => some (20, t, b)
  | .queryXp t b => some (21, t, b)
  | .modeRequest t b => some (22, t, b)
  | .modeCancel t b => some (23, t, b)
  | .queryZones t b => some (24, t, b)
  | .status t b => some (25, t, b)
  | _ => none

/-- The address of a robot frame other than ANNOUNCE (10, R194). -/
def Instr.sender : Instr → Option Byte
  | .ready a _ | .loadReport a _ | .dropOff a _ | .grantReq a _ | .withdraw a _ | .release a _
  | .opStart a _ | .opEnd a _ | .faultReport a _ => some a
  | _ => none

end Sys2Proof

namespace Sys2Proof.Machine

/-- A request with this tag finds room in the control receive buffer (10, R185, R188). -/
def Takes (tag : Word16) (s : State) : Prop :=
  tag ≠ 0 ∧ s.link.received.length < Config.receiveCap

namespace State

/-- The state with a request in the receive buffer (10, R188). -/
def intake (s : State) (kind : Byte) (tag : Word16) (body : List Byte) : State :=
  s.receive ⟨kind, tag, body⟩

/-- The state with the reply of a request made (10, R188, R190). -/
def answered (s : State) (kind : Byte) (tag : Word16) (st : Status) (b : ReplyBody) : State :=
  (s.reply ⟨kind, tag, st, b, false⟩).startTx

/-- No two XPs map one column (01, R16). -/
def MapInjective (s : State) : Prop :=
  ∀ x y e f, s.xp x = some e → s.xp y = some f → e.column = f.column → x = y

end State

/-- A status that tells of a request carried out (10, 10.10). -/
def Status.carriedOut : Status → Bool
  | .ok | .partialOk | .needsReconcile => true
  | _ => false

/-! ### Bodies that do not decode -/

/-- The status a body that does not decode is refused with (10, R187). -/
def Decoded.problem {α : Type} : Decoded α → Option Status
  | .error e => some e
  | .ok _ => none

end Sys2Proof.Machine

namespace Sys2Proof
open Sys2Proof.Machine

/-- The status a request's body is rejected with, when it does not decode (10, R187). -/
def Instr.bodyProblem : Instr → Option Status
  | .setParameters _ b => (Body.setParameters b).problem
  | .defineColumn _ b => (Body.defineColumn b).problem
  | .mapXp _ b => (Body.mapXp b).problem
  | .admitRobot _ b => (Body.admission b).problem
  | .dismiss _ b | .queryRobot _ b => (Body.robot b).problem
  | .openHandover _ b => (Body.openHandover b).problem
  | .assignTaker _ b => (Body.assignTaker b).problem
  | .cancelHandover _ b | .releaseTracking _ b => (Body.number b).problem
  | .queryHandover _ b => (Body.queryHandover b).problem
  | .listHandovers _ b => (Body.listHandovers b).problem
  | .lockGroup _ b | .unlockGroup _ b | .retireColumn _ b | .queryColumn _ b | .queryXp _ b =>
    (Body.one b).problem
  | .reconcileColumn _ b => (Body.reconcile b).problem
  | .releaseFreeze _ b => (Body.releaseFreeze b).problem
  | .modeRequest _ b => (Body.modeRequest b).problem
  | .commit _ b | .resetSection _ b | .modeCancel _ b | .queryZones _ b | .status _ b =>
    (Body.nothing b).problem
  | _ => none

/-- The status a robot frame other than ANNOUNCE is refused with, when its body does not decode
(10, R187, R194). -/
def Instr.frameProblem : Instr → Option Status
  | .ready _ b | .dropOff _ b => (Body.nothing b).problem
  | .loadReport _ b => (Body.loadReport b).problem
  | .grantReq _ b => (Body.grantReq b).problem
  | .withdraw _ b | .release _ b => (Body.one b).problem
  | .opStart _ b => (Body.opStart b).problem
  | .opEnd _ b => (Body.opEnd b).problem
  | .faultReport _ b => (Body.faultReport b).problem
  | _ => none

end Sys2Proof

namespace Sys2Proof.Machine

/-! ### What the operations of the blocks never change -/

/-- `t` differs from `s` in no field that only configuration, the time base, the front of the queue
or the receiving side of the links change: section state, parameters, definitions, lock flags, time,
the last number, the waiting commands, table sizes, received requests, replies, discard counters,
partial frames and their gap timers, filtered lines and ACK levels. -/
structure Frame (s t : State) : Prop where
  sectionState : t.sectionState = s.sectionState
  params : t.params = s.params
  lockFlags : t.lockFlags = s.lockFlags
  lastNumber : t.lastNumber = s.lastNumber
  time : t.time = s.time
  pending : t.pending = s.pending
  choices : t.choices = s.choices
  defns : t.columns.map (·.defn) = s.columns.map (·.defn)
  xps : t.xpMap.length = s.xpMap.length
  robots : t.roster.length = s.roster.length
  received : t.link.received = s.link.received
  replies : t.link.replies = s.link.replies
  tx : t.link.tx = s.link.tx
  rate : t.link.rate = s.link.rate
  controlDiscards : t.link.controlDiscards = s.link.controlDiscards
  fleetDiscards : t.link.fleetDiscards = s.link.fleetDiscards
  controlHeld : t.link.controlHeld = s.link.controlHeld
  fleetHeld : t.link.fleetHeld = s.link.fleetHeld
  controlGap : t.link.controlGap = s.link.controlGap
  fleetGap : t.link.fleetGap = s.link.fleetGap
  acks : t.zones.ack = s.zones.ack
  lines : t.lines = s.lines

/-! ### Invariants -/

/-- The capacities of the part's tables, queues and counters (01, R1, R8, R16; 02, R25; 03, R57; 05,
R106; 10, R185, R188, R189, R191, R195, R196), that a receiver's gap timer runs exactly while it holds a
partial frame (10, R185), and the handover table's order of number (02, R26, R41). -/
structure State.Bounded (s : State) : Prop where
  columns : s.columns.length = Config.columnCount
  groups : s.lockFlags.length = Config.groupCount
  xps : s.xpMap.length = Config.xpCount
  roster : s.roster.length = Config.rosterCap
  handovers : s.handovers.length ≤ Config.handoverCap
  ascending : s.handovers.Pairwise fun h k => h.number < k.number
  lastNumber : s.lastNumber ≤ 65535
  waits : ∀ k ∈ s.columns, k.waits.length ≤ Config.waitCap
  received : s.link.received.length ≤ Config.receiveCap
  overflows : s.overflows ≤ Config.overflowCap
  answered : s.link.received.length = s.link.replies.countP (!·.overflow)
  notices : s.link.notices.length ≤ Config.noticeCap
  lost : s.link.lost ≤ 255
  fleet : s.link.fleet.length ≤ Config.fleetCap
  fleetDrops : s.link.fleetDrops ≤ 65535
  controlDiscards : s.link.controlDiscards ≤ 65535
  fleetDiscards : s.link.fleetDiscards ≤ 65535
  gridHoldSteady : s.lines.gridHold.steady ≤ Config.filterMs
  ackSteady : ∀ z, (s.lines.ack.get z).steady ≤ Config.filterMs
  controlGap : ∀ g ∈ s.link.controlGap, g ≤ Config.frameGapMs
  fleetGap : ∀ g ∈ s.link.fleetGap, g ≤ Config.frameGapMs
  controlTimed : s.link.controlGap = none ↔ s.link.controlHeld = []
  fleetTimed : s.link.fleetGap = none ↔ s.link.fleetHeld = []

/-- What a transition record says of the modes (08, R155): in WAITING the driven modes are the current
ones; in CHANGING they are the targets, all CLOSED for the hold transition; the interlock limit is
present in CHANGING of kind NORMAL alone; a hold is pending in CHANGING of kind NORMAL alone. -/
def Transition.agrees (t : Transition) (q : ZoneCtl) : Prop :=
  match t.state, t.kind with
  | .waiting, .normal => q.driven = q.current ∧ t.limit = none ∧ q.holdPending = false
  | .waiting, .hold => False
  | .changing, .normal => q.driven = t.targets ∧ t.limit.isSome
  | .changing, .hold =>
    q.driven = t.targets ∧ t.targets = Quad.same .closed ∧ t.limit = none ∧
      q.holdPending = false

/-- The driven modes agree with the current modes and the transition (08, R155). -/
def State.ModesAgree (s : State) : Prop :=
  match s.zones.trans with
  | none => s.zones.driven = s.zones.current ∧ s.zones.holdPending = false
  | some t => t.agrees s.zones

end Sys2Proof.Machine
end

