-- ==== Sys2Proof/Certificates/Slice0/Obligations.lean ====
section
/-! DEFINITION. The statements for the provers. Each cites the rule of the manual it formalises or
rests on; one that rests on a choice of the model names its log entry. Robots' records are read by
`State.robot`, columns by `State.col`, handovers by `State.handover`. `startTx` behind an event is the
free control transmitter that takes a waiting frame (10, R190; log 10): it changes what the transmitter
sends and nothing else, and only where a frame waits. -/

open Sys2Proof Sys2Proof.Machine

/-! ### The queue of commands and the time base -/

/-- The command in front of the queue has its effect on the state with the rest of the queue. -/
def Obligations.StepTakesTheFrontCommand : Prop :=
  ∀ (c : Instr) (s : State), step { s with pending := c :: s.pending } = exec c s

/-- The model's choice (log 1): with no command waiting a step is one millisecond of the time base
(00, 0.6). Deadlines count down only while RUNNING (R42); the timers of grants, operations, ready
robots, the audit unit and the transition count down, the filter of every plain line goes on up to
its 2 ms (R196; log 35), the 20 ms for the next byte of each partial frame count down (R185; log
37), in both section states (R174), and nothing else changes but the queue. -/
def Obligations.IdleStepIsOneMillisecond : Prop :=
  ∀ s : State, s.pending = [] →
    ∃ p k, step s = .next
      { s with
        time := s.time + 1
        columns := s.columns.map fun q =>
          { q with
            settleMark := q.settleMark.map fun m => { m with left := m.left - 1 }
            grant := q.grant.map fun g =>
              { g with holdLimit := g.holdLimit.map (· - 1), grace := g.grace.map (· - 1) }
            op := q.op.map fun o => { o with limit := o.limit - 1 } }
        handovers := s.handovers.map fun h =>
          { h with
            deadline := h.deadline.map fun d =>
              if d.cond = .running then { d with remaining := d.remaining - 1 } else d }
        roster := s.roster.map fun r =>
          r.map fun r => { r with readyTimer := r.readyTimer.map (· - 1) }
        audit :=
          { s.audit with
            callLimit := s.audit.callLimit.map (· - 1)
            tick := s.audit.tick.map (· - 1) }
        zones :=
          { s.zones with
            trans := s.zones.trans.map fun t => { t with limit := t.limit.map (· - 1) } }
        lines :=
          ⟨{ s.lines.gridHold with steady := min 2 (s.lines.gridHold.steady + 1) },
            ⟨{ s.lines.ack.z0 with steady := min 2 (s.lines.ack.z0.steady + 1) },
              { s.lines.ack.z1 with steady := min 2 (s.lines.ack.z1.steady + 1) },
              { s.lines.ack.z2 with steady := min 2 (s.lines.ack.z2.steady + 1) },
              { s.lines.ack.z3 with steady := min 2 (s.lines.ack.z3.steady + 1) }⟩⟩
        link :=
          { s.link with
            controlGap := s.link.controlGap.map (· - 1)
            fleetGap := s.link.fleetGap.map (· - 1) }
        pending := p
        choices := k }

/-- The model's choice (logs 1, 2, 35, 37): the millisecond in which a timer runs out puts its
expiry in the queue, the one in which the 20 ms of a partial frame run out its FRAME_TIMEOUT (R185),
the one in which a plain line has been steady for 2 ms at a level other than the one taken puts its
change there (R196), and no other command goes there; the order of several is free (log 3). -/
def Obligations.TimersThatRunOutQueueTheirExpiry : Prop :=
  ∀ s t : State, s.pending = [] → step s = .next t →
    (∀ i ∈ t.pending,
      (∃ n, i = .stageExpired n ∨ i = .relocationOverdue n ∨ i = .collectExpired n) ∨
      (∃ c, i = .holdLimitExpiry c ∨ i = .releaseGraceExpiry c ∨ i = .operationLimitExpiry c) ∨
      (∃ a, i = .readyLimitExpiry a) ∨
      i = .auditTick ∨ i = .callLimitExpiry ∨ i = .interlockLimitExpiry ∨
      (∃ z l, i = .zoneAckChange z l) ∨ i = .gridHoldAsserted ∨ i = .gridHoldReleased ∨
      ∃ l, i = .frameTimeout l) ∧
    (∀ n, .stageExpired n ∈ t.pending ↔
      ∃ h ∈ t.handovers, h.number = n ∧ h.state = .openState ∧
        h.deadline = some ⟨.stage, 0, .running⟩) ∧
    (∀ n, .relocationOverdue n ∈ t.pending ↔
      ∃ h ∈ t.handovers, h.number = n ∧ h.state = .carried ∧
        h.deadline = some ⟨.stage, 0, .running⟩) ∧
    (∀ n, .collectExpired n ∈ t.pending ↔
      ∃ h ∈ t.handovers, h.number = n ∧ h.state = .staged ∧
        h.deadline = some ⟨.collect, 0, .running⟩) ∧
    (∀ c, .holdLimitExpiry c ∈ t.pending ↔
      c < 96 ∧ ∃ g, (t.col c).grant = some g ∧ g.revoke = none ∧ g.holdLimit = some 0) ∧
    (∀ c, .releaseGraceExpiry c ∈ t.pending ↔
      c < 96 ∧ ∃ g, (t.col c).grant = some g ∧ g.revoke ≠ none ∧ g.grace = some 0) ∧
    (∀ c, .operationLimitExpiry c ∈ t.pending ↔
      c < 96 ∧ ∃ o, (t.col c).op = some o ∧ o.limit = 0) ∧
    (∀ a, .readyLimitExpiry a ∈ t.pending ↔
      a ≤ 48 ∧ ∃ r, t.robot a = some r ∧ r.state = .announced ∧ r.readyTimer = some 0) ∧
    (.auditTick ∈ t.pending ↔ t.audit.tick = some 0) ∧
    (.callLimitExpiry ∈ t.pending ↔ t.audit.callLimit = some 0) ∧
    (.interlockLimitExpiry ∈ t.pending ↔
      ∃ q, t.zones.trans = some q ∧ q.state = .changing ∧ q.kind = .normal ∧ q.limit = some 0) ∧
    (.frameTimeout .control ∈ t.pending ↔ t.link.controlGap = some 0) ∧
    (.frameTimeout .fleet ∈ t.pending ↔ t.link.fleetGap = some 0) ∧
    (∀ (z : Fin 4) (l : Mode), .zoneAckChange z l ∈ t.pending ↔
      (t.lines.ack.get z).seen = l ∧ l ≠ t.zones.ack.get z ∧ 2 ≤ (t.lines.ack.get z).steady) ∧
    (.gridHoldAsserted ∈ t.pending ↔
      t.lines.gridHold.seen = true ∧ t.zones.hold = false ∧ 2 ≤ t.lines.gridHold.steady) ∧
    (.gridHoldReleased ∈ t.pending ↔
      t.lines.gridHold.seen = false ∧ t.zones.hold = true ∧ 2 ≤ t.lines.gridHold.steady)

/-! ### The links -/

/-- A discarded frame adds one to its link's discard counter, which stops at 65535, and is answered
by nothing (R185), whatever the cause of the discard, the tag 0 of R185 and the discards of R194
among them. A receiver hunts through its bytes: a byte that is no sync value is passed, a good frame
is its command, and after a discarded frame the hunt resumes at the byte after its sync byte (R185).
A byte gives a partial frame 20 ms for its next one. Once they have passed, the frame's timeout
discards it, counts it and resumes the hunt in the same way; the commands of the frames then found,
and the timeout of a partial frame inside, go before the waiting ones (log 17). The model's choices:
a timeout before that has no effect (log 2), and a byte that comes once the 20 ms have passed, and
before the timeout is taken, finds every partial frame held discarded and counted (log 37). A frame
other than ANNOUNCE from an address that no roster record holds, address 0 among them, is discarded
and counted too (R194, R106). -/
def Obligations.DiscardedFramesAreCounted : Prop :=
  (∀ s : State,
    let more := fun n : Nat => if n < 65535 then n + 1 else n
    let control : State :=
      { s with link := { s.link with controlDiscards := more s.link.controlDiscards } }
    let fleet : State :=
      { s with link := { s.link with fleetDiscards := more s.link.fleetDiscards } }
    let kept := fun (l : LinkId) (held : List RxByte) => (FrontEnd.hunt l held.tail).1
    let left := fun (l : LinkId) (held : List RxByte) =>
      if kept l held = [] then none else some 0
    let found := fun (l : LinkId) (held : List RxByte) =>
      (FrontEnd.hunt l held.tail).2 ++ if kept l held = [] then [] else [.frameTimeout l]
    (∀ cause, exec (.controlFrameDiscard cause) s = .next control.startTx) ∧
    (s.link.controlGap ≠ some 0 → exec (.frameTimeout .control) s = .next s) ∧
    (s.link.controlGap = some 0 → exec (.frameTimeout .control) s = .next
      { control with
        link :=
          { control.link with
            controlHeld := kept .control s.link.controlHeld
            controlGap := left .control s.link.controlHeld }
        pending := found .control s.link.controlHeld ++ s.pending }.startTx) ∧
    (∀ cause, exec (.fleetFrameDiscard cause) s = .next fleet.startTx) ∧
    (s.link.fleetGap ≠ some 0 → exec (.frameTimeout .fleet) s = .next s) ∧
    (s.link.fleetGap = some 0 → exec (.frameTimeout .fleet) s = .next
      { fleet with
        link :=
          { fleet.link with
            fleetHeld := kept .fleet s.link.fleetHeld
            fleetGap := left .fleet s.link.fleetHeld }
        pending := found .fleet s.link.fleetHeld ++ s.pending }.startTx)) ∧
  (∀ (l : LinkId) (bs : List RxByte),
    FrontEnd.hunt l bs =
      match FrontEnd.look l bs with
      | .wait => (bs, [])
      | .skip => FrontEnd.hunt l bs.tail
      | .discard c => ((FrontEnd.hunt l bs.tail).1, c :: (FrontEnd.hunt l bs.tail).2)
      | .take c k =>
        ((FrontEnd.hunt l (bs.drop k)).1, c :: (FrontEnd.hunt l (bs.drop k)).2)) ∧
  (∀ (b : RxByte) (s : State),
    let received := fun (l : LinkId) (held : List RxByte) => FrontEnd.hunt l (held ++ [b])
    let gap := fun held : List RxByte => if held = [] then none else some 20
    let onControl := fun v : State =>
      let r := received .control v.link.controlHeld
      { v with
        link := { v.link with controlHeld := r.1, controlGap := gap r.1 }
        pending := v.pending ++ r.2 }
    let onFleet := fun v : State =>
      let r := received .fleet v.link.fleetHeld
      { v with
        link := { v.link with fleetHeld := r.1, fleetGap := gap r.1 }
        pending := v.pending ++ r.2 }
    let counted := fun n d : Nat => if d < 65535 then min 65535 (d + n) else d
    (s.link.controlGap ≠ some 0 → s.byteArrives .control b = onControl s) ∧
    (s.link.fleetGap ≠ some 0 → s.byteArrives .fleet b = onFleet s) ∧
    (s.link.controlGap = some 0 →
      let q := FrontEnd.expire .control s.link.controlHeld
      s.byteArrives .control b = onControl
        { s with
          link :=
            { s.link with
              controlHeld := []
              controlGap := none
              controlDiscards := counted q.1 s.link.controlDiscards }
          pending := q.2 ++ s.pending }) ∧
    (s.link.fleetGap = some 0 →
      let q := FrontEnd.expire .fleet s.link.fleetHeld
      s.byteArrives .fleet b = onFleet
        { s with
          link :=
            { s.link with
              fleetHeld := []
              fleetGap := none
              fleetDiscards := counted q.1 s.link.fleetDiscards }
          pending := q.2 ++ s.pending })) ∧
  (∀ l : LinkId, FrontEnd.expire l [] = (0, []) ∧
    ∀ (b : RxByte) (bs : List RxByte),
      let r := FrontEnd.hunt l bs
      let q := FrontEnd.expire l r.1
      FrontEnd.expire l (b :: bs) = (q.1 + 1, r.2 ++ q.2)) ∧
  (∀ (c : Instr) (a : Byte) (s : State),
    (c.sender = some a ∨ ∃ k, c = .fleetUnknownKind a k ∧ isRobotKind k = false) →
    s.robot a.toNat = none → exec c s = .next s.discardFleet.startTx)

/-- A free control transmitter takes the oldest waiting reply, else the oldest notice, else stays
idle; one that is sending goes on (R190). When a frame has been sent it leaves its queue, the reply
to a request frees the entry of the receive buffer that the request occupied (R188), and the
transmitter is free. A notice takes the sequence number, which rises by one and wraps, and the time
base value; with 32 in the queue it is lost, which sets the overrun flag and counts to 255 (R191).
ATTENTION is asserted while the queue holds a notice (R192). The fleet transmit queue takes up to 64
frames, counts the frames it drops, and loses its oldest frame when that has been sent (R195). That
a sent frame with none being sent has no effect is the model's choice (log 16). -/
def Obligations.TransmittersServeTheirQueues : Prop :=
  (∀ s : State,
    (s.link.tx ≠ .idle → s.startTx = s) ∧
    (s.link.tx = .idle → s.startTx =
      { s with
        link :=
          { s.link with
            tx :=
              if s.link.replies ≠ [] then .reply
              else if s.link.notices ≠ [] then .notice else .idle } })) ∧
  (∀ (s : State) (r : Reply) (rest : List Reply),
    s.link.tx = .reply → s.link.replies = r :: rest →
      exec .controlFrameSent s = .next
        { s with
          link :=
            { s.link with
              replies := rest
              received := if r.overflow then s.link.received else s.link.received.tail
              tx := .idle } }.startTx) ∧
  (∀ (s : State) (n : Notice) (rest : List Notice),
    s.link.tx = .notice → s.link.notices = n :: rest →
      exec .controlFrameSent s = .next
        { s with link := { s.link with notices := rest, tx := .idle } }.startTx) ∧
  (∀ s : State, s.link.tx = .idle → exec .controlFrameSent s = .next s) ∧
  (∀ (s : State) (b : NoticeBody), s.link.notices.length < 32 →
    s.notify b =
      { s with
        link :=
          { s.link with
            notices := s.link.notices ++ [⟨s.link.nextSeq, s.time, b⟩]
            nextSeq := s.link.nextSeq + 1 } }) ∧
  (∀ (s : State) (b : NoticeBody), 32 ≤ s.link.notices.length →
    s.notify b =
      { s with
        link :=
          { s.link with
            overrun := true
            lost := if s.link.lost < 255 then s.link.lost + 1 else s.link.lost
            nextSeq := s.link.nextSeq + 1 } }) ∧
  (∀ s : State, s.attention = true ↔ s.link.notices ≠ []) ∧
  (∀ (s : State) (a : Nat) (m : FleetMsg), s.link.fleet.length < 64 →
    s.send a m = { s with link := { s.link with fleet := s.link.fleet ++ [⟨a, m⟩] } }) ∧
  (∀ (s : State) (a : Nat) (m : FleetMsg), 64 ≤ s.link.fleet.length →
    s.send a m =
      { s with
        link :=
          { s.link with
            fleetDrops :=
              if s.link.fleetDrops < 65535 then s.link.fleetDrops + 1
              else s.link.fleetDrops } }) ∧
  (∀ s : State, exec .fleetFrameSent s =
    .next { s with link := { s.link with fleet := s.link.fleet.tail } }.startTx)

/-- A good control frame that finds all 4 entries of the receive buffer occupied changes nothing but
the link unit: it is answered OVERFLOW while the overflow list has room, and is discarded and counted
otherwise (R189). -/
def Obligations.FullReceiveBufferAnswersOverflow : Prop :=
  ∀ (c : Instr) (k : Byte) (tag : Word16) (s : State),
    ((∃ body, c.request = some (k, tag, body)) ∨ c = .requestOverflow k tag ∨
      ∃ body, c = .requestRejected k tag body ∧ isRequestKind k = false) →
    tag ≠ 0 → s.link.received.length = 4 →
    exec c s = .next
      (if s.overflows < 4 then (s.reply ⟨k, tag, .overflow, .overflow 4, true⟩).startTx
      else s.discardControl.startTx)

/-- A request of a kind outside the catalogue is rejected UNKNOWN_KIND in its turn (R186); a robot's
frame of a kind outside the robot-to-part kinds is answered REFUSED UNKNOWN_KIND at the robot's
address (R194). A body that does not decode: the request is rejected in its turn (R186, R187); the
robot's frame is answered REFUSED (R194); the ANNOUNCE is discarded and counted (R194). Nothing
outside the link unit changes. -/
def Obligations.UnknownKindsAndBadBodiesAreRejected : Prop :=
  (∀ (k : Byte) (tag : Word16) (body : List Byte) (s : State),
    isRequestKind k = false → Takes tag s →
      exec (.requestRejected k tag body) s =
        .next ((s.intake k tag body).answered k tag .unknownKind .none)) ∧
  (∀ (a k : Byte) (r : Robot) (s : State),
    isRobotKind k = false → s.robot a.toNat = some r →
      exec (.fleetUnknownKind a k) s =
        .next (s.send a.toNat (.refused .unknownKind .none)).startTx) ∧
  (∀ (c : Instr) (k : Byte) (tag : Word16) (body : List Byte) (e : Status) (s : State),
    c.request = some (k, tag, body) → c.bodyProblem = some e → Takes tag s →
      exec c s = .next ((s.intake k tag body).answered k tag e .none)) ∧
  (∀ (c : Instr) (a : Byte) (e : Status) (r : Robot) (s : State),
    c.sender = some a → c.frameProblem = some e → s.robot a.toNat = some r →
      exec c s = .next (s.send a.toNat (.refused e .none)).startTx) ∧
  (∀ (a : Byte) (body : List Byte) (s : State),
    body.length ≠ 14 → exec (.announce a body) s = .next s.discardFleet.startTx)

/-- STATUS is taken in both section states; its reply gives the counts, states and counters as they
stand, the request itself among the received ones, and making it clears the overrun flag and the lost
count and changes nothing else (R193, R136, R156). -/
def Obligations.StatusReportsThenClearsOverrun : Prop :=
  ∀ (tag : Word16) (s : State), Takes tag s →
    ∃ r : StatusReport,
      (let u := s.intake 25 tag []
      exec (.status tag []) s = .next
        ({ u with link := { u.link with overrun := false, lost := 0 } }.answered 25 tag .ok
          (.status r))) ∧
      r.section_ = s.sectionState ∧ r.params = s.params ∧
      r.mapped = s.xpMap.countP Option.isSome ∧ r.retired = s.columns.countP (·.retired) ∧
      r.defined = (List.range 96).countP (fun c => (s.defn c).isSome) ∧
      r.remapsPending = s.xpMap.countP (fun e => e.map (·.remapPending) == some true) ∧
      (∀ z < 4, r.spares.get z = (List.range 96).countP fun c =>
        (s.defn c).map (·.zone) == some z && (s.mappedBy c).isNone && !(s.col c).retired) ∧
      r.handovers = s.handovers.length ∧ r.robots = s.roster.countP Option.isSome ∧
      r.byState =
        ([.openState, .setting, .staged, .lifting, .carried, .parked, .unlocated] :
          List HandoverState).map (fun st => s.handovers.countP (·.state == st)) ∧
      r.byRobotState =
        ([.announced, .ready, .active, .lost, .inactive] : List RobotState).map
          (fun st => s.roster.countP fun q => q.map (·.state) == some st) ∧
      (let judged := fun v => s.xpMap.countP fun e =>
        e.map (fun m => (s.col m.column).verification) == some v
      r.audit.fresh = judged .fresh ∧ r.audit.due = judged .due ∧
        r.audit.unverified = judged .unverified) ∧
      r.audit.interval = s.audit.interval ∧
      r.audit.state = s.audit.state ∧ r.audit.pointer = s.audit.pointer ∧
      r.audit.called = s.audit.called ∧ r.audit.callLimit = s.audit.callLimit ∧
      r.audit.overdue = s.audit.overdue ∧ r.audit.tick = s.audit.tick ∧
      r.current = s.zones.current ∧ r.trans = s.zones.trans.map (·.state) ∧
      r.hold = s.zones.hold ∧ r.holdPending = s.zones.holdPending ∧
      r.disagree = [0, 1, 2, 3].filter (fun z => s.zones.ack.get z != s.zones.driven.get z) ∧
      r.entries = s.link.received.length + 1 ∧ r.overflows = s.overflows ∧
      r.notices = s.link.notices.length ∧ r.frames = s.link.fleet.length ∧
      r.overrun = s.link.overrun ∧ r.lost = s.link.lost ∧ r.nextSeq = s.link.nextSeq ∧
      r.controlDiscards = s.link.controlDiscards ∧ r.fleetDiscards = s.link.fleetDiscards ∧
      r.fleetDrops = s.link.fleetDrops ∧ r.time = s.time

/-! ### Section configuration and resets -/

/-- The section state gates a request whose body decodes: in UNCONFIGURED the requests of the first
list are refused NOT_RUNNING, in RUNNING SET_PARAMETERS, DEFINE_COLUMN and COMMIT are refused
LOCKED_CONFIG (R174); a refused request changes nothing else. -/
def Obligations.SectionStateGatesRequests : Prop :=
  ∀ (tag : Word16) (body : List Byte) (c : Instr) (k : Byte) (s : State),
    c.request = some (k, tag, body) → c.bodyProblem = none → Takes tag s →
    (s.sectionState = .unconfigured →
      c ∈ [.resetSection tag body, .admitRobot tag body, .dismiss tag body,
        .openHandover tag body, .assignTaker tag body, .cancelHandover tag body,
        .releaseTracking tag body, .lockGroup tag body, .unlockGroup tag body,
        .retireColumn tag body, .reconcileColumn tag body, .releaseFreeze tag body,
        .modeRequest tag body, .modeCancel tag body] →
      exec c s = .next ((s.intake k tag body).answered k tag .notRunning .none)) ∧
    (s.sectionState = .running →
      c ∈ [.setParameters tag body, .defineColumn tag body, .commit tag body] →
      exec c s = .next ((s.intake k tag body).answered k tag .lockedConfig .none))

/-- SET_PARAMETERS in UNCONFIGURED: when every given value is within its range of R175 each parameter
with a value takes it and each with KEEP stays; else the first value out of range is named and
nothing changes (R175, R176). -/
def Obligations.SetParametersAppliesWhole : Prop :=
  ∀ (tag : Word16) (body : List Byte) (vs : List (Option Nat)) (s : State),
    Body.setParameters body = .ok vs → s.sectionState = .unconfigured → Takes tag s →
    let ranges : List (Nat × Nat) :=
      [(10, 600), (10, 1800), (5, 120), (1, 15), (2, 60), (5, 120), (60, 3600), (10, 600),
        (100, 5000), (1, 7), (0, 255), (0, 15)]
    let fits := fun i => ∀ n r, vs[i]? = some (some n) → ranges[i]? = some r → r.1 ≤ n ∧ n ≤ r.2
    let u := s.intake 1 tag body
    (∀ i n r, vs[i]? = some (some n) → ranges[i]? = some r → ¬(r.1 ≤ n ∧ n ≤ r.2) →
      (∀ j < i, fits j) →
      exec (.setParameters tag body) s =
        .next (u.answered 1 tag .outOfRange (.paramOutOfRange i n))) ∧
    ((∀ i, fits i) →
      ∃ p : Params,
        exec (.setParameters tag body) s =
          .next ({ u with params := p }.answered 1 tag .ok (.params p)) ∧
        let given := fun i old => ((vs[i]?).getD none).getD old
        p = ⟨given 0 s.params.stageLimit, given 1 s.params.collectLimit,
          given 2 s.params.holdLimit, given 3 s.params.releaseGrace,
          given 4 s.params.operationLimit, given 5 s.params.readyLimit,
          given 6 s.params.auditPeriod, given 7 s.params.callLimit,
          given 8 s.params.interlockLimit, given 9 s.params.faultThreshold,
          BitVec.ofNat 8 (given 10 s.params.acceptedClasses.toNat),
          given 11 s.params.minLevel⟩)

/-- DEFINE_COLUMN in UNCONFIGURED: checked in the order index, zone, lock group, capacity, settle
time (x and y are one byte each); then the definition is written whole, a settle time omitted being
300 ms, and nothing else changes (R177, R2). -/
def Obligations.DefineColumnWritesTheDefinition : Prop :=
  ∀ (tag : Word16) (body : List Byte) (q : Body.DefineColumn) (s : State),
    Body.defineColumn body = .ok q → s.sectionState = .unconfigured → Takes tag s →
    let u := s.intake 2 tag body
    let d : Defn := ⟨q.x, q.y, q.zone, q.group, q.capacity, q.settle.getD 300⟩
    exec (.defineColumn tag body) s = .next
      (if 95 < q.index then u.answered 2 tag .unknownColumn .none
      else if 3 < q.zone then u.answered 2 tag .outOfRange (.fieldOutOfRange 2)
      else if 11 < q.group then u.answered 2 tag .outOfRange (.fieldOutOfRange 3)
      else if q.capacity = 0 ∨ 4 < q.capacity then
        u.answered 2 tag .outOfRange (.fieldOutOfRange 4)
      else if 2000 < q.settle.getD 300 then u.answered 2 tag .outOfRange (.fieldOutOfRange 5)
      else
        (u.modCol q.index fun k => { k with defn := some d }).answered 2 tag .ok
          (.defined q.index d))

/-- MAP_XP in UNCONFIGURED maps an XP onto a column no other XP maps, defined or not, or sets it
UNMAPPED (R17); in RUNNING it maps an UNMAPPED XP onto a defined column that is neither retired nor
mapped (R18). A refused request changes nothing. That the XP number is checked first in UNCONFIGURED
is the model's choice (log 27). -/
def Obligations.MapXpChecksAndMaps : Prop :=
  ∀ (tag : Word16) (body : List Byte) (x : Nat) (target : Option Nat) (s : State),
    Body.mapXp body = .ok (x, target) → Takes tag s →
    let u := s.intake 3 tag body
    (79 < x → exec (.mapXp tag body) s = .next (u.answered 3 tag .unknownXp .none)) ∧
    (x ≤ 79 → s.sectionState = .unconfigured →
      exec (.mapXp tag body) s = .next
        (match target with
          | none => (u.setXp x none).answered 3 tag .ok (.mapped x none)
          | some c =>
            if 95 < c then u.answered 3 tag .unknownColumn .none
            else if (s.xp x).map (·.column) = some c then u.answered 3 tag .ok (.mapped x (s.xp x))
            else if (s.mappedBy c).isSome then u.answered 3 tag .inUse .none
            else (u.setXp x (some ⟨c, false⟩)).answered 3 tag .ok (.mapped x (some ⟨c, false⟩)))) ∧
    (x ≤ 79 → s.sectionState = .running →
      exec (.mapXp tag body) s = .next
        (match target with
          | none => u.answered 3 tag .wrongState .none
          | some c =>
            if s.defn c = none then u.answered 3 tag .unknownColumn .none
            else if (s.xp x).isSome then u.answered 3 tag .wrongState .none
            else if (s.col c).retired then u.answered 3 tag .retired .none
            else if (s.mappedBy c).isSome then u.answered 3 tag .inUse .none
            else
              (u.setXp x (some ⟨c, false⟩)).answered 3 tag .ok
                (.mappedSpare x c (s.zoneOf c) (s.col c).verification)))

/-- A COMMIT whose check fails changes nothing and names the first check that failed, with the
lowest XP that maps an undefined column, or the coordinate and the two lowest indices that clash
(R178, checks 2 to 5). -/
def Obligations.CommitChecksInOrder : Prop :=
  ∀ (tag : Word16) (s : State),
    s.sectionState = .unconfigured → Takes tag s →
    let refusal := fun p => exec (.commit tag []) s =
      .next ((s.intake 4 tag []).answered 4 tag .badConfig (.badConfig p))
    let clash := fun c d => c ≠ d ∧ ∃ j k, s.defn c = some j ∧ s.defn d = some k ∧
      j.x = k.x ∧ j.y = k.y
    let mappedAreDefined := ∀ x e, x < 80 → s.xp x = some e → (s.defn e.column).isSome
    ((∀ e ∈ s.xpMap, e = none) → refusal .noMappedXp) ∧
    (∀ x e, x < 80 → s.xp x = some e → s.defn e.column = none →
      (∀ y < x, ∀ f, s.xp y = some f → (s.defn f.column).isSome) →
      refusal (.undefinedColumn x e.column)) ∧
    (∀ c d k, (∃ e ∈ s.xpMap, e ≠ none) → mappedAreDefined → c < 96 → d < 96 → clash c d →
      s.defn c = some k → (∀ i < c, ∀ j < 96, ¬clash i j) → (∀ j < d, ¬clash c j) →
      refusal (.coordinateClash k.x k.y c d)) ∧
    ((∃ e ∈ s.xpMap, e ≠ none) → mappedAreDefined → (∀ c < 96, ∀ d < 96, ¬clash c d) →
      s.params.acceptedClasses = 0 → refusal .noGripperClass)

/-- A COMMIT that passes its checks starts the section shut: RUNNING, every table empty, every
defined column holding ZONE alone and UNVERIFIED, the zones CLOSED, the audit unit ARMING with its
tick started at the audit period divided by the mapped count; parameters, definitions, the map, the
hold flag and the link unit stay. The reply gives the numbers of defined columns, of mapped XPs and of
spares in each zone, and the tick interval (R178, R179, R24, R126, R173). -/
def Obligations.CommitStartsTheShutSection : Prop :=
  ∀ (tag : Word16) (s : State),
    s.sectionState = .unconfigured → Takes tag s →
    (∃ e ∈ s.xpMap, e ≠ none) →
    (∀ x e, x < 80 → s.xp x = some e → (s.defn e.column).isSome) →
    (∀ c < 96, ∀ d < 96, ∀ j k, c ≠ d → s.defn c = some j → s.defn d = some k →
      ¬(j.x = k.x ∧ j.y = k.y)) →
    s.params.acceptedClasses ≠ 0 →
    let n := s.xpMap.countP Option.isSome
    let interval := s.params.auditPeriod * 1000 / n
    let defined := (List.range 96).countP fun c => (s.defn c).isSome
    ∃ (t : State) (spares : Quad Nat),
      exec (.commit tag []) s =
        .next (t.answered 4 tag .ok (.committed defined n spares interval)) ∧
      (∀ z < 4, spares.get z = (List.range 96).countP fun c =>
        (s.defn c).map (·.zone) == some z && (s.mappedBy c).isNone && !(s.col c).retired) ∧
      (∀ c < 96, t.col c =
        { Column.blank with
          defn := s.defn c
          retired := (s.col c).retired
          causes := ⟨false, false, (s.defn c).isSome⟩ }) ∧
      (∀ x, t.xp x = (s.xp x).map fun e => ⟨e.column, false⟩) ∧
      (∀ a, t.robot a = none) ∧
      t.audit = ⟨.arming, 0, none, none, false, some interval, some interval⟩ ∧
      t.zones.current = Quad.same .closed ∧ t.zones.driven = Quad.same .closed ∧
      t.zones.trans = none ∧ t.zones.hold = s.zones.hold ∧ t.zones.holdPending = false ∧
      t.zones.ack = s.zones.ack ∧
      t.lockFlags = List.replicate 12 false ∧
      { t with
        columns := s.columns, xpMap := s.xpMap, roster := s.roster, audit := s.audit,
        zones := s.zones, lockFlags := s.lockFlags } =
      { s.intake 4 tag [] with sectionState := .running, handovers := [], lastNumber := 0 }

/-- RESET_SECTION in RUNNING shuts the section as one event and is answered OK: tables empty, every
defined column holding ZONE alone, zones CLOSED at once; parameters, definitions, retired marks, hold
flag, receive buffer, counters and time base stay (R181, R24). Every pending remap completes, in
ascending XP order, onto the lowest-index column of its zone that is defined, not retired and
unmapped as the earlier remaps leave it, or onto none where there is no such column (R181, R20). Both
queues are emptied but for the frame being sent, overrun and lost count are cleared (R197), and then
one REMAP_DONE for each remap is queued in order, 32 notices in all at most, those beyond being lost,
counted and flagged (R191). The reply gives the counts and the remaps. The premises that no two XPs
map one column and that a remap is pending on a retired column alone are R16 and R14. -/
def Obligations.SectionResetShutsTheSection : Prop :=
  ∀ (tag : Word16) (s : State),
    s.sectionState = .running → Takes tag s → s.Bounded → s.MapInjective →
    (∀ x e, s.xp x = some e → e.remapPending = true → (s.col e.column).retired = true) →
    ∃ (t : State) (remaps : List (Nat × Nat × Option Nat)),
      exec (.resetSection tag []) s =
        .next (t.answered 5 tag .ok
          (.sectionReset s.handovers.length (s.roster.countP Option.isSome)
            (s.columns.countP (·.grant.isSome)) (s.columns.countP (·.op.isSome))
            (s.zones.trans.map (·.state)) remaps)) ∧
      (∀ c < 96, t.col c =
        { Column.blank with
          defn := s.defn c
          retired := (s.col c).retired
          causes := ⟨false, false, (s.defn c).isSome⟩ }) ∧
      remaps.map (·.1) =
        (List.range 80).filter (fun x => (s.xp x).map (·.remapPending) == some true) ∧
      (∀ x < 80, (s.xp x).map (·.remapPending) ≠ some true → t.xp x = s.xp x) ∧
      (∀ (i x c : Nat) (spare : Option Nat), remaps[i]? = some (x, c, spare) →
        let fits := fun d : Nat => d < 96 ∧ (∃ k, s.defn d = some k ∧ k.zone = s.zoneOf c) ∧
          (s.col d).retired = false ∧ s.mappedBy d = none ∧
          ∀ j < i, ∀ p : Nat × Nat × Option Nat, remaps[j]? = some p → p.2.2 ≠ some d
        (s.xp x).map (·.column) = some c ∧ t.xp x = spare.map (⟨·, false⟩) ∧
        (∀ d, spare = some d → fits d ∧ ∀ e < d, ¬fits e) ∧
        (spare = none → ∀ d, ¬fits d)) ∧
      (∀ a, t.robot a = none) ∧
      t.audit = ⟨.arming, 0, none, none, false, some t.tickInterval, some t.tickInterval⟩ ∧
      t.zones =
        { s.zones with
          current := Quad.same .closed, driven := Quad.same .closed, trans := none,
          holdPending := false } ∧
      t.lockFlags = List.replicate 12 false ∧
      (let kept := if s.link.tx = .notice then s.link.notices.take 1 else []
      let done : List Notice := remaps.zipIdx.map fun p =>
        ⟨s.link.nextSeq + BitVec.ofNat 16 p.2, s.time, .remapDone p.1.1 p.1.2.1 p.1.2.2⟩
      t.link =
        { (s.intake 5 tag []).link with
          notices := kept ++ done.take (32 - kept.length)
          overrun := decide (32 < kept.length + done.length)
          lost := kept.length + done.length - 32
          nextSeq := s.link.nextSeq + BitVec.ofNat 16 done.length
          fleet := s.link.fleet.take 1 }) ∧
      { t with
        columns := s.columns, xpMap := s.xpMap, roster := s.roster, audit := s.audit,
        zones := s.zones, lockFlags := s.lockFlags, link := s.link } =
      { s with handovers := [], lastNumber := 0 }

/-- A hardware reset, at power-on or by RESET low for 1 ms, clears the part: UNCONFIGURED, default
parameters, every table empty, zones CLOSED, both queues and all counters cleared, the time base at
0, partial frames lost; the hold flag, the filtered ZONE_ACK levels and the control link rate are
those of the pins as it ends (R183, R23, R55, R78, R105, R123, R137, R173, R184, R197). The model's
choices: each filter stands steady at its pin's level (log 36), and the queue of waiting commands, the
model's own, stays (log 20). A shorter pulse either does this or has no
effect, and the statement leaves open which (R196; log 4). -/
def Obligations.HardwareResetClearsThePart : Prop :=
  ∀ (pins : PinLevels) (s : State),
    ∃ t : State,
      exec (.hardwareReset .powerOn pins) s = .next t ∧
      exec (.hardwareReset .resetLow pins) s = .next t ∧
      (exec (.hardwareReset .shortPulse pins) s = .next { t with choices := s.choices + 1 } ∨
        exec (.hardwareReset .shortPulse pins) s = .next { s with choices := s.choices + 1 }) ∧
      t.sectionState = .unconfigured ∧
      t.params = ⟨120, 300, 30, 4, 20, 30, 900, 120, 1000, 3, 255, 0⟩ ∧
      (∀ c, t.col c =
        ⟨none, [], false, false, 0, none, ⟨false, false, false⟩, .unverified, false, none, none, [],
          none⟩) ∧
      t.columns.length = 96 ∧ t.lockFlags = List.replicate 12 false ∧
      t.xpMap = List.replicate 80 none ∧ t.handovers = [] ∧ t.lastNumber = 0 ∧
      t.roster = List.replicate 48 none ∧
      t.audit = ⟨.arming, 0, none, none, false, none, none⟩ ∧
      t.zones = ⟨Quad.same .closed, Quad.same .closed, pins.ack, none, pins.gridHold, false⟩ ∧
      t.lines = ⟨⟨pins.gridHold, 2⟩,
        ⟨⟨pins.ack.z0, 2⟩, ⟨pins.ack.z1, 2⟩, ⟨pins.ack.z2, 2⟩, ⟨pins.ack.z3, 2⟩⟩⟩ ∧
      (∃ rate, t.link = ⟨[], [], .idle, [], false, 0, 0, [], 0, 0, 0, rate, [], [], none, none⟩ ∧
        rate = (if pins.rate1 then (if pins.rate0 then .r230400 else .r115200)
          else if pins.rate0 then .r57600 else .r19200)) ∧
      t.time = 0 ∧ t.pending = s.pending ∧ t.choices = s.choices

/-! ### Columns, locks, retirement and the map -/

/-- LOCK_GROUP and UNLOCK_GROUP (R9): refused NOT_RUNNING in UNCONFIGURED and OUT_OF_RANGE for a group
above 11; else the group's flag is set or cleared, and the reply gives the group, the new state of the
flag and the number of defined columns of the group. Nothing else changes, and a flag already in the
asked state stays. The reply is made and a free transmitter begins it (R190). -/
def Obligations.LockGroupSetsTheFlag : Prop :=
  ∀ (tag : Word16) (g : Byte) (s : State), Takes tag s →
    let result : Byte → Bool → State := fun k set =>
      let u := s.intake k tag [g]
      let flags := s.lockFlags.zipIdx.map fun p => if p.2 = g.toNat then set else p.1
      let columns := (List.range 96).countP fun c =>
        match s.defn c with
        | some d => d.group == g.toNat
        | none => false
      if s.sectionState = .unconfigured then u.answered k tag .notRunning .none
      else if 11 < g.toNat then u.answered k tag .outOfRange .none
      else
        State.answered { u with lockFlags := flags } k tag .ok (.lockFlag g.toNat set columns)
    exec (.lockGroup tag [g]) s = .next (result 15 true) ∧
    exec (.unlockGroup tag [g]) s = .next (result 16 false)

/-- The remap of an XP with remap pending completes when its retired column has an empty stack, no
reservation, no inbound and no operation in flight (R19): the lowest-index column of the zone that is
defined, unmapped and not retired takes the XP, or the XP becomes UNMAPPED, a call of the audit unit
on the retired column ends, and REMAP_DONE is issued (R20, R134). Else nothing changes. -/
def Obligations.RemapCompletesOntoTheLowestSpare : Prop :=
  ∀ (s : State) (x c : Nat) (e : XpEntry),
    s.mappedBy c = some x → s.xp x = some e →
    let ready := (s.col c).stack = [] ∧ s.reservations c = 0 ∧ (s.col c).inbound = false ∧
      (s.col c).op = none
    (¬(e.remapPending = true ∧ ready) → s.examineRemap c = (s, [])) ∧
    (e.remapPending = true → ready →
      ∃ spare : Option Nat,
        s.examineRemap c =
          ({ s with
              xpMap := updateAt s.xpMap x fun _ => spare.map (⟨·, false⟩)
              audit :=
                if s.audit.called = some c then
                  { s.audit with
                    state := .idle, called := none, callLimit := none, overdue := false,
                    pointer := if c < 95 then c + 1 else 0 }
                else s.audit },
            [.remapDone x c spare]) ∧
        (let fits := fun d : Nat => d < 96 ∧ (∃ k, s.defn d = some k ∧ k.zone = s.zoneOf c) ∧
          s.mappedBy d = none ∧ (s.col d).retired = false
        (∀ d, spare = some d → fits d ∧ ∀ i < d, ¬fits i) ∧
        (spare = none → ∀ d, ¬fits d)))

/-- RETIRE_COLUMN (R13, R14): refused UNKNOWN_COLUMN for an undefined column and ALREADY for a retired
one; else the retired mark is set, a mapping XP gains remap pending, COLUMN_RETIRED is issued, the
remap condition is examined, and the reply gives the mapping XP and whether the remap completed. That
the reply names the XP before a remap that completes at once is the model's choice (log 31). -/
def Obligations.RetireColumnMarksAndExaminesTheRemap : Prop :=
  ∀ (tag : Word16) (c : Byte) (s : State), s.sectionState = .running → Takes tag s →
    let u := s.intake 17 tag [c]
    let i := c.toNat
    (s.defn i = none →
      exec (.retireColumn tag [c]) s = .next (u.answered 17 tag .unknownColumn .none)) ∧
    (∀ d, s.defn i = some d → (s.col i).retired = true →
      exec (.retireColumn tag [c]) s = .next (u.answered 17 tag .already .none)) ∧
    (∀ d, s.defn i = some d → (s.col i).retired = false →
      let marked := u.modCol i fun k => { k with retired := true }
      let pending :=
        match s.mappedBy i with
        | some x => marked.setXp x (some ⟨i, true⟩)
        | none => marked
      let told := pending.notify
        (.columnRetired i d.x d.y d.zone .host (s.col i).faultCount (s.col i).lastFault
          (s.mappedBy i) (s.col i).stack.length (s.reservations i) (s.col i).inbound)
      let t := (told.examineRemap i).1.notifyAll (told.examineRemap i).2
      exec (.retireColumn tag [c]) s = .next
        (t.answered 17 tag .ok
          (.columnRetired i (s.mappedBy i) ((s.mappedBy i).isSome && (t.mappedBy i).isNone))))

/-- FAULT_REPORT (R10, R12): refused UNKNOWN_COLUMN and NOT_ACTIVE in that order, with no effect; on a
retired column accepted and not counted; else the count rises by one and the last fault is recorded,
and a count that reaches the threshold retires the column with cause FAULTS. The reporting robot need
hold no grant. -/
def Obligations.FaultReportCountsUpToRetirement : Prop :=
  ∀ (addr c k : Byte) (kind : FaultKind) (r : Robot) (s : State),
    FaultKind.ofByte? k = some kind → s.robot addr.toNat = some r →
    let a := addr.toNat
    let i := c.toNat
    let counted := s.modCol i fun q =>
      { q with faultCount := q.faultCount + 1, lastFault := some (.report kind a) }
    exec (.faultReport addr [c, k]) s = .next
      (if s.defn i = none then s.send a (.refused .unknownColumn .none)
      else if r.state ≠ .active then s.send a (.refused .notActive .none)
      else if (s.col i).retired then s.send a (.accepted .none)
      else if (s.col i).faultCount + 1 < s.params.faultThreshold then counted.send a (.accepted .none)
      else (counted.retire i .faults).send a (.accepted .none)).startTx

/-- QUERY_COLUMN and QUERY_XP are taken in both section states and change nothing; they are refused
UNKNOWN_COLUMN and UNKNOWN_XP, else they report the record as it stands (R21, R22, R1). -/
def Obligations.ColumnQueriesReportTheRecord : Prop :=
  ∀ (tag : Word16) (b : Byte) (s : State), Takes tag s →
    let i := b.toNat
    let k := s.col i
    let pending := fun x => ((s.xp x).map (·.remapPending)).getD false
    (s.defn i = none → exec (.queryColumn tag [b]) s =
      .next ((s.intake 20 tag [b]).answered 20 tag .unknownColumn .none)) ∧
    (∀ d, s.defn i = some d → exec (.queryColumn tag [b]) s =
      .next ((s.intake 20 tag [b]).answered 20 tag .ok (.column
        { index := i
          defn := d
          mapping := (s.mappedBy i).map fun x => (x, pending x)
          retired := k.retired
          locked := s.lockFlags.getD d.group false
          stack := k.stack.map s.entryView
          depth := k.stack.length
          reserving :=
            (s.handovers.filter fun h =>
              (h.state == .openState || h.state == .setting) && h.column == some i).map (·.number)
          inbound := k.inbound
          freeRoom := d.capacity - (k.stack.length + s.reservations i + k.inbound.toNat)
          faultCount := k.faultCount
          lastFault := k.lastFault
          causes := k.causes
          verification := k.verification
          seen := k.seen
          sinceSettle := k.settleMark.map fun m => s.time - m.at_
          grant := k.grant
          waits := k.waits
          op := k.op.map fun o => (o.kind, o.robot, s.time - o.startedAt)
          called := s.audit.called == some i }))) ∧
    (79 < i → exec (.queryXp tag [b]) s =
      .next ((s.intake 21 tag [b]).answered 21 tag .unknownXp .none)) ∧
    (i ≤ 79 → s.xp i = none → exec (.queryXp tag [b]) s =
      .next ((s.intake 21 tag [b]).answered 21 tag .ok (.xp ⟨i, none⟩))) ∧
    (∀ e, i ≤ 79 → s.xp i = some e → exec (.queryXp tag [b]) s =
      .next ((s.intake 21 tag [b]).answered 21 tag .ok (.xp ⟨i, some (e,
        (s.defn e.column).map fun d =>
          { zone := d.zone
            depth := (s.col e.column).stack.length
            reservations := s.reservations e.column
            inbound := (s.col e.column).inbound
            freeRoom := d.capacity - ((s.col e.column).stack.length + s.reservations e.column +
              (s.col e.column).inbound.toNat)
            retired := (s.col e.column).retired
            locked := s.lockFlags.getD d.group false
            frozen := s.frozen e.column
            verification := (s.col e.column).verification
            obstacle := s.obstacle e.column })⟩)))

/-! ### The handover table -/

/-- OPEN_HANDOVER gives a new record the first number above the last one assigned that no record
holds, counting on from 65535 to 1 (R26); the premises are the table's own invariant. A column is
eligible for allocation when no condition of R32 fails; the reason is that of the first that does, in
the order of the rule (R32, R8, R7, R6). With a zone target the part takes, of the mapped columns of
the zone that are eligible, the one with the smallest depth + reservations + inbound, ties to the
lowest XP (R34). -/
def Obligations.NumbersAndColumnsAreChosenByRule : Prop :=
  (∀ s : State, s.handovers.length ≤ 192 → s.lastNumber ≤ 65535 →
    let after := fun n : Nat => if n < 65535 then n + 1 else 1
    s.handover s.nextNumber = none ∧ 1 ≤ s.nextNumber ∧ s.nextNumber ≤ 65535 ∧
      ∃ k, s.nextNumber = after^[k + 1] s.lastNumber ∧
        ∀ j < k, (s.handover (after^[j + 1] s.lastNumber)).isSome) ∧
  (∀ (s : State) (c x : Nat) (d : Defn) (e : XpEntry),
    s.defn c = some d → s.xp x = some e →
    let tightening : Bool :=
      match s.zones.trans with
      | some t =>
        t.kind == .hold || decide ((s.zones.current.get d.zone).level < (t.targets.get d.zone).level)
      | none => false
    (s.mappedBy c = none → s.obstacle c = some .unmapped) ∧
    (s.mappedBy c = some x → s.obstacle c =
      if (s.col c).retired ∨ e.remapPending then some .retired
      else if s.lockFlags.getD d.group false then some .locked
      else if (s.col c).causes ≠ ⟨false, false, false⟩ then some .frozen
      else if (s.col c).verification = .unverified then some .unverified
      else if s.zones.current.get d.zone ≠ .openMode ∨ tightening ∨ s.zones.hold then some .zoneMode
      else if (s.col c).stack.length + s.reservations c + (s.col c).inbound.toNat < d.capacity then
        none
      else some .full)) ∧
  (∀ (s : State) (z : Nat),
    let candidate := fun x c => x < 80 ∧ (s.xp x).map (·.column) = some c ∧
      (s.defn c).map (·.zone) = some z ∧ s.obstacle c = none
    (∀ x c, s.chooseInZone z = some (x, c) →
      candidate x c ∧ ∀ y d, candidate y d →
        s.roomUsed c < s.roomUsed d ∨ (s.roomUsed c = s.roomUsed d ∧ x ≤ y)) ∧
    (s.chooseInZone z = none → ∀ x c, ¬candidate x c))

/-- OPEN_HANDOVER in RUNNING is checked in the order of R31 (checks 2 to 8; R33, R34); the first check
that fails gives the refusal, and a refused request changes nothing. -/
def Obligations.OpenHandoverChecksInOrder : Prop :=
  ∀ (tag : Word16) (body : List Byte) (q : Body.OpenHandover) (s : State),
    Body.openHandover body = .ok q → s.sectionState = .running → Takes tag s →
    let target : Option (Status × ReplyBody) :=
      match q.target with
      | .xp x =>
        if 79 < x then some (.unknownXp, .none)
        else
          match s.xp x with
          | none => some (.notEligible, .notEligible (some x) none .unmapped)
          | some e =>
            (s.obstacle e.column).map fun r =>
              (.notEligible, .notEligible (some x) (some e.column) r)
      | .zone z =>
        if 3 < z then some (.outOfRange, .none)
        else if s.chooseInZone z = none then some (.notEligible, .notEligible none none .noColumn)
        else none
    let taker : Option (Status × ReplyBody) :=
      match q.taker with
      | .none => some (.outOfRange, .none)
      | .any => target
      | .addr a =>
        match s.robot a with
        | none => some (.unknownRobot, .unknownRobot .taker)
        | some r => if r.state = .inactive then some (.inactive, .none) else target
    let problem : Option (Status × ReplyBody) :=
      if q.tag = 0 then some (.badTag, .none)
      else if ∃ h ∈ s.handovers, h.tag = q.tag then some (.duplicateBin, .none)
      else if 192 ≤ s.handovers.length then some (.tableFull, .none)
      else
        match s.robot q.giver with
        | none => some (.unknownRobot, .unknownRobot .giver)
        | some r =>
          if r.state ≠ .active then some (.notActive, .none)
          else if ¬(r.slot = .empty ∨ r.slot = .untracked q.tag) then some (.giverLoaded, .none)
          else taker
    ∀ st b, problem = some (st, b) →
      exec (.openHandover tag body) s = .next ((s.intake 9 tag body).answered 9 tag st b)

/-- An OPEN_HANDOVER that passes its checks creates the record in OPEN on the chosen column, in its
giver's custody, with a RUNNING STAGE deadline at the stage limit, and sets the giver's slot, load
confirmed when it held that very bin untracked; the reply gives number, column and XP (R35, R26, R30).
Every other record, robot and field stays. -/
def Obligations.OpenHandoverCreatesTheRecord : Prop :=
  ∀ (tag : Word16) (body : List Byte) (q : Body.OpenHandover) (r : Robot) (x c : Nat) (s : State),
    Body.openHandover body = .ok q → s.sectionState = .running → Takes tag s →
    q.tag ≠ 0 → (∀ h ∈ s.handovers, h.tag ≠ q.tag) → s.handovers.length < 192 →
    s.robot q.giver = some r → r.state = .active →
    (r.slot = .empty ∨ r.slot = .untracked q.tag) →
    (q.taker = .any ∨ ∃ a k, q.taker = .addr a ∧ s.robot a = some k ∧ k.state ≠ .inactive) →
    ((q.target = .xp x ∧ x ≤ 79 ∧ (s.xp x).map (·.column) = some c ∧ s.obstacle c = none) ∨
      ∃ z, q.target = .zone z ∧ z ≤ 3 ∧ s.chooseInZone z = some (x, c)) →
    let n := s.nextNumber
    ∃ t : State,
      exec (.openHandover tag body) s = .next (t.answered 9 tag .ok (.opened n c x)) ∧
      t.handovers.Perm
        ({ number := n, tag := q.tag, giver := q.giver, taker := q.taker, state := .openState,
           column := some c, custody := .robot q.giver,
           deadline := some ⟨.stage, s.params.stageLimit * 1000, .running⟩, uncertain := false,
           relocations := 0, openedAt := s.time } :: s.handovers) ∧
      t.robot q.giver =
        some { r with slot := .tracked n, loadConfirmed := r.slot == .untracked q.tag } ∧
      (∀ a, a ≠ q.giver → t.robot a = s.robot a) ∧
      { t with handovers := s.handovers, roster := s.roster } =
        { s.intake 9 tag body with lastNumber := n }

/-- ASSIGN_TAKER (R36): UNKNOWN_HANDOVER, then WRONG_STATE in SETTING, LIFTING and UNLOCATED, then the
taker's refusals; else the taker is set, a STAGED or PARKED record is STAGED with a fresh COLLECT
deadline, RUNNING or SUSPENDED, and nothing else changes. -/
def Obligations.AssignTakerSetsTheTaker : Prop :=
  ∀ (tag : Word16) (body : List Byte) (n : Nat) (k : Taker) (s : State),
    Body.assignTaker body = .ok (n, k) → s.sectionState = .running → Takes tag s →
    let u := s.intake 10 tag body
    let answers := fun st b => exec (.assignTaker tag body) s = .next (u.answered 10 tag st b)
    (s.handover n = none → answers .unknownHandover .none) ∧
    (∀ h, s.handover n = some h → h.state ∈ [.setting, .lifting, .unlocated] →
      answers .wrongState .none) ∧
    (∀ h, s.handover n = some h → h.state ∈ [.openState, .staged, .carried, .parked] →
      (k = .none → answers .outOfRange .none) ∧
      (∀ a, k = .addr a → s.robot a = none → answers .unknownRobot (.unknownRobot .taker)) ∧
      (∀ a r, k = .addr a → s.robot a = some r → r.state = .inactive → answers .inactive .none) ∧
      ((k = .any ∨ ∃ a r, k = .addr a ∧ s.robot a = some r ∧ r.state ≠ .inactive) →
        let suspended :=
          match h.column with
          | some c => s.suspends c
          | none => false
        let fresh : Deadline :=
          ⟨.collect, s.params.collectLimit * 1000, if suspended then .suspended else .running⟩
        let h' : Handover :=
          match h.state with
          | .staged => { h with taker := k, deadline := some fresh }
          | .parked => { h with taker := k, state := .staged, deadline := some fresh }
          | _ => { h with taker := k }
        exec (.assignTaker tag body) s = .next
          ((u.modHandover n fun _ => h').answered 10 tag .ok
            (.takerAssigned n k h'.state h'.deadline))))

/-- CANCEL_HANDOVER (R37) and RELEASE_TRACKING (R38), by the record's state. An OPEN record is freed
alike by both: its giver's slot becomes UNTRACKED if load-confirmed and EMPTY otherwise, and the remap
condition of its column is examined. A STAGED record is parked by a cancel; a PARKED, CARRIED or
UNLOCATED one is released with its entry or slot made untracked. Every other state refuses. -/
def Obligations.CancelAndReleaseActByState : Prop :=
  ∀ (tag : Word16) (hi lo : Byte) (s : State),
    s.sectionState = .running → Takes tag s →
    let body := [hi, lo]
    let n := hi.toNat * 256 + lo.toNat
    let u := s.intake 11 tag body
    let v := s.intake 12 tag body
    let cancels := fun (t : State) st b =>
      exec (.cancelHandover tag body) s = .next (t.answered 11 tag st b)
    let releases := fun (t : State) st b =>
      exec (.releaseTracking tag body) s = .next (t.answered 12 tag st b)
    (s.handover n = none →
      cancels u .unknownHandover .none ∧ releases v .unknownHandover .none) ∧
    (∀ h a c, s.handover n = some h → h.state = .openState → h.custody = .robot a →
      h.column = some c →
      let slot : Slot :=
        if ((s.robot a).map (·.loadConfirmed)).getD false then .untracked h.tag else .empty
      let freed := fun w : State => (w.setSlot a slot false).freeHandover n
      let after := fun w : State =>
        ((freed w).examineRemap c).1.notifyAll ((freed w).examineRemap c).2
      cancels (after u) .ok (.cancelled n slot) ∧ releases (after v) .ok (.cancelled n slot)) ∧
    (∀ h, s.handover n = some h → h.state = .staged →
      cancels (u.modHandover n fun _ => { h with state := .parked, taker := .none, deadline := none })
        .ok (.nowParked n) ∧
      releases v .wrongState .none) ∧
    (∀ h, s.handover n = some h → h.state = .setting ∨ h.state = .lifting →
      cancels u .wrongState (.inState h.state) ∧ releases v .wrongState .none) ∧
    (∀ h, s.handover n = some h → h.state = .parked →
      cancels u .wrongState (.inState .parked) ∧
      ∀ c i, h.custody = .column c i →
        releases
          ((v.modCol c fun k =>
            { k with
              stack := k.stack.map fun e =>
                if e = .tracked n then .foreign h.tag else e }).freeHandover n)
          .ok (.released n h.tag (.column c i))) ∧
    (∀ h, s.handover n = some h → h.state = .carried →
      cancels u .wrongState (.inState .carried) ∧
      (s.operationOf n ≠ none → releases v .inFlight .none) ∧
      ∀ a, s.operationOf n = none → h.custody = .robot a →
        releases ((v.setSlot a (.untracked h.tag) false).freeHandover n) .ok
          (.released n h.tag (.robot a))) ∧
    (∀ h, s.handover n = some h → h.state = .unlocated →
      cancels u .wrongState (.inState .unlocated) ∧
      (h.custody = .unlocated →
        releases (v.freeHandover n) .ok (.released n h.tag .unlocated)))

/-- QUERY_HANDOVER and LIST_HANDOVERS change nothing (R40, R41). A query is refused BAD_TAG for tag
0 and UNKNOWN_HANDOVER, else it reports the record, with the operation it is in flight with and the
conditions that suspend its deadline; that these are all clear unless the deadline is SUSPENDED is
the model's choice (log 15), as is BAD_TAG for tag 0 in UNCONFIGURED (log 33). A list is refused
OUT_OF_RANGE for a filter beyond its values, else it gives up to 16 matching records from the start
number on, in the table's order, and the next matching number, or 0. The table stands in ascending
order of number, which every step keeps (EveryStepKeepsTheBounds), so with it, stated here as a
premise of the clause that says so, the records listed are those of the lowest matching numbers,
ascending. -/
def Obligations.HandoverQueriesReportTheTable : Prop :=
  (∀ (tag : Word16) (body : List Byte) (q : Body.HandoverRef) (s : State),
    Body.queryHandover body = .ok q → Takes tag s →
    let answers := fun st b => exec (.queryHandover tag body) s =
      .next ((s.intake 13 tag body).answered 13 tag st b)
    let found := fun h => (∃ n, q = .number n ∧ s.handover n = some h) ∨
      ∃ t, q = .tag t ∧ t ≠ 0 ∧ s.handoverByTag t = some h
    (q = .tag 0 → answers .badTag .none) ∧
    (q ≠ .tag 0 → (∀ h, ¬found h) → answers .unknownHandover .none) ∧
    (∀ h, found h → ∃ r, answers .ok (.handover r) ∧
      r.number = h.number ∧ r.tag = h.tag ∧ r.giver = h.giver ∧ r.taker = h.taker ∧
      r.state = h.state ∧
      r.column = h.column.map (fun c => (c, s.mappedBy c, s.zoneOf c)) ∧
      (∀ c i, h.custody = .column c i → r.custody = .column c i (s.col c).stack.length) ∧
      (∀ a k, h.custody = .robot a → s.robot a = some k →
        r.custody = .robot a k.state k.loadConfirmed) ∧
      (h.custody = .unlocated → r.custody = .unlocated) ∧
      r.deadline.map (·.1) = h.deadline ∧
      (∀ d k, r.deadline = some (d, k) →
        ((d.cond ≠ .suspended ∨ h.column = none) → k = ⟨false, false, false⟩) ∧
        (∀ c e, d.cond = .suspended → h.column = some c → s.defn c = some e →
          (k.frozen = true ↔ (s.col c).causes ≠ ⟨false, false, false⟩) ∧
          (k.zoneMode = true ↔ 2 ≤ (s.zones.current.get e.zone).level) ∧
          (k.tightening = true ↔ ∃ t, s.zones.trans = some t ∧ t.state = .changing ∧
            (t.kind = .hold ∨ (s.zones.current.get e.zone).level < (t.targets.get e.zone).level) ∧
            2 ≤ (t.targets.get e.zone).level))) ∧
      (∀ c o, (s.col c).op = some o → h.number ∈ o.records →
        (∀ e < c, ∀ p, (s.col e).op = some p → h.number ∉ p.records) →
        r.inFlight = some (o.kind, o.robot)) ∧
      ((∀ c o, (s.col c).op = some o → h.number ∉ o.records) → r.inFlight = none) ∧
      r.uncertain = h.uncertain ∧
      r.relocations = h.relocations ∧ r.sinceOpened = s.time - h.openedAt)) ∧
  (∀ (tag : Word16) (body : List Byte) (q : Body.ListHandovers) (s : State),
    Body.listHandovers body = .ok q → Takes tag s →
    let answers := fun st b => exec (.listHandovers tag body) s =
      .next ((s.intake 14 tag body).answered 14 tag st b)
    let bad := (∃ f, q.state = some f ∧ 6 < f.toNat) ∨ ∃ f, q.zone = some f ∧ 3 < f.toNat
    let matching := s.handovers.filter fun h =>
      q.start ≤ h.number &&
      (match q.state with
        | none => true
        | some f => HandoverState.ofByte? f == some h.state) &&
      (match q.zone, h.column with
        | none, _ => true
        | some f, some c => (s.defn c).map (·.zone) == some f.toNat
        | some _, none => false)
    (bad → answers .outOfRange .none) ∧
    (¬bad → answers .ok (.handoverList
      ((matching.take 16).map fun h =>
        ⟨h.number, h.tag, h.state, h.taker, h.column, h.deadline.map fun d => (d.kind, d.remaining),
          h.uncertain⟩)
      (((matching[16]?).map (·.number)).getD 0))) ∧
    (s.handovers.Pairwise (fun h k => h.number < k.number) →
      (matching.map (·.number)).Pairwise (· < ·) ∧
      ∀ h ∈ matching.take 16, ∀ k ∈ matching.drop 16, h.number < k.number))

/-- A RUNNING deadline that runs out (R42): an OPEN record is freed, its slot converted, its
column's remap examined and STAGE_EXPIRED issued (R44); a CARRIED record loses its deadline and
RELOCATION_OVERDUE is issued (R45); a STAGED record is parked with taker NONE and COLLECT_EXPIRED is
issued (R46). An expiry of a deadline that has not run out changes nothing (log 2), which is how the
races of R48 and R49 are decided. That REMAP_DONE stands before STAGE_EXPIRED, and that the XP named
is the one before the remap, is the model's choice (log 31). -/
def Obligations.DeadlineExpiriesActByState : Prop :=
  ∀ (n : Nat) (h : Handover) (s : State), s.handover n = some h →
    (∀ a c, h.state = .openState → h.deadline = some ⟨.stage, 0, .running⟩ →
      h.custody = .robot a → h.column = some c →
      let slot : Slot :=
        if ((s.robot a).map (·.loadConfirmed)).getD false then .untracked h.tag else .empty
      let freed := (s.setSlot a slot false).freeHandover n
      let examined := (freed.examineRemap c).1.notifyAll (freed.examineRemap c).2
      exec (.stageExpired n) s = .next
        (examined.notify (.stageExpired n h.tag h.giver c (s.mappedBy c) slot)).startTx) ∧
    (∀ a, h.state = .carried → h.deadline = some ⟨.stage, 0, .running⟩ → h.custody = .robot a →
      exec (.relocationOverdue n) s = .next
        ((s.modHandover n fun _ => { h with deadline := none }).notify
          (.relocationOverdue n h.tag a h.taker h.relocations)).startTx) ∧
    (∀ c i, h.state = .staged → h.deadline = some ⟨.collect, 0, .running⟩ →
      h.custody = .column c i → h.column = some c →
      exec (.collectExpired n) s = .next
        ((s.modHandover n fun _ => { h with state := .parked, taker := .none, deadline := none }).notify
          (.collectExpired n h.tag h.taker c (s.mappedBy c) i)).startTx) ∧
    (¬(h.state = .openState ∧ h.deadline = some ⟨.stage, 0, .running⟩) →
      exec (.stageExpired n) s = .next s) ∧
    (¬(h.state = .carried ∧ h.deadline = some ⟨.stage, 0, .running⟩) →
      exec (.relocationOverdue n) s = .next s) ∧
    (¬(h.state = .staged ∧ h.deadline = some ⟨.collect, 0, .running⟩) →
      exec (.collectExpired n) s = .next s)

/-! ### Grants -/

/-- The effective mode of a zone, the classes a mode permits (R58), and the conditions that suspend
the deadline of a record on a column (R43). -/
def Obligations.EffectiveModeAndSuspension : Prop :=
  (∀ (s : State) (z : Nat),
    (s.zones.hold = true → s.effective z = .closed) ∧
    (∀ t, s.zones.trans = some t → t.kind = .hold → s.effective z = .closed) ∧
    (∀ t, s.zones.hold = false → s.zones.trans = some t → t.kind = .normal →
      s.effective z =
        if (s.zones.current.get z).level < (t.targets.get z).level then t.targets.get z
        else s.zones.current.get z) ∧
    (s.zones.hold = false → s.zones.trans = none → s.effective z = s.zones.current.get z)) ∧
  (∀ k : Cls, modePermits .openMode k = true ∧ modePermits .drain k = true ∧
    (modePermits .service k = true ↔ k = .service) ∧ modePermits .closed k = false) ∧
  (∀ (s : State) (c : Nat) (d : Defn), s.defn c = some d →
    (s.suspends c = true ↔
      (s.col c).causes ≠ ⟨false, false, false⟩ ∨
      s.zones.current.get d.zone = .service ∨ s.zones.current.get d.zone = .closed ∨
      ∃ t, s.zones.trans = some t ∧ t.state = .changing ∧
        (t.kind = .hold ∨ (s.zones.current.get d.zone).level < (t.targets.get d.zone).level) ∧
        (t.targets.get d.zone = .service ∨ t.targets.get d.zone = .closed)))

/-- GRANT_REQ: the checks of R59 in their order, then the decision of R60: granted at once, refused
WAIT_FULL, or queued by class and arrival (R57), a queued request that outranks a holder without a
revoke pending revoking it. A refused request changes nothing. -/
def Obligations.GrantRequestIsCheckedThenDecided : Prop :=
  ∀ (addr b k : Byte) (r : Robot) (s : State), s.robot addr.toNat = some r →
    let a := addr.toNat
    let c := b.toNat
    let gives := fun t : State => exec (.grantReq addr [b, k]) s = .next t.startTx
    let refuses := fun e d => gives (s.send a (.refused e d))
    (s.defn c = none → refuses .unknownColumn (.column c)) ∧
    (∀ d, s.defn c = some d → r.state ≠ .active → refuses .notActive (.column c)) ∧
    (∀ d e, s.defn c = some d → r.state = .active → (s.grantedTo a).or (s.waitingOn a) = some e →
      refuses .already (.already c e)) ∧
    (∀ d, s.defn c = some d → r.state = .active → s.grantedTo a = none → s.waitingOn a = none →
      ((Cls.ofByte? k = none ∨ r.maxClass = none ∨
          ∃ w m, Cls.ofByte? k = some w ∧ r.maxClass = some m ∧ w.rank < m.rank) →
        refuses .cls (.column c)) ∧
      (∀ w m, Cls.ofByte? k = some w → r.maxClass = some m → m.rank ≤ w.rank →
        let called := s.audit.called = some c ∨ (s.col c).verification = .unverified
        let mode := s.effective d.zone
        let free := (s.col c).grant = none ∧ modePermits mode w = true
        let place := ((s.col c).waits.takeWhile fun q => q.cls.rank ≤ w.rank).length
        let queued := (s.modCol c fun q =>
          { q with waits := q.waits.take place ++ ⟨a, w⟩ :: q.waits.drop place }).send a
          (.queued c w (place + 1))
        (w = .audit → ¬called → refuses .notCalled (.column c)) ∧
        ((w = .audit → called) →
          (mode = .closed → refuses .zoneClosed (.column c)) ∧
          (mode ≠ .closed → free →
            gives ((s.modCol c fun q =>
              { q with grant := some ⟨a, w, some (s.params.holdLimit * 1000), none, none⟩ }).send a
              (.granted c w (s.params.holdLimit * 1000)))) ∧
          (mode ≠ .closed → ¬free → 8 ≤ (s.col c).waits.length →
            refuses .waitFull (.column c)) ∧
          (mode ≠ .closed → ¬free → (s.col c).waits.length < 8 →
            ((∃ g, (s.col c).grant = some g ∧ w.rank < g.cls.rank ∧ g.revoke = none) →
              gives (queued.revoke c .outranked)) ∧
            ((¬∃ g, (s.col c).grant = some g ∧ w.rank < g.cls.rank ∧ g.revoke = none) →
              gives queued)))))

/-- A column without a holder is handed on to its first waiting request of a permitted class, with
the full hold limit; requests ahead of it keep their places (R61). A revoke sets its cause, makes the
hold limit absent, starts the grace unless an operation is in flight, and sends REVOKE; on a pending
revoke it does nothing (R66, R67). -/
def Obligations.HandOnAndRevoke : Prop :=
  (∀ (s : State) (c : Nat), (s.col c).grant ≠ none → s.handOn c = s) ∧
  (∀ (s : State) (c : Nat), (∀ w ∈ (s.col c).waits, s.permitted c w.cls = false) →
    s.handOn c = s) ∧
  (∀ (s : State) (c : Nat) (front rest : List WaitReq) (w : WaitReq),
    (s.col c).grant = none → (s.col c).waits = front ++ w :: rest →
    (∀ v ∈ front, s.permitted c v.cls = false) → s.permitted c w.cls = true →
    s.handOn c =
      (s.modCol c fun q =>
        { q with
          waits := front ++ rest
          grant := some ⟨w.robot, w.cls, some (s.params.holdLimit * 1000), none, none⟩ }).send
        w.robot (.granted c w.cls (s.params.holdLimit * 1000))) ∧
  (∀ (s : State) (c : Nat) (g : Grant) (cause : RevokeCause), (s.col c).grant = some g →
    (g.revoke ≠ none → s.revoke c cause = s) ∧
    (g.revoke = none → s.revoke c cause =
      (s.modCol c fun q =>
        { q with
          grant := some { g with
            revoke := some cause
            holdLimit := none
            grace := if (s.col c).op = none then some (s.params.releaseGrace * 1000) else none }
          }).send g.robot (.revoke c cause (s.params.releaseGrace * 1000))))

/-- WITHDRAW (R62): a request that waits in the column's list leaves it, the others keeping their
order, and the robot is answered ACCEPTED; else REFUSED NOT_WAITING and nothing changes. No grant is
made, and the holder with any revoke pending stays as it is. A free transmitter then takes a waiting
frame, if there is one (R190). -/
def Obligations.WithdrawLeavesTheList : Prop :=
  ∀ (addr b : Byte) (r : Robot) (s : State), s.robot addr.toNat = some r →
    let a := addr.toNat
    let c := b.toNat
    ((∃ w ∈ (s.col c).waits, w.robot = a) →
      exec (.withdraw addr [b]) s = .next
        ((s.modCol c fun q =>
          { q with waits := q.waits.filter fun w => w.robot ≠ a }).send a
          (.accepted (.column c))).startTx) ∧
    ((¬∃ w ∈ (s.col c).waits, w.robot = a) →
      exec (.withdraw addr [b]) s =
        .next (s.send a (.refused .notWaiting (.column c))).startTx)

/-- The end of a grant removes its record; in a zone that a transition in WAITING tightens, a grant
of a forbidden class lowers that zone's count, and WAITING ends when every count is 0 (R64, R73,
R160). -/
def Obligations.GrantEndReachesTheZoneCount : Prop :=
  ∀ (s : State) (c : Nat) (d : Defn) (g : Grant), s.defn c = some d → (s.col c).grant = some g →
    let ended := s.modCol c fun q => { q with grant := none }
    ((∀ t, s.zones.trans = some t → t.state = .waiting → s.tightens t d.zone = false) →
      s.endGrant c = ended) ∧
    (∀ t, s.zones.trans = some t → t.state = .waiting → s.tightens t d.zone = true →
      let t' : Transition :=
        if modePermits (t.targets.get d.zone) g.cls then t
        else { t with forbidden := t.forbidden.set d.zone (t.forbidden.get d.zone - 1) }
      let told : State := { ended with zones := { ended.zones with trans := some t' } }
      s.endGrant c = if t'.forbidden = Quad.same 0 then told.enterChanging t' else told)

/-- RELEASE is refused LOST, NO_GRANT and BUSY in that order, with no effect (R63); else the robot
is answered ACCEPTED, the grant ends and the column is handed on (R63, R64), whether or not a revoke
was pending. That ACCEPTED goes before the frames of the grant's end is the model's choice (log 14).
-/
def Obligations.ReleaseEndsTheGrant : Prop :=
  ∀ (addr b : Byte) (r : Robot) (s : State), s.robot addr.toNat = some r →
    let a := addr.toNat
    let c := b.toNat
    let gives := fun t : State => exec (.release addr [b]) s = .next t.startTx
    let refuses := fun e => gives (s.send a (.refused e (.column c)))
    let holds := ∃ g, (s.col c).grant = some g ∧ g.robot = a
    (r.state = .lost → refuses .lost) ∧
    (r.state ≠ .lost → ¬holds → refuses .noGrant) ∧
    (r.state ≠ .lost → holds → (s.col c).op ≠ none → refuses .busy) ∧
    (r.state ≠ .lost → holds → (s.col c).op = none →
      gives (((s.send a (.accepted (.column c))).endGrant c).handOn c))

/-- A hold limit that runs out revokes the holder with cause HOLD_LIMIT (R65). A release grace that
runs out makes the robot LOST, ends the grant, adds SUSPECT, which suspends the deadlines of the
records on the column, issues ROBOT_LOST and then COLUMN_SUSPECT, and hands the column on (R68, R43,
R120). An expiry of a limit that has not run out
changes nothing (log 2). That a MODE_CHANGED of the grant's end stands before the two notices is the
model's choice (log 13). -/
def Obligations.GrantTimersRevokeAndLose : Prop :=
  ∀ (c : Nat) (g : Grant) (r : Robot) (s : State),
    (s.col c).grant = some g → s.robot g.robot = some r →
    (g.revoke = none → g.holdLimit = some 0 →
      exec (.holdLimitExpiry c) s = .next (s.revoke c .holdLimit).startTx) ∧
    (¬(g.revoke = none ∧ g.holdLimit = some 0) → exec (.holdLimitExpiry c) s = .next s) ∧
    (g.revoke ≠ none → g.grace = some 0 →
      let lost := s.modRobot g.robot fun q => { q with state := .lost, readyTimer := none }
      let ended := lost.endGrant c
      let suspect := ended.addSuspect c
      suspect.col c =
        { ended.col c with causes := { (ended.col c).causes with suspect := true } } ∧
      (∀ e, e ≠ c → suspect.col e = ended.col e) ∧
      (∀ n h, ended.handover n = some h → suspect.handover n = some
        (if h.column = some c then
          { h with
            deadline := h.deadline.map fun e =>
              if e.cond = .stopped then e else { e with cond := .suspended } }
        else h)) ∧
      { suspect with columns := ended.columns, handovers := ended.handovers } = ended ∧
      exec (.releaseGraceExpiry c) s = .next
        (((suspect.notify (.robotLost g.robot r.serial .grace c r.slot)).notify
          (.columnSuspect c (suspect.mappedBy c) .grace g.robot)).handOn c).startTx) ∧
    (¬(g.revoke ≠ none ∧ g.grace = some 0) → exec (.releaseGraceExpiry c) s = .next s)

/-! ### Operations -/

/-- The checks OP_START makes for every kind, in the order of R81, and the three more for kinds other
than SCAN (R7, R82). A refused OP_START changes nothing. -/
def Obligations.OperationStartChecksInOrder : Prop :=
  ∀ (addr b k t3 t2 t1 t0 : Byte) (r : Robot) (s : State), s.robot addr.toNat = some r →
    let a := addr.toNat
    let c := b.toNat
    let refuses := fun e d => exec (.opStart addr [b, k, t3, t2, t1, t0]) s =
      .next (s.send a (.refused e d)).startTx
    let holds := fun g => (s.col c).grant = some g ∧ g.robot = a
    (s.defn c = none → refuses .unknownColumn (.column c)) ∧
    (∀ d, s.defn c = some d →
      (r.state ≠ .active → refuses .notActive (.column c)) ∧
      (r.state = .active → 3 < k.toNat → refuses .outOfRange (.column c)) ∧
      (r.state = .active → k.toNat ≤ 3 → (¬∃ g, holds g) → refuses .noGrant (.column c)) ∧
      (∀ g, r.state = .active → k.toNat ≤ 3 → holds g →
        ((s.col c).op ≠ none → refuses .busy (.column c)) ∧
        ((s.col c).op = none → g.revoke ≠ none → refuses .revoked (.column c)) ∧
        ((s.col c).op = none → g.revoke = none → k.toNat ≠ 3 →
          ((s.col c).causes.suspect = true → refuses .suspect (.column c)) ∧
          ((s.col c).causes.suspect = false →
            ((s.col c).causes.discrepancy = true ∨ (s.col c).causes.zone = true) →
            refuses .frozen (.column c)) ∧
          ((s.col c).causes = ⟨false, false, false⟩ → s.mappedBy c = none →
            refuses .unmapped (.column c)) ∧
          (∀ x m, (s.col c).causes = ⟨false, false, false⟩ → s.mappedBy c = some x →
            (s.col c).settleMark = some m → m.left ≠ 0 →
            refuses .settling (.settling c m.left)))))

/-- An OP_START past the checks of R81 is judged by its kind (R83, R85, R87, R89) and refused with
the first reason, or accepted: the records of its halves go in flight with their deadlines stopped
(R84, R86, R88, R47), a SET without a reservation takes inbound (R5), the operation record is made
(R79, R90), a call on the column is being executed (R131), and the robot is sent GO. The premise on
the slot is R83's: a handover in a slot is OPEN or CARRIED. Where a stack entry names no record,
which R29 rules out, the statement says what the model does (log 22). That GO carries an untracked set
half with its tag is the model's choice (log 15). -/
def Obligations.OperationStartIsJudgedByItsKind : Prop :=
  ∀ (addr b k t3 t2 t1 t0 : Byte) (r : Robot) (d : Defn) (g : Grant) (kind : OpKind) (s : State),
    let a := addr.toNat
    let c := b.toNat
    let tag : BinTag := be32 t3 t2 t1 t0
    s.robot a = some r → r.state = .active → s.defn c = some d → OpKind.ofByte? k = some kind →
    (s.col c).grant = some g → g.robot = a → g.revoke = none → (s.col c).op = none →
    (kind ≠ .scan →
      s.frozen c = false ∧ s.mappedBy c ≠ none ∧ s.settleLeft c = 0) →
    (∀ n, r.slot = .tracked n →
      ∃ h, s.handover n = some h ∧ (h.state = .openState ∨ h.state = .carried)) →
    let high := g.cls = .recovery ∨ g.cls = .service
    let room := (s.col c).stack.length + s.reservations c + (s.col c).inbound.toNat < d.capacity
    let carried : BinTag :=
      match r.slot with
      | .empty => 0
      | .tracked n => ((s.handover n).map (·.tag)).getD 0
      | .untracked t => t
    let extra (needsRoom : Bool) (half : SetHalf) : Except Status SetHalf :=
      if ¬high then .error .cls else if needsRoom ∧ ¬room then .error .full else .ok half
    let setHalf (needsRoom : Bool) : Except Status SetHalf :=
      match r.slot with
      | .empty => .error .unloaded
      | .tracked n =>
        match s.handover n with
        | none => .error .unloaded
        | some h =>
          if h.state = .openState then
            if h.column = some c then .ok (.reserved n) else .error .wrongColumn
          else extra needsRoom (.relocation n)
      | .untracked t => extra needsRoom (.untracked t)
    let liftHalf : Except Status LiftHalf :=
      match (s.col c).stack.getLast? with
      | none => .error .empty
      | some (.foreign t) => if high then .ok (.foreign t) else .error .cls
      | some (.tracked n) =>
        match s.handover n with
        | none => if high then .ok (.relocation n) else .error .notYours
        | some h =>
          if h.state = .staged ∧ (h.taker = .addr a ∨ h.taker = .any) then
            if h.uncertain then .error .uncertain else .ok (.taker n)
          else if high then .ok (.relocation n) else .error .notYours
    let setRefusal : Option Status :=
      if r.slot = .empty then some .unloaded
      else if tag = 0 then some .badTag
      else if tag ≠ carried then some .tagMismatch
      else if (s.col c).retired then some .retired
      else if s.lockFlags.getD d.group false then some .locked
      else if (s.col c).verification = .unverified then some .unverified
      else none
    let verdict : Except Status (Option SetHalf × Option LiftHalf) :=
      match kind, setRefusal with
      | .scan, _ => .ok (none, none)
      | .set, some e => .error e
      | .set, none => (setHalf true).map fun p => (some p, none)
      | .lift, _ =>
        if r.slot ≠ .empty then .error .loaded else liftHalf.map fun l => (none, some l)
      | .swap, some e => .error e
      | .swap, none =>
        match liftHalf with
        | .error e => .error e
        | .ok l => (setHalf false).map fun p => (some p, some l)
    let stopped := fun h : Handover => h.deadline.map fun q => { q with cond := .stopped }
    exec (.opStart addr [b, k, t3, t2, t1, t0]) s = .next
      (match verdict with
        | .error e => s.send a (.refused e (.column c))
        | .ok (p, l) =>
          let setBegun : State :=
            match p with
            | some (.reserved n) =>
              s.modHandover n fun h => { h with state := .setting, deadline := stopped h }
            | some (.relocation n) => s.modHandover n fun h => { h with deadline := stopped h }
            | _ => s
          let begun : State :=
            match l with
            | some (.taker n) | some (.relocation n) =>
              setBegun.modHandover n fun h : Handover =>
                { h with state := .lifting, deadline := stopped h }
            | _ => setBegun
          let takes : Bool :=
            match kind, p with
            | .set, some (.relocation _) | .set, some (.untracked _) => true
            | _, _ => false
          let records : List Nat :=
            (p.bind SetHalf.handover).toList ++ (l.bind LiftHalf.handover).toList
          let held : State := begun.modCol c fun q : Column =>
            { q with
              inbound := q.inbound || takes
              op := some
                { kind := kind, robot := a, setHalf := p, liftHalf := l,
                  priors := records.filterMap fun n => (s.handover n).map fun h : Handover => (n, h.state),
                  inboundTaken := takes, startedAt := s.time,
                  limit := s.params.operationLimit * 1000 } }
          let told : State :=
            if s.audit.state = AuditState.calling ∧ s.audit.called = some c then
              { held with audit := { held.audit with state := .executing } }
            else held
          told.send a (.go c kind (s.params.operationLimit * 1000) p l)).startTx

/-- OP_END is checked in the order LOST, UNKNOWN_COLUMN, NO_OPERATION, OUT_OF_RANGE; a refused one
changes nothing, and an operation it named stays in flight (R91). -/
def Obligations.OperationEndChecksInOrder : Prop :=
  ∀ (addr b res h t3 t2 t1 t0 : Byte) (r : Robot) (s : State), s.robot addr.toNat = some r →
    let a := addr.toNat
    let c := b.toNat
    let refuses := fun e => exec (.opEnd addr [b, res, h, t3, t2, t1, t0]) s =
      .next (s.send a (.refused e (.column c))).startTx
    let working := ∃ o, (s.col c).op = some o ∧ o.robot = a
    (r.state = .lost → refuses .lost) ∧
    (r.state ≠ .lost → s.defn c = none → refuses .unknownColumn) ∧
    (∀ d, r.state ≠ .lost → s.defn c = some d →
      (¬working → refuses .noOperation) ∧
      (working → (1 < res.toNat ∨ 4 < h.toNat) → refuses .outOfRange))

/-- An OK OP_END (R92 to R98, R132): the stack change of its halves, inbound and the record removed,
the settle mark but for a SCAN, the observation compared with the new stack, DISCREPANCY added on a
MISMATCH and the doubts removed by a credited SCAN, verification and seen, the grace of a revoked
grant started (R67), the slot (R93), and ACCEPTED with the comparison. The call on the column is
settled, failed or goes back to CALLING (R132). A remap pending on the column completes when it is
ready (R19, R20). The notices are, in this order: HANDOVER_DONE of a bin lifted by its taker (R52),
DISCREPANCY of a MISMATCH with both views (R97), COLUMN_UNVERIFIED of a call that fails (R132,
R135), REMAP_DONE (R94). The other columns, the zones and the other robots stay. Where a half names
no record, which R79 rules out, the statement says what the model does (log 22). -/
def Obligations.OkEndAppliesTheOperation : Prop :=
  ∀ (addr b h t3 t2 t1 t0 : Byte) (r : Robot) (d : Defn) (o : Operation) (s : State),
    let a := addr.toNat
    let c := b.toNat
    let tag : BinTag := be32 t3 t2 t1 t0
    s.robot a = some r → r.state ≠ .lost → s.defn c = some d → (s.col c).op = some o →
    o.robot = a → h.toNat ≤ 4 →
    let k := s.col c
    let pushed : List Entry :=
      match o.setHalf with
      | some (.reserved n) | some (.relocation n) => [.tracked n]
      | some (.untracked t) => [.foreign t]
      | none => []
    let stack := (if o.liftHalf = none then k.stack else k.stack.dropLast) ++ pushed
    ∃ t : State,
      let result : Compare :=
        if h.toNat ≠ stack.length then .mismatch
        else
          match stack.getLast? with
          | none => .credited
          | some e =>
            if tag = 0 then .heightOnly
            else if tag = t.entryTag e then .credited else .mismatch
      let called := s.audit.called = some c
      let spare := (List.range 96).find? fun e =>
        (s.defn e).map (·.zone) == some d.zone && (s.mappedBy e).isNone && !(s.col e).retired
      let complete : List NoticeBody :=
        match o.liftHalf with
        | some (.taker n) =>
          match s.handover n with
          | some q => [.handoverDone n q.tag q.giver a q.relocations (s.time - q.openedAt)]
          | none => []
        | _ => []
      let differs : List NoticeBody :=
        if result = .mismatch then
          [.discrepancy c (s.mappedBy c) o.kind a .ok stack.length (stack.getLast?.map t.entryView)
            h.toNat tag]
        else []
      let fails : List NoticeBody :=
        if called ∧ result = .heightOnly ∧ s.audit.overdue then
          [.columnUnverified c (s.mappedBy c) d.zone .callExpired k.verification k.causes
            stack.length]
        else []
      let remaps : List NoticeBody :=
        match s.mappedBy c with
        | some x =>
          if (s.xp x).map (·.remapPending) = some true ∧ stack = [] ∧ t.reservations c = 0 ∧
              (t.col c).inbound = false then [.remapDone x c spare]
          else []
        | none => []
      exec (.opEnd addr [b, 0, h, t3, t2, t1, t0]) s =
        .next (t.send a (.accepted (.compared c result))).startTx ∧
      t.col c =
        { k with
          stack := stack
          op := none
          inbound := if o.inboundTaken then false else k.inbound
          settleMark := if o.kind = .scan then k.settleMark else some ⟨s.time, d.settle⟩
          causes :=
            if result = .mismatch then { k.causes with discrepancy := true }
            else if result = .credited ∧ o.kind = .scan then ⟨false, false, k.causes.zone⟩
            else k.causes
          verification :=
            if result = .credited then
              (if called ∨ k.verification = .unverified then .fresh else k.verification)
            else if result = .heightOnly ∧ called ∧ s.audit.overdue then .unverified
            else k.verification
          seen :=
            if called then
              (if result = .heightOnly ∧ ¬s.audit.overdue then k.seen else false)
            else k.seen || result == .credited
          grant := k.grant.map fun g =>
            if g.revoke = none then g
            else { g with grace := some (s.params.releaseGrace * 1000) } } ∧
      (∀ e, e ≠ c → t.col e = s.col e) ∧
      t.robot a = some
        { r with
          slot :=
            match o.liftHalf with
            | some (.taker n) =>
              match s.handover n with
              | some q => .untracked q.tag
              | none => if o.setHalf = none then r.slot else .empty
            | some (.relocation n) => .tracked n
            | some (.foreign u) => .untracked u
            | none => if o.setHalf = none then r.slot else .empty
          loadConfirmed :=
            match o.liftHalf with
            | some (.relocation _) => true
            | some (.taker n) =>
              if s.handover n = none ∧ o.setHalf = none then r.loadConfirmed else false
            | some (.foreign _) => false
            | none => if o.setHalf = none then r.loadConfirmed else false } ∧
      (o.records.Nodup →
        t.link = (s.notifyAll (complete ++ differs ++ fails ++ remaps)).link) ∧
      t.xpMap =
        (match s.mappedBy c with
          | some x =>
            if remaps = [] then s.xpMap else updateAt s.xpMap x fun _ => spare.map (⟨·, false⟩)
          | none => s.xpMap) ∧
      t.audit =
        (if called then
          (if result = .heightOnly ∧ ¬s.audit.overdue then { s.audit with state := .calling }
          else
            { s.audit with
              state := .idle, called := none, callLimit := none, overdue := false,
              pointer := if c < 95 then c + 1 else 0 })
        else s.audit) ∧
      (∀ e, e ≠ a → t.robot e = s.robot e) ∧ t.zones = s.zones ∧ t.params = s.params ∧
      t.lockFlags = s.lockFlags ∧ t.lastNumber = s.lastNumber ∧ t.time = s.time

/-- What an OK OP_END does to the records of its halves: a bin set stands on top of the column, STAGED
with a fresh COLLECT deadline or PARKED for taker NONE, a relocation counted (R50); a bin lifted by
relocation is CARRIED with a fresh STAGE deadline (R51); a bin lifted by its taker is complete (R52).
A credited end clears the uncertain flag of the records of its halves and of the one its new top entry
names, and any other end and record leaves the flag as it was (R96, R54). The deadlines of the other
records on the column are suspended by a MISMATCH and judged again by a credited SCAN, stopped ones
excepted, and stay at any other end (R97, R98, R43). Records not on the column, and named by no half
nor by its top entry, stay. -/
def Obligations.OkEndMovesTheRecords : Prop :=
  ∀ (addr b h t3 t2 t1 t0 : Byte) (r : Robot) (d : Defn) (o : Operation) (s : State),
    let a := addr.toNat
    let c := b.toNat
    s.robot a = some r → r.state ≠ .lost → s.defn c = some d → (s.col c).op = some o →
    o.robot = a → h.toNat ≤ 4 → o.records.Nodup →
    let tag : BinTag := be32 t3 t2 t1 t0
    let pushed : List Entry :=
      match o.setHalf with
      | some (.reserved n) | some (.relocation n) => [.tracked n]
      | some (.untracked u) => [.foreign u]
      | none => []
    let stack :=
      (if o.liftHalf = none then (s.col c).stack else (s.col c).stack.dropLast) ++ pushed
    ∃ t : State,
      let credited := h.toNat = stack.length ∧
        (stack = [] ∨ ∃ e, stack.getLast? = some e ∧ tag ≠ 0 ∧ tag = t.entryTag e)
      let differs := h.toNat ≠ stack.length ∨
        ∃ e, stack.getLast? = some e ∧ tag ≠ 0 ∧ tag ≠ t.entryTag e
      exec (.opEnd addr [b, 0, h, t3, t2, t1, t0]) s = .next t ∧
      (∀ n q, s.handover n = some q →
        (o.setHalf = some (.reserved n) ∨ o.setHalf = some (.relocation n)) →
        ∃ q', t.handover n = some q' ∧ q'.tag = q.tag ∧ q'.taker = q.taker ∧
          q'.column = some c ∧ q'.custody = .column c ((t.col c).stack.length - 1) ∧
          q'.state = (if q.taker = .none then .parked else .staged) ∧
          q'.deadline = (if q.taker = .none then none
            else some ⟨.collect, s.params.collectLimit * 1000,
              if t.suspends c then .suspended else .running⟩) ∧
          q'.relocations =
            (if o.setHalf = some (.relocation n) ∧ q.relocations < 255 then q.relocations + 1
            else q.relocations)) ∧
      (∀ n q, s.handover n = some q → o.liftHalf = some (.relocation n) →
        ∃ q', t.handover n = some q' ∧ q'.tag = q.tag ∧ q'.taker = q.taker ∧ q'.column = none ∧
          q'.custody = .robot a ∧ q'.state = .carried ∧
          q'.deadline = some ⟨.stage, s.params.stageLimit * 1000, .running⟩ ∧
          q'.relocations = q.relocations) ∧
      (∀ n, o.liftHalf = some (.taker n) → t.handover n = none) ∧
      (∀ n q q', s.handover n = some q → t.handover n = some q' →
        let involved := n ∈ o.records ∨ stack.getLast? = some (.tracked n)
        (credited → involved → q'.uncertain = false) ∧
        (¬(credited ∧ involved) → q'.uncertain = q.uncertain)) ∧
      (∀ n q, s.handover n = some q → n ∉ o.records → q.column = some c →
        let judged : Handover :=
          { q with
            deadline := q.deadline.map fun e =>
              if e.cond = .stopped then e
              else { e with cond := if t.suspends c then .suspended else .running } }
        ∃ q', t.handover n = some q' ∧
          ((differs ∨ (credited ∧ o.kind = .scan)) →
            { q' with uncertain := q.uncertain } = judged) ∧
          (¬(differs ∨ (credited ∧ o.kind = .scan)) → { q' with uncertain := q.uncertain } = q) ∧
          (differs → t.suspends c = true)) ∧
      (∀ n q, s.handover n = some q → n ∉ o.records → q.column ≠ some c →
        Entry.tracked n ∉ (t.col c).stack → t.handover n = some q)

/-- A FAILED OP_END applies nothing (R99): stack, custody and slot stay; the records return to their
prior states with their deadlines resumed, RUNNING or SUSPENDED as R43 gives, and their uncertain
flags as they were (R53); inbound and the record are removed; a MISMATCH adds DISCREPANCY, which
suspends the deadlines of the column's other records, and nothing is credited (R99, R97); the
failure is counted on a column that is not retired and may retire it (R11, R12); the grace of a
revoked grant starts. A call on the column fails (R132). A remap that is then pending and ready
completes (R19, R20); the notices are, in this order: DISCREPANCY of a MISMATCH (R97),
COLUMN_UNVERIFIED of the failed call (R135), COLUMN_RETIRED (R14), REMAP_DONE. The premise of that
clause, that no two XPs map one column, is R16. -/
def Obligations.FailedEndReturnsTheRecords : Prop :=
  ∀ (addr b h t3 t2 t1 t0 : Byte) (r : Robot) (d : Defn) (o : Operation) (s : State),
    let a := addr.toNat
    let c := b.toNat
    let tag : BinTag := be32 t3 t2 t1 t0
    s.robot a = some r → r.state ≠ .lost → s.defn c = some d → (s.col c).op = some o →
    o.robot = a → h.toNat ≤ 4 → (o.priors.map Prod.fst).Nodup →
    let k := s.col c
    let result : Compare :=
      if h.toNat ≠ k.stack.length then .mismatch
      else
        match k.stack.getLast? with
        | none => .credited
        | some e =>
          if tag = 0 then .heightOnly else if tag = s.entryTag e then .credited else .mismatch
    let called := s.audit.called = some c
    let retires := k.retired = false ∧ s.params.faultThreshold ≤ k.faultCount + 1
    let spare := (List.range 96).find? fun e =>
      (s.defn e).map (·.zone) == some d.zone && (s.mappedBy e).isNone && !(s.col e).retired
    ∃ t : State,
      let differs : List NoticeBody :=
        if result = .mismatch then
          [.discrepancy c (s.mappedBy c) o.kind a .failed k.stack.length
            (k.stack.getLast?.map s.entryView) h.toNat tag]
        else []
      let fails : List NoticeBody :=
        if called then
          [.columnUnverified c (s.mappedBy c) d.zone .opFailed k.verification (t.col c).causes
            k.stack.length]
        else []
      let tells : List NoticeBody :=
        if retires then
          [.columnRetired c d.x d.y d.zone .faults (k.faultCount + 1) (some (.opFailed o.kind a))
            (s.mappedBy c) k.stack.length (t.reservations c) (t.col c).inbound]
        else []
      let remaps : List NoticeBody :=
        match s.mappedBy c with
        | some x =>
          if (retires ∨ (s.xp x).map (·.remapPending) = some true) ∧ k.stack = [] ∧
              t.reservations c = 0 ∧ (t.col c).inbound = false then [.remapDone x c spare]
          else []
        | none => []
      exec (.opEnd addr [b, 1, h, t3, t2, t1, t0]) s =
        .next (t.send a (.accepted (.compared c result))).startTx ∧
      t.col c =
        { k with
          op := none
          inbound := if o.inboundTaken then false else k.inbound
          causes := if result = .mismatch then { k.causes with discrepancy := true } else k.causes
          verification := if called then .unverified else k.verification
          seen := if called then false else k.seen
          faultCount := if k.retired then k.faultCount else k.faultCount + 1
          lastFault := if k.retired then k.lastFault else some (.opFailed o.kind a)
          retired := k.retired || decide retires
          grant := k.grant.map fun g =>
            if g.revoke = none then g
            else { g with grace := some (s.params.releaseGrace * 1000) } } ∧
      (∀ e, e ≠ c → t.col e = s.col e) ∧ t.roster = s.roster ∧ t.zones = s.zones ∧
      (s.MapInjective →
        t.link = (s.notifyAll (differs ++ fails ++ tells ++ remaps)).link ∧
        t.xpMap =
          (match s.mappedBy c with
            | some x =>
              if remaps ≠ [] then updateAt s.xpMap x fun _ => spare.map (⟨·, false⟩)
              else if retires then updateAt s.xpMap x fun _ => some ⟨c, true⟩
              else s.xpMap
            | none => s.xpMap)) ∧
      t.audit =
        (if called then
          { s.audit with
            state := .idle, called := none, callLimit := none, overdue := false,
            pointer := if c < 95 then c + 1 else 0 }
        else s.audit) ∧
      (∀ n q st, s.handover n = some q → (n, st) ∈ o.priors →
        let parks := st = .staged ∧ q.taker = .none
        let held := q.column.any t.suspends
        t.handover n = some
          { q with
            state := if parks then .parked else st
            deadline :=
              if parks then none
              else q.deadline.map fun e =>
                { e with cond := if held then .suspended else .running } }) ∧
      (∀ n q, s.handover n = some q → n ∉ o.priors.map Prod.fst →
        t.handover n = some
          (if result = .mismatch ∧ q.column = some c then
            { q with
              deadline := q.deadline.map fun e =>
                if e.cond = .stopped then e else { e with cond := .suspended } }
          else q))

/-- The operation limit runs out (R100, R101): the operation is cut off, its records returned with the
uncertain flag set and their deadlines resumed (R53), inbound released and SUSPECT added, which
suspends the deadlines on the column (R43), a call on it failed (R132), a remap that waited completed
(R19); its robot becomes LOST and keeps its slot. The stack, custody and
the fault count stay, and no settle mark is written. Then the grant ends, whatever transition is under
way, ROBOT_LOST, COLUMN_SUSPECT, COLUMN_UNVERIFIED and REMAP_DONE are issued in that order, and the
column is handed on; what the end of a grant does to a transition in WAITING and what the hand-on does
are stated of State.endGrant and State.handOn by themselves (R64, R160; R61). With no transition under
way the outcome is given whole: a waiting request of a permitted class gets the column, else it is
free. That COLUMN_SUSPECT names the XP before the remap is the model's choice (log 31), as is that a
MODE_CHANGED of the grant's end stands before these notices (log 13). With the limit not run out
nothing happens (log 2). -/
def Obligations.OperationLimitCutsOff : Prop :=
  ∀ (c : Nat) (d : Defn) (o : Operation) (r : Robot) (s : State),
    s.defn c = some d → (s.col c).op = some o → s.robot o.robot = some r →
    (o.priors.map Prod.fst).Nodup →
    (o.limit ≠ 0 → exec (.operationLimitExpiry c) s = .next s) ∧
    (o.limit = 0 →
      let k := s.col c
      let called := s.audit.called = some c
      let spare := (List.range 96).find? fun e =>
        (s.defn e).map (·.zone) == some d.zone && (s.mappedBy e).isNone && !(s.col e).retired
      ∃ u : State,
        let fails : List NoticeBody :=
          if called then
            [.columnUnverified c (s.mappedBy c) d.zone .opCutOff k.verification
              { k.causes with suspect := true } k.stack.length]
          else []
        let remaps : List NoticeBody :=
          match s.mappedBy c with
          | some x =>
            if (s.xp x).map (·.remapPending) = some true ∧ k.stack = [] ∧ u.reservations c = 0 ∧
                (u.col c).inbound = false then [.remapDone x c spare]
            else []
          | none => []
        let notices : List NoticeBody :=
          .robotLost o.robot r.serial .opLimit c r.slot ::
            .columnSuspect c (s.mappedBy c) .opLimit o.robot :: (fails ++ remaps)
        let t := (((u.endGrant c).notifyAll notices).handOn c).startTx
        exec (.operationLimitExpiry c) s = .next t ∧
        u.col c =
          { k with
            op := none
            inbound := if o.inboundTaken then false else k.inbound
            causes := { k.causes with suspect := true }
            verification := if called then .unverified else k.verification
            seen := if called then false else k.seen } ∧
        (∀ e, e ≠ c → u.col e = s.col e) ∧ u.zones = s.zones ∧ u.link = s.link ∧
        u.xpMap =
          (match s.mappedBy c with
            | some x =>
              if remaps = [] then s.xpMap else updateAt s.xpMap x fun _ => spare.map (⟨·, false⟩)
            | none => s.xpMap) ∧
        u.audit =
          (if called then
            { s.audit with
              state := .idle, called := none, callLimit := none, overdue := false,
              pointer := if c < 95 then c + 1 else 0 }
          else s.audit) ∧
        u.robot o.robot = some { r with state := .lost, readyTimer := none } ∧
        (∀ e, e ≠ o.robot → u.robot e = s.robot e) ∧
        (∀ n q st, s.handover n = some q → (n, st) ∈ o.priors →
          let parks := st = .staged ∧ q.taker = .none
          let held := q.column.any u.suspends
          u.handover n = some
            { q with
              state := if parks then .parked else st
              uncertain := true
              deadline :=
                if parks then none
                else q.deadline.map fun e =>
                  { e with cond := if held then .suspended else .running } }) ∧
        u.suspends c = true ∧
        (∀ n q, s.handover n = some q → n ∉ o.priors.map Prod.fst →
          u.handover n = some
            (if q.column = some c then
              { q with
                deadline := q.deadline.map fun e =>
                  if e.cond = .stopped then e else { e with cond := .suspended } }
            else q)) ∧
        (s.zones.trans = none →
          t.zones = s.zones ∧ t.roster = u.roster ∧ t.handovers = u.handovers ∧
          t.link.notices = (s.notifyAll notices).link.notices ∧
          (∀ e, e ≠ c → t.col e = s.col e) ∧
          ((∀ w ∈ k.waits, s.permitted c w.cls = false) →
            t.col c = { u.col c with grant := none }) ∧
          (∀ front w rest, k.waits = front ++ w :: rest →
            (∀ v ∈ front, s.permitted c v.cls = false) → s.permitted c w.cls = true →
            t.col c =
              { u.col c with
                waits := front ++ rest
                grant := some ⟨w.robot, w.cls, some (s.params.holdLimit * 1000), none, none⟩ } ∧
            t.link.fleet =
              (s.send w.robot (.granted c w.cls (s.params.holdLimit * 1000))).link.fleet)))

/-! ### The fleet roster -/

/-- ANNOUNCE is checked in the order of R108 and refused at fleet address 0. One from an unknown
serial takes the lowest free address (R106); its class and level are judged, an ANNOUNCED robot's
ready timer starts, its load tag gives an untracked slot, ADDRESS and ROBOT_ANNOUNCED go out, and a
tag of a handover gives CUSTODY_CONFLICT (R109, R112, R114, R116). Whatever address the frame
carries plays no part. -/
def Obligations.FirstAnnouncementEnrolsTheRobot : Prop :=
  ∀ (addr : Byte) (body : List Byte) (q : Body.Announce) (s : State),
    Body.announce body = .ok q → s.roster.length = 48 →
    let refuses := fun e => exec (.announce addr body) s =
      .next (s.send 0 (.refused e (.serial q.serial))).startTx
    let inRange := q.serial ≠ 0 ∧ q.gripper ≤ 7 ∧ q.level ≤ 15
    let unknown := ∀ a r, s.robot a = some r → r.serial ≠ q.serial
    (s.sectionState = .unconfigured → refuses .notRunning) ∧
    (s.sectionState = .running → ¬inRange → refuses .outOfRange) ∧
    (s.sectionState = .running → inRange → unknown →
      (∀ a, 1 ≤ a → a ≤ 48 → s.robot a ≠ none) → refuses .rosterFull) ∧
    (∀ a, s.sectionState = .running → inRange → unknown →
      1 ≤ a → a ≤ 48 → s.robot a = none → (∀ b, 1 ≤ b → b < a → s.robot b ≠ none) →
      let reason : Option InactiveReason :=
        if s.params.acceptedClasses.getLsbD q.gripper = false then some .cls
        else if q.level < s.params.minLevel then some .level
        else none
      let slot : Slot := if q.load = 0 then .empty else .untracked q.load
      let state : RobotState := if reason = none then .announced else .inactive
      let written := s.setRobot a (some
        { serial := q.serial, boot := q.boot, gripper := q.gripper, level := q.level,
          state := state, maxClass := none, admitPending := false, slot := slot,
          loadConfirmed := false,
          readyTimer := if reason = none then some (s.params.readyLimit * 1000) else none,
          lastInactive := reason })
      let told := (written.send 0 (.address q.serial a state reason)).notify
        (.robotAnnounced a q.serial q.boot q.gripper q.level state reason slot)
      exec (.announce addr body) s = .next
        (match if q.load = 0 then none else s.handoverByTag q.load with
          | none => told
          | some h =>
            told.notify (.custodyConflict .trackedElsewhere a q.serial q.load slot h.number h.state
              h.custody)).startTx)

/-- A repeat announcement, with the serial and the boot count of a record, is answered ADDRESS again
at fleet address 0 with serial, address, state and, for INACTIVE, the last inactive reason, and
changes nothing else in any block, in every state of the robot (R110). A free transmitter then takes
a waiting frame, if there is one (R190). -/
def Obligations.RepeatAnnouncementIsAnsweredAgain : Prop :=
  ∀ (addr : Byte) (body : List Byte) (q : Body.Announce) (a : Nat) (r : Robot) (s : State),
    Body.announce body = .ok q → s.sectionState = .running →
    q.serial ≠ 0 → q.gripper ≤ 7 → q.level ≤ 15 →
    s.robot a = some r → r.serial = q.serial → r.boot = q.boot →
    (∀ b k, s.robot b = some k → k.serial = q.serial → b = a) →
    exec (.announce addr body) s = .next
      (s.send 0 (.address r.serial a r.state
        (if r.state = .inactive then r.lastInactive else none))).startTx

/-- A restart (R118, R119), an ANNOUNCE of a known serial with another boot count, in every state of
the robot. The record takes boot count, class and level and is judged again, its admission gone; a
tracked bin stays in the slot, uncertain, confirmed by its own tag, and another tag gives WRONG_BIN;
an untracked slot is set from the load tag. The robot's request leaves its list. Its operation is cut
off: stack and fault count stay, SUSPECT is added. Its grant ends and the column is handed on,
whatever transition is under way; what the two do is stated of State.endGrant and State.handOn by
themselves, and given whole where no transition is under way. ROBOT_RESTARTED comes first of the
notices, and ADDRESS goes to address 0. That ADDRESS carries the inactive reason beside serial,
address and state is the model's choice (log 15). -/
def Obligations.RestartTakesTheRobotsWorkBack : Prop :=
  ∀ (addr : Byte) (body : List Byte) (q : Body.Announce) (a : Nat) (r : Robot) (s : State),
    Body.announce body = .ok q → s.sectionState = .running →
    q.serial ≠ 0 → q.gripper ≤ 7 → q.level ≤ 15 →
    s.robot a = some r → r.serial = q.serial → r.boot ≠ q.boot →
    (∀ b k, s.robot b = some k → k.serial = q.serial → b = a) →
    (∀ n, r.slot = .tracked n → s.handover n ≠ none) →
    let reason : Option InactiveReason :=
      if s.params.acceptedClasses.getLsbD q.gripper = false then some .cls
      else if q.level < s.params.minLevel then some .level
      else none
    let state : RobotState := if reason = none then .announced else .inactive
    let slot : Slot :=
      match r.slot with
      | .tracked n => .tracked n
      | _ => if q.load = 0 then .empty else .untracked q.load
    let confirmed : Bool :=
      match r.slot with
      | .tracked n => r.loadConfirmed || (s.handover n).map (·.tag) == some q.load
      | _ => false
    let r' : Robot :=
      { r with
        boot := q.boot, gripper := q.gripper, level := q.level, state := state, maxClass := none,
        admitPending := false, slot := slot, loadConfirmed := confirmed,
        readyTimer := if reason = none then some (s.params.readyLimit * 1000) else none,
        lastInactive := if reason = none then r.lastInactive else reason }
    let address : FleetMsg := .address r.serial a state reason
    (s.grantedTo a = none → s.workingOn a = none →
      let told := s.notify
        (.robotRestarted a r.serial r.boot q.boot r.state state reason none (s.waitingOn a) none slot
          confirmed)
      let left :=
        match s.waitingOn a with
        | some c => told.modCol c fun k =>
          { k with waits := k.waits.filter fun w => w.robot ≠ a }
        | none => told
      let marked :=
        match r.slot with
        | .tracked n => left.modHandover n fun h => { h with uncertain := true }
        | _ => left
      let written := marked.setRobot a (some r')
      let conflicted :=
        match r.slot with
        | .tracked n =>
          match s.handover n with
          | some h =>
            if q.load = 0 ∨ q.load = h.tag then written
            else written.notify
              (.custodyConflict .wrongBin a r.serial q.load slot h.number h.state h.custody)
          | none => written
        | _ =>
          match if q.load = 0 then none else s.handoverByTag q.load with
          | some h =>
            written.notify
              (.custodyConflict .trackedElsewhere a r.serial q.load slot h.number h.state h.custody)
          | none => written
      exec (.announce addr body) s = .next (conflicted.send 0 address).startTx) ∧
    (∃ t : State,
      exec (.announce addr body) s = .next (t.send 0 address).startTx ∧
      t.robot a = some r' ∧ (∀ b, b ≠ a → t.robot b = s.robot b) ∧
      (s.link.notices.length < 32 → ∃ (grant : Option (Nat × Cls)) (op : Option (OpKind × Nat))
          (rest : List Notice),
        t.link.notices = s.link.notices ++
          ⟨s.link.nextSeq, s.time,
            .robotRestarted a r.serial r.boot q.boot r.state state reason grant (s.waitingOn a) op
              slot confirmed⟩ :: rest ∧
        (∀ c g, s.grantedTo a = some c → (s.col c).grant = some g → grant = some (c, g.cls)) ∧
        (s.grantedTo a = none → grant = none) ∧
        (∀ c o, s.workingOn a = some c → (s.col c).op = some o → op = some (o.kind, c)) ∧
        (s.workingOn a = none → op = none)) ∧
      (∀ n h, r.slot = .tracked n → s.handover n = some h →
        ∃ h', t.handover n = some h' ∧ h'.uncertain = true ∧ h'.custody = h.custody) ∧
      (∀ c o, s.workingOn a = some c → (s.col c).op = some o →
        (t.col c).op = none ∧ (t.col c).causes.suspect = true ∧
        (t.col c).inbound = (if o.inboundTaken then false else (s.col c).inbound) ∧
        (t.col c).stack = (s.col c).stack ∧ (t.col c).faultCount = (s.col c).faultCount) ∧
      (∀ c, s.grantedTo a = some c →
        ∃ u : State,
          u.zones = s.zones ∧ u.roster = s.roster ∧
          (∀ e, s.workingOn a ≠ some e → u.col e = s.col e) ∧
          (∀ e o, s.workingOn a = some e → (s.col e).op = some o →
            u.col e =
              { s.col e with
                op := none
                inbound := if o.inboundTaken then false else (s.col e).inbound
                causes := { (s.col e).causes with suspect := true }
                verification :=
                  if s.audit.called = some e then .unverified else (s.col e).verification
                seen := if s.audit.called = some e then false else (s.col e).seen }) ∧
          t.columns = ((u.endGrant c).handOn c).columns ∧
          t.zones = ((u.endGrant c).handOn c).zones) ∧
      (∀ c, s.grantedTo a = some c → s.zones.trans = none →
        (∀ e, e ≠ c → s.workingOn a ≠ some e → t.col e = s.col e) ∧
        ((∀ w ∈ (s.col c).waits, s.permitted c w.cls = false) →
          (t.col c).grant = none ∧ (t.col c).waits = (s.col c).waits) ∧
        (∀ front w rest, (s.col c).waits = front ++ w :: rest →
          (∀ v ∈ front, s.permitted c v.cls = false) → s.permitted c w.cls = true →
          (t.col c).waits = front ++ rest ∧
          (t.col c).grant =
            some ⟨w.robot, w.cls, some (s.params.holdLimit * 1000), none, none⟩)))

/-- READY is taken by the robot's state (R111): ANNOUNCED becomes READY, or ACTIVE with the max
class stored at admission when admit-pending is set, the ready timer absent and admit-pending clear;
READY and ACTIVE stay; LOST and INACTIVE are refused and stay. A taken READY is answered ACCEPTED
with the state after it. Nothing else changes, and no notice is issued. A free transmitter then
takes a waiting frame, if there is one (R190). -/
def Obligations.ReadyIsTakenByState : Prop :=
  ∀ (addr : Byte) (r : Robot) (s : State), s.robot addr.toNat = some r →
    let a := addr.toNat
    let gives := fun t : State => exec (.ready addr []) s = .next t.startTx
    (r.state = .announced →
      let state : RobotState := if r.admitPending then .active else .ready
      gives ((s.setRobot a (some { r with
        state := state, admitPending := false, readyTimer := none })).send a
        (.accepted (.state state)))) ∧
    (r.state = .ready ∨ r.state = .active → gives (s.send a (.accepted (.state r.state)))) ∧
    (r.state = .lost → gives (s.send a (.refused .lost .none))) ∧
    (r.state = .inactive → gives (s.send a (.refused .inactive .none)))

/-- ADMIT (R113) is refused UNKNOWN_ROBOT, OUT_OF_RANGE, INACTIVE or WRONG_STATE in that order; it
stores the max class of an ANNOUNCED robot with admit-pending, and makes a READY or LOST robot
ACTIVE. DISMISS (R121) is refused UNKNOWN_ROBOT, CUSTODIAN or BUSY; else the robot is told, leaves
every record that names it as taker (R39) and its address is free. The ready limit that runs out in
ANNOUNCED makes the robot INACTIVE with NOT_READY and ends its admission (R112); one that has not
run out changes nothing (log 2). That the ADDRESS of the ready limit carries the reason NOT_READY
beside serial, address and state is the model's choice (log 15). -/
def Obligations.AdmissionReadyLimitAndDismissal : Prop :=
  (∀ (tag : Word16) (body : List Byte) (ref : RobotRef) (k : Byte) (s : State),
    Body.admission body = .ok (ref, k) → s.sectionState = .running → Takes tag s →
    let u := s.intake 6 tag body
    let answers := fun (t : State) st b => exec (.admitRobot tag body) s = .next (t.answered 6 tag st b)
    let found := fun a r => s.robot a = some r ∧
      (ref = .address a ∨ ref = .serial r.serial ∧
        ∀ b k, s.robot b = some k → k.serial = r.serial → a ≤ b)
    ((∀ a r, ¬found a r) → answers u .unknownRobot .none) ∧
    (∀ a r, found a r →
      (3 < k.toNat → answers u .outOfRange .none) ∧
      (∀ w, Cls.ofByte? k = some w →
        (r.state = .inactive → answers u .inactive .none) ∧
        (r.state = .active → answers u .wrongState .none) ∧
        (r.state = .announced →
          answers (u.setRobot a (some { r with maxClass := some w, admitPending := true })) .ok
            (.admitted a r.serial w .announced)) ∧
        (r.state = .ready ∨ r.state = .lost →
          answers ((u.setRobot a (some { r with maxClass := some w, state := .active })).send 0
            (.address r.serial a .active none)) .ok (.admitted a r.serial w .active))))) ∧
  (∀ (tag : Word16) (body : List Byte) (ref : RobotRef) (s : State),
    Body.robot body = .ok ref → s.sectionState = .running → Takes tag s →
    let u := s.intake 7 tag body
    let answers := fun (t : State) st b => exec (.dismiss tag body) s = .next (t.answered 7 tag st b)
    let found := fun a r => s.robot a = some r ∧
      (ref = .address a ∨ ref = .serial r.serial ∧
        ∀ b k, s.robot b = some k → k.serial = r.serial → a ≤ b)
    ((∀ a r, ¬found a r) → answers u .unknownRobot .none) ∧
    (∀ a r, found a r →
      (∀ n, r.slot = .tracked n → answers u .custodian (.custodian n)) ∧
      ((∀ n, r.slot ≠ .tracked n) →
        (s.grantedTo a ≠ none ∨ s.waitingOn a ≠ none → answers u .busy .none) ∧
        (s.grantedTo a = none → s.waitingOn a = none →
          let left : State :=
            { u.send a .dismissed with
              handovers := s.handovers.map fun h =>
                if h.taker ≠ .addr a then h
                else if h.state = .staged then
                  { h with state := .parked, taker := .none, deadline := none }
                else { h with taker := .none } }
          answers (left.setRobot a none) .ok
            (.dismissed a r.serial r.slot (s.handovers.countP fun h => h.taker == .addr a)))))) ∧
  (∀ (a : Nat) (r : Robot) (s : State), s.robot a = some r →
    (r.state = .announced → r.readyTimer = some 0 →
      exec (.readyLimitExpiry a) s = .next
        (((s.setRobot a (some { r with
            state := .inactive, lastInactive := some .notReady, maxClass := none,
            admitPending := false, readyTimer := none })).send 0
          (.address r.serial a .inactive (some .notReady))).notify
          (.robotInactive a r.serial .notReady)).startTx) ∧
    (¬(r.state = .announced ∧ r.readyTimer = some 0) →
      exec (.readyLimitExpiry a) s = .next s))

/-- LOAD_REPORT is taken in every robot state (R115, R116): on a tracked slot the bin's own tag
confirms, 0 is noted and any other tag is a WRONG_BIN conflict; on another slot it writes the slot,
with TRACKED_ELSEWHERE when the tag is that of a handover, unless an operation of the robot is in
flight. DROP_OFF (R117) is refused TRACKED_LOAD, then BUSY, else empties the slot. -/
def Obligations.LoadReportsAndDropOffWriteTheSlot : Prop :=
  ∀ (addr t3 t2 t1 t0 : Byte) (r : Robot) (s : State), s.robot addr.toNat = some r →
    let a := addr.toNat
    let tag : BinTag := be32 t3 t2 t1 t0
    let reports := fun t : State => exec (.loadReport addr [t3, t2, t1, t0]) s = .next t.startTx
    let drops := fun t : State => exec (.dropOff addr []) s = .next t.startTx
    (∀ n h, r.slot = .tracked n → s.handover n = some h →
      (tag = 0 → reports (s.send a (.accepted (.load .noted)))) ∧
      (tag ≠ 0 → tag = h.tag →
        reports ((s.setRobot a (some { r with loadConfirmed := true })).send a
          (.accepted (.load .confirmed)))) ∧
      (tag ≠ 0 → tag ≠ h.tag →
        reports ((s.notify (.custodyConflict .wrongBin a r.serial tag r.slot h.number h.state
          h.custody)).send a (.accepted (.load .conflict))))) ∧
    (∀ n, r.slot = .tracked n → drops (s.send a (.refused .trackedLoad .none))) ∧
    ((∀ n, r.slot ≠ .tracked n) → s.workingOn a ≠ none →
      reports (s.send a (.accepted (.load .inFlight))) ∧
      drops (s.send a (.refused .busy .none))) ∧
    ((∀ n, r.slot ≠ .tracked n) → s.workingOn a = none →
      let slot : Slot := if tag = 0 then .empty else .untracked tag
      let written := s.setRobot a (some { r with slot := slot, loadConfirmed := false })
      reports
        (match if tag = 0 then none else s.handoverByTag tag with
          | none => written.send a (.accepted (.load .noted))
          | some h =>
            (written.notify (.custodyConflict .trackedElsewhere a r.serial tag slot h.number h.state
              h.custody)).send a (.accepted (.load .conflict))) ∧
      drops ((s.setRobot a (some { r with slot := .empty, loadConfirmed := false })).send a
        (.accepted .none)))

/-- QUERY_ROBOT (R122) and QUERY_ZONES (R171) are taken in both section states, report the records as
they stand and change nothing. -/
def Obligations.RobotAndZoneQueriesReportTheRecords : Prop :=
  (∀ (tag : Word16) (body : List Byte) (ref : RobotRef) (s : State),
    Body.robot body = .ok ref → Takes tag s →
    let answers := fun st b => exec (.queryRobot tag body) s =
      .next ((s.intake 8 tag body).answered 8 tag st b)
    let found := fun a r => s.robot a = some r ∧
      (ref = .address a ∨ ref = .serial r.serial ∧
        ∀ b k, s.robot b = some k → k.serial = r.serial → a ≤ b)
    ((∀ a r, ¬found a r) → answers .unknownRobot .none) ∧
    (∀ a r, found a r → ∃ v, answers .ok (.robot v) ∧
      v.address = a ∧ v.robot = r ∧
      (r.slot = .empty → v.slot = .empty) ∧
      (∀ t, r.slot = .untracked t → v.slot = .untracked t) ∧
      (∀ n h, r.slot = .tracked n → s.handover n = some h →
        v.slot = .tracked n h.state h.uncertain r.loadConfirmed) ∧
      (∀ c g, s.grantedTo a = some c → (s.col c).grant = some g → v.standing = .grant c g) ∧
      (s.grantedTo a = none → s.waitingOn a = none → v.standing = .none) ∧
      (∀ c front w rest, s.grantedTo a = none → s.waitingOn a = some c →
        (s.col c).waits = front ++ w :: rest → w.robot = a → (∀ q ∈ front, q.robot ≠ a) →
        v.standing = .waiting c w.cls (front.length + 1)) ∧
      (∀ c o, s.workingOn a = some c → (s.col c).op = some o →
        v.op = some (o.kind, c, s.time - o.startedAt)) ∧
      (s.workingOn a = none → v.op = none) ∧
      v.takerOf = s.handovers.countP fun h => h.taker == .addr a)) ∧
  (∀ (tag : Word16) (s : State), Takes tag s →
    ∃ v : ZonesReport,
      exec (.queryZones tag []) s =
        .next ((s.intake 24 tag []).answered 24 tag .ok (.zones v)) ∧
      v.hold = s.zones.hold ∧ v.holdPending = s.zones.holdPending ∧
      v.trans.map (·.1) = s.zones.trans ∧
      (∀ p, v.trans = some p →
        p.2 = [0, 1, 2, 3].filter fun z =>
          decide ((s.zones.current.get z).level < (p.1.targets.get z).level)) ∧
      ∀ z < 4,
        let columns := (List.range 96).filter fun c => (s.defn c).map (·.zone) == some z
        v.zones.get z =
          { current := s.zones.current.get z
            driven := s.zones.driven.get z
            ack := s.zones.ack.get z
            echoes := s.zones.ack.get z == s.zones.driven.get z
            effective := s.effective z
            defined := columns.length
            zoneFrozen := columns.countP fun c => (s.col c).causes.zone
            holders := columns.countP fun c => (s.col c).grant.isSome
            waiting := (columns.map fun c => (s.col c).waits.length).sum })

/-! ### The audit walk -/

/-- An audit tick acts by the unit's state and starts the timer again at the interval of the mapped
count (R126 to R130). ARMING becomes IDLE; CALLING and EXECUTING ignore it; in IDLE the pointed
column, the mapped one of the lowest index from the pointer on, else of the lowest index, is passed
FRESH with seen cleared, passed as UNVERIFIED, made UNVERIFIED in a CLOSED zone, or called. The call
limit that runs out fails the call in CALLING and marks it overdue in EXECUTING (R133, R135). An
expiry of a timer that has not run out changes nothing (log 2). -/
def Obligations.AuditTickWalksTheMappedColumns : Prop :=
  ∀ s : State,
    let mapped := s.xpMap.countP Option.isSome
    let interval :=
      if mapped = 0 then s.params.auditPeriod * 1000 else s.params.auditPeriod * 1000 / mapped
    let ticks := fun t : State => exec .auditTick s = .next
      { t with audit := { t.audit with tick := some interval, interval := some interval } }.startTx
    let after := fun c : Nat => if c < 95 then c + 1 else 0
    let pointed := fun c => c < 96 ∧ s.mappedBy c ≠ none ∧
      ((s.audit.pointer ≤ c ∧ ∀ e < c, s.audit.pointer ≤ e → s.mappedBy e = none) ∨
        ((∀ e < 96, s.audit.pointer ≤ e → s.mappedBy e = none) ∧ ∀ e < c, s.mappedBy e = none))
    let passes := fun (c : Nat) (t : State) =>
      ticks { t with audit := { t.audit with pointer := after c } }
    (s.audit.tick ≠ some 0 → exec .auditTick s = .next s) ∧
    (s.audit.tick = some 0 →
      (s.audit.state = .arming → ticks { s with audit := { s.audit with state := .idle } }) ∧
      (s.audit.state = .calling ∨ s.audit.state = .executing → ticks s) ∧
      (s.audit.state = .idle →
        ((∀ c < 96, s.mappedBy c = none) → ticks s) ∧
        (∀ c, pointed c →
          let k := s.col c
          let closed := s.effective (s.zoneOf c) = .closed
          let judged := fun v : Verification =>
            s.modCol c fun q => { q with verification := v, seen := false }
          (k.seen = true → passes c (judged .fresh)) ∧
          (k.seen = false → k.verification = .unverified → passes c s) ∧
          (k.seen = false → k.verification ≠ .unverified → closed →
            passes c ((judged .unverified).notify
              (.columnUnverified c (s.mappedBy c) (s.zoneOf c) .zoneClosed k.verification k.causes
                k.stack.length))) ∧
          (k.seen = false → k.verification ≠ .unverified → ¬closed →
            let called : State :=
              { judged .due with
                audit :=
                  { s.audit with
                    state := if k.op = none then .calling else .executing
                    called := some c
                    callLimit := some (s.params.callLimit * 1000)
                    overdue := false } }
            ticks (called.notify
              (.auditDue c (s.mappedBy c) (s.zoneOf c) k.verification k.stack.length
                (k.stack.getLast?.map s.entryView) k.causes k.retired (s.locked c)
                (s.params.callLimit * 1000))))))) ∧
    (s.audit.callLimit ≠ some 0 → exec .callLimitExpiry s = .next s) ∧
    (∀ c, s.audit.callLimit = some 0 → s.audit.called = some c →
      (s.audit.state = .calling →
        let failed : State :=
          { s.modCol c fun q => { q with verification := .unverified, seen := false } with
            audit :=
              { s.audit with
                state := .idle, pointer := after c, called := none, callLimit := none,
                overdue := false } }
        exec .callLimitExpiry s = .next
          (failed.notify
            (.columnUnverified c (s.mappedBy c) (s.zoneOf c) .callExpired (s.col c).verification
              (s.col c).causes (s.col c).stack.length)).startTx) ∧
      (s.audit.state = .executing →
        exec .callLimitExpiry s = .next
          { s with audit := { s.audit with overdue := true, callLimit := none } }.startTx))

/-! ### Zones -/

/-- MODE_REQUEST is checked in the order of R157 and acted on by its class (R158, R159, R161):
unchanged drops a transition in WAITING, pure loosening and the loosening part of a mixed request
enter CHANGING, pure tightening enters WAITING; the columns of the zones whose effective mode the
replacement loosens are handed on, zones ascending and columns ascending in each; a column with a
holder is left as it is (R71, R61). The reply gives the tag, the current modes and the transition
after the request; that of a mixed request is PARTIAL and adds the mixed mark and the zones whose
tightening was dropped. MODE_CANCEL is refused WRONG_STATE or MODE_BUSY, else drops the transition
in WAITING (R162). That the hand-ons come before the new transition's own steps, and the zones in
ascending order, is the model's choice (log 18). -/
def Obligations.ModeRequestIsActedOnByItsClass : Prop :=
  (∀ (tag : Word16) (b0 b1 b2 b3 : Byte) (s : State),
    s.sectionState = .running → Takes tag s →
    let body := [b0, b1, b2, b3]
    let u := s.intake 22 tag body
    let answers := fun (t : State) st b =>
      exec (.modeRequest tag body) s = .next (t.answered 22 tag st b)
    let changing := ∃ t, s.zones.trans = some t ∧ t.state = .changing
    ((∃ b ∈ body, 3 < b.toNat) → answers u .outOfRange .none) ∧
    (∀ q : Quad Mode, b0.toNat = q.z0.level → b1.toNat = q.z1.level → b2.toNat = q.z2.level →
      b3.toNat = q.z3.level →
      let tight := fun z => decide ((s.zones.current.get z).level < (q.get z).level)
      let loose := fun z => decide ((q.get z).level < (s.zones.current.get z).level)
      let replaced := fun t : Option Transition =>
        let w : State := { u with zones := { u.zones with trans := t } }
        ([0, 1, 2, 3].flatMap fun z =>
          if (w.effective z).level < (s.effective z).level then
            (List.range 96).filter fun c => (s.defn c).map (·.zone) == some z
          else []).foldl State.handOn w
      let reply := fun t : State =>
        { tag := tag
          current := t.zones.current
          state := t.zones.trans.map (·.state)
          targets := t.zones.trans.map (·.targets) : ModeReply }
      (s.zones.hold = true ∨ s.zones.holdPending = true → answers u .holdActive .none) ∧
      (s.zones.hold = false → s.zones.holdPending = false → changing →
        answers u .modeBusy .none) ∧
      (s.zones.hold = false → s.zones.holdPending = false → ¬changing →
        ((∀ z < 4, tight z = false ∧ loose z = false) →
          answers (replaced none) .ok (.mode (reply (replaced none)))) ∧
        ((∃ z < 4, loose z = true) →
          let mixed := [0, 1, 2, 3].any tight
          let targets : Quad Mode := Quad.ofFn fun z =>
            if tight z then s.zones.current.get z else q.get z
          let t : Transition :=
            ⟨.changing, .normal, targets, Quad.same 0, .request tag, mixed, none⟩
          let done := (replaced (some t)).enterChanging t
          (mixed = false → answers done .ok (.mode (reply done))) ∧
          (mixed = true → answers done .partialOk (.modePartial (reply done)
            (([0, 1, 2, 3].filter tight).map fun z => (z, s.zones.current.get z, q.get z))))) ∧
        ((∃ z < 4, tight z = true) → (∀ z < 4, loose z = false) →
          let t : Transition :=
            ⟨.waiting, .normal, q, Quad.same 0, .request tag, false, none⟩
          let done := (replaced (some t)).enterWaiting t
          answers done .ok (.mode (reply done)))))) ∧
  (∀ (tag : Word16) (s : State), s.sectionState = .running → Takes tag s →
    let u := s.intake 23 tag []
    let answers := fun (t : State) st b =>
      exec (.modeCancel tag []) s = .next (t.answered 23 tag st b)
    (s.zones.trans = none → answers u .wrongState .none) ∧
    (∀ t, s.zones.trans = some t → t.state = .changing → answers u .modeBusy .none) ∧
    (∀ t, s.zones.trans = some t → t.state = .waiting →
      let w : State := { u with zones := { u.zones with trans := none } }
      answers
        (([0, 1, 2, 3].flatMap fun z =>
          if (w.effective z).level < (s.effective z).level then
            (List.range 96).filter fun c => (s.defn c).map (·.zone) == some z
          else []).foldl State.handOn w)
        .ok (.modeCancelled s.zones.current t.targets)))

/-- A tightening in WAITING revokes the holders its targets forbid and counts them, those already
revoked included; with no such holder it enters CHANGING at once (R160, R66, R70). A transition that
enters CHANGING drives its targets and starts the interlock limit; the deadlines of the records on
the columns of its tightened zones that go to SERVICE or CLOSED are SUSPENDED, stopped ones
excepted, and no other record changes; it succeeds at once when all four zones echo (R163, R43,
R156). The conditions of the transition under way are premises: a NORMAL one. -/
def Obligations.TransitionsEnterWaitingAndChanging : Prop :=
  (∀ (s : State) (t : Transition), t.kind = .normal → s.zones.trans = some t →
    let tight := fun z => (s.zones.current.get z).level < (t.targets.get z).level
    let forbidden := fun z c => c < 96 ∧ (s.defn c).map (·.zone) = some z ∧ tight z ∧
      ∃ g, (s.col c).grant = some g ∧ modePermits (t.targets.get z) g.cls = false
    ∃ (counts : Quad Nat) (revoked : State),
      let w : Transition := { t with state := .waiting, forbidden := counts }
      s.enterWaiting t = (if counts = Quad.same 0 then revoked.enterChanging w else revoked) ∧
      revoked.zones = { s.zones with trans := some w } ∧
      (∀ z < 4, counts.get z = (List.range 96).countP fun c =>
        decide ((s.defn c).map (·.zone) = some z) && decide (tight z) &&
          (match (s.col c).grant with
            | some g => !modePermits (t.targets.get z) g.cls
            | none => false)) ∧
      (∀ c z g, z < 4 → forbidden z c → (s.col c).grant = some g → g.revoke = none →
        revoked.col c =
          { s.col c with
            grant := some { g with
              revoke := some .zoneMode
              holdLimit := none
              grace :=
                if (s.col c).op = none then some (s.params.releaseGrace * 1000) else none } }) ∧
      (∀ c g, (s.col c).grant = some g → g.revoke ≠ none → revoked.col c = s.col c) ∧
      (∀ c, (∀ z < 4, ¬forbidden z c) → revoked.col c = s.col c) ∧
      revoked.handovers = s.handovers ∧ revoked.roster = s.roster) ∧
  (∀ (s : State) (t : Transition), t.kind = .normal →
    ∃ driven : State,
      let w : Transition :=
        { t with
          state := .changing, forbidden := Quad.same 0, limit := some s.params.interlockLimit }
      s.enterChanging t =
        (if s.zones.ack = t.targets then driven.succeed w else driven) ∧
      driven.zones = { s.zones with driven := t.targets, trans := some w } ∧
      driven.columns = s.columns ∧ driven.roster = s.roster ∧ driven.link = s.link ∧
      ∀ n h, s.handover n = some h →
        let stops := ∃ c d, h.column = some c ∧ s.defn c = some d ∧ d.zone < 4 ∧
          (s.zones.current.get d.zone).level < (t.targets.get d.zone).level ∧
          2 ≤ (t.targets.get d.zone).level
        (stops → driven.handover n = some
          { h with
            deadline := h.deadline.map fun e =>
              if e.cond = .stopped then e else { e with cond := .suspended } }) ∧
        (¬stops → driven.handover n = some h))

/-- The filter of a ZONE_ACK pair takes a new level when it has been steady for 2 ms, and a level
that changes again within them is not taken; a change of the raw pair starts the 2 ms anew (R196). A
transition in CHANGING whose last echo comes succeeds: current modes, closure of the newly CLOSED
zones with REFUSED ZONE_CLOSED to each waiting robot, hand-ons, MODE_CHANGED (R156, R164, R165,
R72); the deadlines in zones whose mode changes are judged again and no other record changes. The
hold transition completes: every defined column gains ZONE, the deadlines on it are SUSPENDED,
MODE_CHANGED (R169). A ZONE_ACK pair that does not complete the echo changes no mode. The interlock
limit that runs out fails the transition: the driven modes return, the deadlines of the records in
its tightened zones resume where nothing else suspends them, the tightened zones are handed on,
MODE_FAILED (R166). At the end of a NORMAL transition, success or failure, a pending hold begins its
own, after the end's notice (R167, R168; what State.beginHold does is stated by
GridHoldTakesEveryGrantBack). The model's choices: how the 2 ms are counted (log 35), a level that
is there already and a limit that has not run out change nothing (logs 2, 16), frames of several
columns go zone by zone, columns ascending (logs 18, 19), and the hold's MODE_CHANGED carries a
clear mixed mark (log 15). -/
def Obligations.TransitionsSucceedOrFail : Prop :=
  (∀ (zone : Fin 4) (level : Mode) (s : State),
    let line := s.lines.ack.get zone
    let taken := s.zones.ack.get zone ≠ level ∧ 2 ≤ line.steady ∧
      (line.seen = level ∨ line.seen = s.zones.ack.get zone)
    let judged : State :=
      { s with
        zones := { s.zones with ack := s.zones.ack.set zone level }
        lines := { s.lines with ack := s.lines.ack.set zone ⟨level, 0⟩ } }
    let echo := ∀ z < 4, judged.zones.ack.get z = s.zones.driven.get z
    s.ackMoves zone level =
      (if line.seen = level then s
      else { s with lines := { s.lines with ack := s.lines.ack.set zone ⟨level, 0⟩ } }) ∧
    (¬taken → exec (.zoneAckChange zone level) s = .next s) ∧
    (taken →
      (∀ t, s.zones.trans = some t → t.state = .changing → ¬echo) →
      exec (.zoneAckChange zone level) s = .next judged.startTx) ∧
    (∀ t, taken → s.zones.trans = some t → t.state = .changing → echo →
      t.kind = .normal →
      let closes := fun z => t.targets.get z = .closed ∧ s.zones.current.get z ≠ .closed
      let loosens := fun z => (t.targets.get z).level < (s.zones.current.get z).level
      let mode := fun z => if s.zones.hold then .closed else t.targets.get z
      let columns := fun z => (List.range 96).filter fun c => (s.defn c).map (·.zone) == some z
      let refused : List (Nat × FleetMsg) := [0, 1, 2, 3].flatMap fun z =>
        if closes z then (columns z).flatMap fun c =>
          (s.col c).waits.map fun w => (w.robot, .refused .zoneClosed (.column c))
        else []
      let granted : List (Nat × FleetMsg) := [0, 1, 2, 3].flatMap fun z =>
        if loosens z then (columns z).filterMap fun c =>
          if (s.col c).grant = none then
            ((s.col c).waits.find? fun w => modePermits (mode z) w.cls).map fun w =>
              (w.robot, .granted c w.cls (s.params.holdLimit * 1000))
          else none
        else []
      let closed := [0, 1, 2, 3].filter fun z => decide (closes z)
      ∃ u : State,
        let told :=
          u.notify (.modeChanged t.requester s.zones.current t.targets closed t.mixed)
        exec (.zoneAckChange zone level) s =
          .next (if s.zones.holdPending then told.beginHold else told).startTx ∧
        u.zones = { judged.zones with current := t.targets, trans := none } ∧
        u.lines = judged.lines ∧
        u.roster = s.roster ∧ u.xpMap = s.xpMap ∧ u.audit = s.audit ∧
        u.link = ((refused ++ granted).foldl (fun v f => v.send f.1 f.2) s).link ∧
        (∀ c d, c < 96 → s.defn c = some d → d.zone < 4 →
          (closes d.zone → u.col c =
            { s.col c with waits := [], causes := { (s.col c).causes with zone := true } }) ∧
          (¬closes d.zone → ¬loosens d.zone → u.col c = s.col c) ∧
          (loosens d.zone →
            ((s.col c).grant ≠ none → u.col c = s.col c) ∧
            ((∀ w ∈ (s.col c).waits, modePermits (mode d.zone) w.cls = false) →
              u.col c = s.col c) ∧
            (∀ front w rest, (s.col c).grant = none → (s.col c).waits = front ++ w :: rest →
              (∀ v ∈ front, modePermits (mode d.zone) v.cls = false) →
              modePermits (mode d.zone) w.cls = true →
              u.col c =
                { s.col c with
                  waits := front ++ rest
                  grant :=
                    some ⟨w.robot, w.cls, some (s.params.holdLimit * 1000), none, none⟩ }))) ∧
        (∀ n h, s.handover n = some h →
          let moves := fun c => ∃ d, s.defn c = some d ∧ d.zone < 4 ∧
            t.targets.get d.zone ≠ s.zones.current.get d.zone
          (∀ c, h.column = some c → moves c → u.handover n = some
            { h with
              deadline := h.deadline.map fun e =>
                if e.cond = .stopped then e
                else { e with cond := if u.suspends c then .suspended else .running } }) ∧
          ((∀ c, h.column = some c → ¬moves c) → u.handover n = some h))) ∧
    (∀ t, taken → s.zones.trans = some t → t.state = .changing → echo →
      t.kind = .hold → exec (.zoneAckChange zone level) s = .next judged.completeHold.startTx)) ∧
  (∀ s : State, ∃ u : State,
    s.completeHold = u.notify (.modeChanged .hold s.zones.current (Quad.same .closed)
      ([0, 1, 2, 3].filter fun z => s.zones.current.get z != .closed) false) ∧
    u.zones = { s.zones with current := Quad.same .closed, trans := none } ∧
    (∀ c, u.col c =
      if c < 96 ∧ s.defn c ≠ none then
        { s.col c with causes := { (s.col c).causes with zone := true } }
      else s.col c) ∧
    (∀ n h, s.handover n = some h →
      ((∃ c < 96, h.column = some c ∧ s.defn c ≠ none) → u.handover n = some
        { h with
          deadline := h.deadline.map fun e =>
            if e.cond = .stopped then e else { e with cond := .suspended } }) ∧
      ((∀ c < 96, h.column = some c → s.defn c = none) → u.handover n = some h)) ∧
    { u with columns := s.columns, handovers := s.handovers, zones := s.zones } = s) ∧
  (∀ s : State,
    let due := fun t : Transition => t.state = .changing ∧ t.kind = .normal ∧ t.limit = some 0
    ((∀ t, s.zones.trans = some t → ¬due t) → exec .interlockLimitExpiry s = .next s) ∧
    (∀ t, s.zones.trans = some t → due t →
      let looser := [0, 1, 2, 3].flatMap fun z =>
        if (s.zones.current.get z).level < (t.targets.get z).level then
          (List.range 96).filter fun c => (s.defn c).map (·.zone) == some z
        else []
      ∃ u : State,
        let told :=
          u.notify (.modeFailed t.requester t.mixed t.targets s.zones.ack s.zones.current)
        exec .interlockLimitExpiry s =
          .next (if s.zones.holdPending then told.beginHold else told).startTx ∧
        u.zones = { s.zones with driven := s.zones.current, trans := none } ∧
        u.roster = s.roster ∧ u.link.notices = s.link.notices ∧
        u.link = (looser.foldl State.handOn { s with zones := u.zones }).link ∧
        (∀ c d, c < 96 → s.defn c = some d → d.zone < 4 →
          (s.zones.current.get d.zone).level < (t.targets.get d.zone).level →
          u.col c = ({ s with zones := u.zones }.handOn c).col c) ∧
        (∀ c d, s.defn c = some d → d.zone < 4 →
          ¬(s.zones.current.get d.zone).level < (t.targets.get d.zone).level →
          u.col c = s.col c) ∧
        (∀ n h, s.handover n = some h →
          let resumes := fun c => ∃ d, s.defn c = some d ∧ d.zone < 4 ∧
            (s.zones.current.get d.zone).level < (t.targets.get d.zone).level
          (∀ c, h.column = some c → resumes c → u.handover n = some
            { h with
              deadline := h.deadline.map fun e =>
                if e.cond = .stopped then e
                else { e with cond := if u.suspends c then .suspended else .running } }) ∧
          ((∀ c, h.column = some c → ¬resumes c) → u.handover n = some h))))

/-- The filter of GRID_HOLD takes a new level when it has been steady for 2 ms, not one that changes
again within them (R196). GRID_HOLD asserted (R167): in UNCONFIGURED it sets the flag; in RUNNING a
NORMAL transition in CHANGING is let finish with hold pending set, and a hold transition goes on;
else a transition in WAITING is dropped with REQUEST_OVERTAKEN and the hold transition begins:
column by column, ascending, the operation is cut off with cause HOLD (R100), its records returned
uncertain, inbound released, SUSPECT added, a call on the column failed, the settle mark and the
fault count as they were, COLUMN_SUSPECT, COLUMN_UNVERIFIED and REMAP_DONE issued in that order; the
grant is ended, the list emptied with REFUSED HOLD_ACTIVE to each robot; then CLOSED is driven in
every zone, every deadline on a column SUSPENDED (R168, R74), and the hold completes once all four
zones echo CLOSED (R169; what State.completeHold does is stated by TransitionsSucceedOrFail).
HOLD_ASSERTED comes first. Released (R170), the flags are cleared, HOLD_RELEASED is issued and the
columns of the zones whose effective mode is looser are handed on, zones ascending and columns
ascending in each; a column with a holder is left as it is (R71). The model's choices: how the 2 ms
are counted (log 35), a level that is there already changes nothing (log 16), zones ascending at the
release (log 18), the robots of one list refused from its head (log 19), and the XP that
COLUMN_SUSPECT names (log 31). -/
def Obligations.GridHoldTakesEveryGrantBack : Prop :=
  (∀ (p : State) (c : Nat),
    let k := p.col c
    let q := p.holdColumn c
    let sends := fun v : State =>
      k.waits.foldl (fun v w => v.send w.robot (.refused .holdActive (.column c))) v
    (k.op = none →
      q = sends (p.modCol c fun k => { k with grant := none, waits := [] })) ∧
    (∀ o, k.op = some o → (o.priors.map Prod.fst).Nodup →
      let called := p.audit.called = some c
      let spare := (List.range 96).find? fun e =>
        (p.defn e).map (·.zone) == some (p.zoneOf c) && (p.mappedBy e).isNone &&
          !(p.col e).retired
      let fails : List NoticeBody :=
        if called then
          [.columnUnverified c (p.mappedBy c) (p.zoneOf c) .opCutOff k.verification
            { k.causes with suspect := true } k.stack.length]
        else []
      let remaps : List NoticeBody :=
        match p.mappedBy c with
        | some x =>
          if (p.xp x).map (·.remapPending) = some true ∧ k.stack = [] ∧ q.reservations c = 0 ∧
              (q.col c).inbound = false then [.remapDone x c spare]
          else []
        | none => []
      q.link = (sends (p.notifyAll
        (.columnSuspect c (p.mappedBy c) .hold o.robot :: (fails ++ remaps)))).link ∧
      q.col c =
        { k with
          op := none
          grant := none
          waits := []
          inbound := if o.inboundTaken then false else k.inbound
          causes := { k.causes with suspect := true }
          verification := if called then .unverified else k.verification
          seen := if called then false else k.seen } ∧
      (∀ e, e ≠ c → q.col e = p.col e) ∧ q.zones = p.zones ∧ q.roster = p.roster ∧
      q.xpMap =
        (match p.mappedBy c with
          | some x =>
            if remaps = [] then p.xpMap else updateAt p.xpMap x fun _ => spare.map (⟨·, false⟩)
          | none => p.xpMap) ∧
      q.audit =
        (if called then
          { p.audit with
            state := .idle, called := none, callLimit := none, overdue := false,
            pointer := if c < 95 then c + 1 else 0 }
        else p.audit) ∧
      (∀ n h st, p.handover n = some h → (n, st) ∈ o.priors →
        let parks := st = .staged ∧ h.taker = .none
        let held := h.column.any q.suspends
        q.handover n = some
          { h with
            state := if parks then .parked else st
            uncertain := true
            deadline :=
              if parks then none
              else h.deadline.map fun e =>
                { e with cond := if held then .suspended else .running } }) ∧
      (∀ n h, p.handover n = some h → n ∉ o.priors.map Prod.fst →
        q.handover n = some
          (if h.column = some c then
            { h with
              deadline := h.deadline.map fun e =>
                if e.cond = .stopped then e else { e with cond := .suspended } }
          else h)))) ∧
  (∀ p : State,
    let begun : State :=
      { p with
        zones :=
          { p.zones with
            trans := some ⟨.changing, .hold, Quad.same .closed, Quad.same 0, .hold, false, none⟩
            holdPending := false } }
    let cleared := (List.range 96).foldl State.holdColumn begun
    let driven : State :=
      { cleared with
        zones := { cleared.zones with driven := Quad.same .closed }
        handovers := cleared.handovers.map fun h =>
          if h.column = none then h
          else
            { h with
              deadline := h.deadline.map fun e =>
                if e.cond = .stopped then e else { e with cond := .suspended } } }
    p.beginHold = if p.zones.ack = Quad.same .closed then driven.completeHold else driven) ∧
  ∀ s : State,
    let steady := 2 ≤ s.lines.gridHold.steady
    let seen := fun level : Bool => ({ s.lines with gridHold := ⟨level, 0⟩ } : LineFilter)
    let held : State := { s with lines := seen true, zones := { s.zones with hold := true } }
    let asserts := fun t : State => exec .gridHoldAsserted s = .next t.startTx
    (∀ level, s.gridHoldMoves level =
      if s.lines.gridHold.seen = level then s else { s with lines := seen level }) ∧
    (s.zones.hold = true ∨ ¬steady → exec .gridHoldAsserted s = .next s) ∧
    (s.zones.hold = false ∨ ¬steady → exec .gridHoldReleased s = .next s) ∧
    (s.zones.hold = true → steady →
      let cleared : State :=
        { s with
          lines := seen false
          zones := { s.zones with hold := false, holdPending := false } }
      exec .gridHoldReleased s = .next
        (([0, 1, 2, 3].flatMap fun z =>
          if (cleared.effective z).level < (s.effective z).level then
            (List.range 96).filter fun c => (s.defn c).map (·.zone) == some z
          else []).foldl State.handOn
          (cleared.notify (.holdReleased (s.zones.trans.map (·.state)) s.zones.current))).startTx) ∧
    (s.zones.hold = false → steady → s.sectionState = .unconfigured →
      asserts (held.notify (.holdAsserted .unconfigured))) ∧
    (∀ t, s.zones.hold = false → steady → s.sectionState = .running →
      s.zones.trans = some t → t.state = .changing →
      (t.kind = .normal →
        asserts (State.notify { held with zones := { held.zones with holdPending := true } }
          (.holdAsserted .changingNormal))) ∧
      (t.kind = .hold → asserts (held.notify (.holdAsserted .changingHold)))) ∧
    (s.zones.hold = false → steady → s.sectionState = .running → s.zones.trans = none →
      asserts (held.notify (.holdAsserted .none)).beginHold) ∧
    (∀ t, s.zones.hold = false → steady → s.sectionState = .running →
      s.zones.trans = some t → t.state = .waiting →
      asserts ((State.notify { held with zones := { held.zones with trans := none } }
        (.holdAsserted .waiting)).notify (.requestOvertaken t.requester t.targets)).beginHold) ∧
    (s.zones.hold = false → steady → s.sectionState = .running →
      (∀ t, s.zones.trans = some t → t.state = .waiting) →
      ∃ u : State,
        asserts u ∧
        u.zones.hold = true ∧ u.zones.holdPending = false ∧ u.zones.driven = Quad.same .closed ∧
        u.zones.ack = s.zones.ack ∧ u.lines = seen true ∧
        (s.zones.ack = Quad.same .closed →
          u.zones.trans = none ∧ u.zones.current = Quad.same .closed) ∧
        (s.zones.ack ≠ Quad.same .closed →
          u.zones.trans =
            some ⟨.changing, .hold, Quad.same .closed, Quad.same 0, .hold, false, none⟩ ∧
          u.zones.current = s.zones.current) ∧
        (∀ c < 96,
          (u.col c).op = none ∧ (u.col c).grant = none ∧ (u.col c).waits = [] ∧
          (u.col c).stack = (s.col c).stack ∧ (u.col c).retired = (s.col c).retired ∧
          (u.col c).causes =
            ⟨(s.col c).causes.discrepancy, (s.col c).causes.suspect || (s.col c).op.isSome,
              (s.col c).causes.zone ||
                (decide (s.zones.ack = Quad.same .closed) && (s.defn c).isSome)⟩) ∧
        u.roster = s.roster ∧
        (∀ n h, s.handover n = some h → ∃ h', u.handover n = some h' ∧ h'.custody = h.custody ∧
          h'.column = h.column ∧ h'.taker = h.taker ∧
          ((∃ c o st, c < 96 ∧ (s.col c).op = some o ∧ (n, st) ∈ o.priors) →
            h'.uncertain = true) ∧
          ((∀ c o st, c < 96 → (s.col c).op = some o → (n, st) ∉ o.priors) →
            h'.uncertain = h.uncertain ∧ h'.state = h.state)) ∧
        (s.zones.trans = none → s.link.notices.length < 32 → ∃ rest,
          u.link.notices =
            s.link.notices ++ ⟨s.link.nextSeq, s.time, .holdAsserted .none⟩ :: rest) ∧
        (∀ t, s.zones.trans = some t → s.link.notices.length < 31 → ∃ rest,
          u.link.notices =
            s.link.notices ++ ⟨s.link.nextSeq, s.time, .holdAsserted .waiting⟩ ::
              ⟨s.link.nextSeq + 1, s.time, .requestOvertaken t.requester t.targets⟩ :: rest))

/-! ### Recovery -/

/-- RECONCILE_COLUMN (R142 to R149): the checks in their order, then the stack is the list, every
listed record stands at its place, STAGED with a fresh COLLECT deadline or PARKED, certain; the
records left out are UNLOCATED; a listed bin leaves its former column, which gains DISCREPANCY, or
its robot's slot; in a column that lost one the entries above move down and their records' positions
follow (R145); the deadlines on all these columns are judged again; the column loses DISCREPANCY and
SUSPECT, is FRESH with seen clear and settled now, and a call on it ends. The remaps that are then
ready, of this column and of those that lost an entry or a reservation, complete in ascending XP
order, each onto the lowest-index spare as the earlier ones leave it, with one REMAP_DONE each
(R148, R20). The reply gives the stack, the listed records with where they came from and their new
states, those made UNLOCATED, the other columns, the causes left and the XPs remapped (R149). Of
several listed records in flight the first in the list is named (the model's choice, log 34). The
premises on the table and the map are their own invariants (R25, R26, R31, R14, R16). -/
def Obligations.ReconcileRewritesTheColumn : Prop :=
  ∀ (tag : Word16) (body : List Byte) (c : Nat) (ts : List BinTag) (s : State),
    Body.reconcile body = .ok (c, ts) → s.sectionState = .running → Takes tag s →
    let u := s.intake 18 tag body
    let refuses := fun st b =>
      exec (.reconcileColumn tag body) s = .next (u.answered 18 tag st b)
    let remaining := s.handovers.countP fun h =>
      (h.state == .openState || h.state == .setting) && h.column == some c &&
        !(h.state == .openState && ts.contains h.tag)
    let flying := fun (h : Handover) => ∃ t ∈ ts, s.handoverByTag t = some h ∧
      s.recordInFlight h = true
    (s.defn c = none → refuses .unknownColumn .none) ∧
    (∀ d, s.defn c = some d →
      let problem : Option (Status × ReplyBody) :=
        if d.capacity < ts.length then some (.overCapacity, .overCapacity remaining d.capacity)
        else if 0 ∈ ts then some (.badTag, .none)
        else if ¬ts.Nodup then some (.duplicateBin, .none)
        else if (s.col c).op ≠ none then some (.inFlight, .columnInFlight c)
        else if ts ≠ [] ∧ s.mappedBy c = none then some (.unmapped, .none)
        else none
      (∀ st b, problem = some (st, b) → refuses st b) ∧
      (∀ front t rest h e, problem = none → ts = front ++ t :: rest →
        (∀ v ∈ front, ∀ k, s.handoverByTag v = some k → s.recordInFlight k = false) →
        s.handoverByTag t = some h → s.recordInFlight h = true → s.operationOf h.number = some e →
        refuses .inFlight (.recordInFlight h.number e)) ∧
      (problem = none → (∀ h, ¬flying h) → d.capacity < ts.length + remaining →
        refuses .overCapacity (.overCapacity remaining d.capacity)) ∧
      (problem = none → (∀ h, ¬flying h) → ts.length + remaining ≤ d.capacity →
        (s.handovers.map (·.number)).Nodup → (s.handovers.map (·.tag)).Nodup →
        let found := ts.filterMap s.handoverByTag
        let lost := fun e : Nat => found.any fun h =>
          match h.custody with
          | .column k _ => k == e
          | _ => false
        ∃ (t : State) (v : ReconcileReport) (remaps : List (Nat × Nat × Option Nat)),
          let judged := fun h : Handover =>
            match h.column with
            | some k =>
              if k = c ∨ lost k then
                h.deadline.map fun q =>
                  if q.cond = .stopped then q
                  else { q with cond := if t.suspends k then .suspended else .running }
              else h.deadline
            | none => h.deadline
          exec (.reconcileColumn tag body) s = .next (t.answered 18 tag .ok (.reconciled v)) ∧
          t.col c =
            { s.col c with
              stack := ts.map fun x =>
                match s.handoverByTag x with
                | some h => .tracked h.number
                | none => .foreign x
              causes := ⟨false, false, (s.col c).causes.zone⟩
              verification := .fresh
              seen := false
              settleMark := some ⟨s.time, d.settle⟩ } ∧
          (∀ e, e ≠ c → ¬lost e → t.col e = s.col e) ∧
          (∀ e, e ≠ c → lost e → e < s.columns.length →
            t.col e =
              { s.col e with
                stack := (s.col e).stack.filter fun q =>
                  ts.all fun x =>
                    match s.handoverByTag x with
                    | some h =>
                      (match h.custody with
                        | .column k _ => !(k == e && q == .tracked h.number)
                        | _ => true)
                    | none => true
                causes := { (s.col e).causes with discrepancy := true } }) ∧
          (∀ i x h, ts[i]? = some x → s.handoverByTag x = some h →
            t.handover h.number = some
              { h with
                column := some c
                custody := .column c i
                state := if h.taker = .none then .parked else .staged
                deadline :=
                  if h.taker = .none then none
                  else some ⟨.collect, s.params.collectLimit * 1000,
                    if t.suspends c then .suspended else .running⟩
                uncertain := false }) ∧
          (∀ h ∈ s.handovers, h.tag ∉ ts → .tracked h.number ∈ (s.col c).stack →
            (∀ e, e ≠ c → .tracked h.number ∉ (s.col e).stack) →
            t.handover h.number = some
              { h with
                state := .unlocated, column := none, custody := .unlocated, deadline := none }) ∧
          (∀ h ∈ s.handovers, h.tag ∉ ts →
            (∀ e, e = c ∨ lost e → .tracked h.number ∉ (s.col e).stack) →
            t.handover h.number = some { h with deadline := judged h }) ∧
          (∀ h ∈ s.handovers, h.tag ∉ ts → ∀ e i, e ≠ c → lost e → e < s.columns.length →
            (s.col e).stack.Nodup → (∀ k, k ≠ e → .tracked h.number ∉ (s.col k).stack) →
            (t.col e).stack[i]? = some (.tracked h.number) →
            t.handover h.number = some { h with custody := .column e i, deadline := judged h }) ∧
          (∀ a r, s.robot a = some r →
            ((∃ x ∈ ts, ∃ h, s.handoverByTag x = some h ∧ h.custody = .robot a) →
              t.robot a = some { r with slot := .empty, loadConfirmed := false }) ∧
            ((∀ x ∈ ts, ∀ h, s.handoverByTag x = some h → h.custody ≠ .robot a) →
              t.robot a = some r)) ∧
          (s.audit.called = some c →
            t.audit.state = .idle ∧ t.audit.called = none ∧ t.audit.callLimit = none ∧
            t.audit.pointer = if c < 95 then c + 1 else 0) ∧
          (s.MapInjective → s.Bounded →
            (∀ x e, s.xp x = some e → e.remapPending = true → (s.col e.column).retired = true) →
            let examined := fun k : Nat => k == c || lost k ||
              found.any fun h => h.state == .openState && h.column == some k
            remaps.map (·.1) = (List.range 80).filter (fun x =>
              match s.xp x with
              | some e =>
                e.remapPending && examined e.column && (t.col e.column).stack.isEmpty &&
                  t.reservations e.column == 0 && !(t.col e.column).inbound &&
                  (t.col e.column).op.isNone
              | none => false) ∧
            (∀ x, x ∉ remaps.map (·.1) → t.xp x = s.xp x) ∧
            (∀ (i x k : Nat) (spare : Option Nat), remaps[i]? = some (x, k, spare) →
              let fits := fun d : Nat => d < 96 ∧ (∃ q, s.defn d = some q ∧ q.zone = s.zoneOf k) ∧
                (s.col d).retired = false ∧ s.mappedBy d = none ∧
                ∀ j < i, ∀ p : Nat × Nat × Option Nat, remaps[j]? = some p → p.2.2 ≠ some d
              (s.xp x).map (·.column) = some k ∧ t.xp x = spare.map (⟨·, false⟩) ∧
              (∀ d, spare = some d → fits d ∧ ∀ e < d, ¬fits e) ∧
              (spare = none → ∀ d, ¬fits d)) ∧
            t.link = (u.notifyAll (remaps.map fun p => .remapDone p.1 p.2.1 p.2.2)).link ∧
            v.remapped = remaps.map (·.1) ∧
            (∀ k, s.audit.called = some k → k ≠ c →
              t.audit =
                if ∃ p ∈ remaps, p.2.1 = k then
                  { s.audit with
                    state := .idle, called := none, callLimit := none, overdue := false,
                    pointer := if k < 95 then k + 1 else 0 }
                else s.audit)) ∧
          (s.audit.called = none → t.audit = s.audit) ∧
          v.listed = (found.map fun h =>
            (h.number,
              (match h.custody with
                | .column k i => CameFrom.column k i
                | .robot a =>
                  if h.state = .openState then .openOn a (h.column.getD 0) else .robot a
                | .unlocated => .unlocated),
              if h.taker = .none then .parked else .staged)) ∧
          v.others = (((List.range 96).filter fun e => e != c && lost e).map fun e =>
            (e, (t.col e).causes)) ∧
          v.index = c ∧ v.stack = (t.col c).stack.map t.entryView ∧ v.freeRoom = t.freeRoom c ∧
          v.causesLeft = (t.col c).causes ∧
          v.unlocated = (s.handovers.filter fun h =>
            (s.col c).stack.contains (.tracked h.number) && !ts.contains h.tag).map (·.number)))

/-- RELEASE_FREEZE of a column or a zone (R151, R152): refused UNKNOWN_COLUMN or OUT_OF_RANGE, then
ZONE_CLOSED while the effective mode of the zone concerned is CLOSED; else ZONE leaves every column
concerned, their deadlines are judged again, and the reply is OK, or NEEDS_RECONCILE with the count
and the first 16 of the columns still frozen. Nothing else changes. -/
def Obligations.ReleaseFreezeRemovesTheZoneCause : Prop :=
  ∀ (tag : Word16) (body : List Byte) (q : Body.FreezeTarget) (s : State),
    Body.releaseFreeze body = .ok q → s.sectionState = .running → Takes tag s →
    let u := s.intake 19 tag body
    let answers := fun (t : State) st b =>
      exec (.releaseFreeze tag body) s = .next (t.answered 19 tag st b)
    let zone :=
      match q with
      | .column c => s.zoneOf c
      | .zone z => z
    let columns : List Nat :=
      match q with
      | .column c => [c]
      | .zone z => (List.range 96).filter fun c => (s.defn c).map (·.zone) == some z
    let named :=
      match q with
      | .column c => (s.defn c).isSome
      | .zone z => decide (z ≤ 3)
    (named = false → answers u
      (match q with
        | .column _ => .unknownColumn
        | .zone _ => .outOfRange) .none) ∧
    (named = true → s.effective zone = .closed → answers u .zoneClosed .none) ∧
    (named = true → s.effective zone ≠ .closed →
      let removed := columns.countP fun c => (s.col c).causes.zone
      let still := columns.filter fun c => (s.col c).causes.discrepancy || (s.col c).causes.suspect
      ∃ t : State,
        answers t (if still = [] then .ok else .needsReconcile)
          (if still = [] then .freezeReleased removed
          else .stillFrozen removed still.length
            ((still.take 16).map fun c => (c, { (s.col c).causes with zone := false }))) ∧
        (∀ c ∈ columns, t.col c = { s.col c with causes := { (s.col c).causes with zone := false } }) ∧
        (∀ c, c ∉ columns → t.col c = s.col c) ∧
        (∀ n h, s.handover n = some h → ∃ h', t.handover n = some h' ∧
          (∀ c, h.column = some c → c ∈ columns → h' =
            { h with
              deadline := h.deadline.map fun d =>
                if d.cond = .stopped then d
                else { d with cond := if t.suspends c then .suspended else .running } }) ∧
          ((∀ c, h.column = some c → c ∉ columns) → h' = h)) ∧
        { t with columns := s.columns, handovers := s.handovers } = u)

/-! ### Invariants -/

/-- Every step keeps the sizes of the tables and the bounds of the queues and counters: 96 columns,
12 lock groups, 80 XPs, 48 robots, 192 handovers, 8 waiting requests, 4 received and 4 overflowed
requests, one waiting reply for each received request, 32 notices, 64 frames, and the limits of the
counters and of the filters and gap timers (R1, R8, R16, R25, R57, R106, R185, R188, R189, R191,
R195, R196; the model's choice for the filters, log 35). A receiver's gap timer runs exactly while
it holds a partial frame (R185; the model's choice, log 37). The handovers stand in strictly
ascending order of number, and the last number assigned is at most 65535 (R26, R41). -/
def Obligations.EveryStepKeepsTheBounds : Prop :=
  ∀ s t : State, s.Bounded → step s = .next t → t.Bounded

/-- Every step keeps the modes in agreement: outside CHANGING the driven modes are the current ones,
in CHANGING the targets, CLOSED for the hold; the interlock limit is there in CHANGING of kind
NORMAL alone, and a hold is pending there alone (R155). -/
def Obligations.EveryStepKeepsTheModesInAgreement : Prop :=
  ∀ s t : State, s.ModesAgree → step s = .next t → t.ModesAgree

/-- The machine after reset meets both invariants, is what a hardware reset with the pins pulled down
leaves (R183; the levels are the model's choice, log 6), and its step, the queue being empty, is one
millisecond in which no timer runs. -/
def Obligations.ResetMeetsTheInvariants : Prop :=
  State.reset.Bounded ∧ State.reset.ModesAgree ∧
  exec (.hardwareReset .powerOn PinLevels.pulledDown) State.reset = .next State.reset ∧
  step State.reset = .next { State.reset with time := 1 }

/-! ### The bytes of frames -/

/-- The bytes of a well-formed frame, with any bytes after it, are received as its command (10.2,
R185): the framing, the CRC and the kind. A frame one of whose bytes has a stop-bit error, the sync
byte among them, is discarded as one that fails its CRC check (R184, R185). Each kind number of 10.9
gives its command, and every other kind REQUEST_REJECTED or FLEET_UNKNOWN_KIND (R186, R194). And
every body decodes to the fields it was written from (R187), at every value the fields admit, the
empty bodies and the one-byte bodies among them. -/
def Obligations.FramesAndBodiesDecodeToTheirCommands : Prop :=
  (∀ (kind : Byte) (tag : Word16) (body : List Byte) (rest : List RxByte),
    tag ≠ 0 → body.length ≤ maxControlBody →
    FrontEnd.look .control ((Wire.controlFrame kind tag body).map RxByte.ok ++ rest) =
      .take (FrontEnd.controlCommand kind tag body) (body.length + 8)) ∧
  (∀ (addr kind : Byte) (body : List Byte) (rest : List RxByte),
    body.length ≤ maxFleetBody →
    FrontEnd.look .fleet ((Wire.fleetFrame addr kind body).map RxByte.ok ++ rest) =
      .take (FrontEnd.fleetCommand addr kind body) (body.length + 6)) ∧
  (∀ (kind : Byte) (tag : Word16) (body : List Byte) (frame rest : List RxByte),
    body.length ≤ maxControlBody → frame.map (·.value) = Wire.controlFrame kind tag body →
    (∃ b ∈ frame, b.good = false) →
    FrontEnd.look .control (frame ++ rest) = .discard (.controlFrameDiscard .badCrc)) ∧
  (∀ (addr kind : Byte) (body : List Byte) (frame rest : List RxByte),
    body.length ≤ maxFleetBody → frame.map (·.value) = Wire.fleetFrame addr kind body →
    (∃ b ∈ frame, b.good = false) →
    FrontEnd.look .fleet (frame ++ rest) = .discard (.fleetFrameDiscard .badCrc)) ∧
  (∀ (tag : Word16) (body : List Byte),
    ((List.range 25).map fun k => FrontEnd.controlCommand (byte (k + 1)) tag body) =
      [.setParameters tag body, .defineColumn tag body, .mapXp tag body, .commit tag body,
        .resetSection tag body, .admitRobot tag body, .dismiss tag body, .queryRobot tag body,
        .openHandover tag body, .assignTaker tag body, .cancelHandover tag body,
        .releaseTracking tag body, .queryHandover tag body, .listHandovers tag body,
        .lockGroup tag body, .unlockGroup tag body, .retireColumn tag body,
        .reconcileColumn tag body, .releaseFreeze tag body, .queryColumn tag body,
        .queryXp tag body, .modeRequest tag body, .modeCancel tag body, .queryZones tag body,
        .status tag body] ∧
    ∀ kind : Byte, kind = 0 ∨ 25 < kind.toNat →
      FrontEnd.controlCommand kind tag body = .requestRejected kind tag body) ∧
  (∀ (addr : Byte) (body : List Byte),
    ((List.range 10).map fun k => FrontEnd.fleetCommand addr (byte (k + 1)) body) =
      [.announce addr body, .ready addr body, .loadReport addr body, .dropOff addr body,
        .grantReq addr body, .withdraw addr body, .release addr body, .opStart addr body,
        .opEnd addr body, .faultReport addr body] ∧
    ∀ kind : Byte, kind = 0 ∨ 10 < kind.toNat →
      FrontEnd.fleetCommand addr kind body = .fleetUnknownKind addr kind) ∧
  (∀ (vs : List (Option Nat)), vs.length = 12 →
    (∀ i n w : Nat, vs[i]? = some (some n) → Body.paramSizes[i]? = some w → n < 256 ^ w) →
    Body.setParameters (Body.encSetParameters vs) = .ok vs) ∧
  (∀ d : Body.DefineColumn, d.index < 256 → d.x < 256 → d.y < 256 → d.zone < 256 → d.group < 256 →
    d.capacity < 256 → d.settle.getD 0 < 2 ^ 32 →
    Body.defineColumn (Body.encDefineColumn d) = .ok d) ∧
  (∀ (x : Nat) (c : Option Nat), x < 256 → c.getD 0 < 256 →
    Body.mapXp (Body.encMapXp x c) = .ok (x, c)) ∧
  (∀ q : RobotRef, (∀ a, q = .address a → a < 256) →
    Body.robot (Body.encRobotRef q) = .ok q ∧
    ∀ k, Body.admission (Body.encRobotRef q ++ [k]) = .ok (q, k)) ∧
  (∀ q : Body.OpenHandover, q.giver < 256 → (∀ a, q.taker = .addr a → 0 < a ∧ a < 255) →
    (∀ x, q.target = .xp x → x < 256) → (∀ z, q.target = .zone z → z < 256) →
    Body.openHandover (Body.encOpenHandover q) = .ok q) ∧
  (∀ (n : Nat) (k : Taker), n < 65536 → (∀ a, k = .addr a → 0 < a ∧ a < 255) →
    Body.assignTaker (Body.encAssignTaker n k) = .ok (n, k)) ∧
  (∀ q : Body.HandoverRef, (∀ n, q = .number n → n < 65536) →
    Body.queryHandover (Body.encHandoverRef q) = .ok q) ∧
  (∀ n : Nat, n < 65536 → Body.number (nat16 n) = .ok n) ∧
  (∀ q : Body.ListHandovers, q.start < 65536 →
    Body.listHandovers (Body.encListHandovers q) = .ok q) ∧
  (∀ (c : Nat) (ts : List BinTag), c < 256 → ts.length ≤ 4 →
    Body.reconcile (Body.encReconcile c ts) = .ok (c, ts)) ∧
  (∀ q : Body.FreezeTarget, (∀ c, q = .column c → c < 256) → (∀ z, q = .zone z → z < 256) →
    Body.releaseFreeze (Body.encReleaseFreeze q) = .ok q) ∧
  (∀ q : Quad Mode, ∃ b, Body.modeRequest (Body.encModeRequest q) = .ok b ∧
    Mode.ofByte? b.z0 = some q.z0 ∧ Mode.ofByte? b.z1 = some q.z1 ∧
    Mode.ofByte? b.z2 = some q.z2 ∧ Mode.ofByte? b.z3 = some q.z3) ∧
  (∀ q : Body.Announce, q.gripper < 256 → q.level < 256 →
    Body.announce (Body.encAnnounce q) = .ok q) ∧
  Body.nothing [] = .ok () ∧
  (∀ n : Nat, n < 256 → Body.one [byte n] = .ok n) ∧
  (∀ (c : Nat) (k : FaultKind), c < 256 →
    Body.faultReport [byte c, byte k.ctorIdx] = .ok (c, k)) ∧
  (∀ t : BinTag, Body.loadReport (bytes32 t) = .ok t) ∧
  (∀ (c : Nat) (k : Cls), c < 256 →
    Body.grantReq (Body.encGrantReq c k) = .ok (c, byte k.rank) ∧
    Cls.ofByte? (byte k.rank) = some k) ∧
  (∀ q : Body.OpStart, q.column < 256 → Body.opStart (Body.encOpStart q) = .ok q) ∧
  (∀ q : Body.OpEnd, q.column < 256 → q.height < 256 → Body.opEnd (Body.encOpEnd q) = .ok q)
end

