-- ==== Sys2Proof/Laws/Lists.lean ====
section
/-! SUPPORT. What the list operations of Machine/Ops.lean do. -/

namespace Sys2Proof.Machine

section
variable {α β : Type}

@[simp] theorem updateAt_length (l : List α) (i : Nat) (f : α → α) :
    (updateAt l i f).length = l.length := by
  induction l generalizing i with
  | nil => rfl
  | cons a as ih => cases i <;> simp [updateAt, ih]

theorem updateAt_getElem? (l : List α) (i j : Nat) (f : α → α) :
    (updateAt l i f)[j]? = if j = i then l[j]?.map f else l[j]? := by
  induction l generalizing i j with
  | nil => simp [updateAt]
  | cons a as ih =>
    cases i <;> cases j <;> simp [updateAt, ih]

theorem updateAt_getD_ne (l : List α) {i j : Nat} (h : j ≠ i) (f : α → α) (d : α) :
    (updateAt l i f).getD j d = l.getD j d := by
  simp [List.getD_eq_getElem?_getD, updateAt_getElem?, h]

theorem updateAt_getD_same (l : List α) {i : Nat} (h : i < l.length) (f : α → α) (d : α) :
    (updateAt l i f).getD i d = f (l.getD i d) := by
  simp [List.getD_eq_getElem?_getD, updateAt_getElem?, List.getElem?_eq_getElem h]

/-- An update whose function fixes what it meets changes nothing. -/
theorem updateAt_id (l : List α) (i : Nat) (f : α → α) (h : ∀ a, l[i]? = some a → f a = a) :
    updateAt l i f = l := by
  apply List.ext_getElem?
  intro j
  rw [updateAt_getElem?]
  split
  · subst j
    cases e : l[i]? with
    | none => rfl
    | some a => simp [h a e]
  · rfl

theorem updateAt_congr (l : List α) (i : Nat) (f g : α → α) (h : ∀ a, l[i]? = some a → f a = g a) :
    updateAt l i f = updateAt l i g := by
  apply List.ext_getElem?
  intro j
  rw [updateAt_getElem?, updateAt_getElem?]
  split
  · subst j
    cases e : l[i]? with
    | none => rfl
    | some a => simp [h a e]
  · rfl

theorem updateAt_updateAt (l : List α) (i : Nat) (f g : α → α) :
    updateAt (updateAt l i f) i g = updateAt l i (g ∘ f) := by
  apply List.ext_getElem?
  intro j
  simp only [updateAt_getElem?]
  split <;> simp

/-- A property of the entries that the update keeps holds of the updated list. -/
theorem updateAt_forall {p : α → Prop} (l : List α) (i : Nat) (f : α → α)
    (h : ∀ a ∈ l, p a) (k : ∀ a, p a → p (f a)) : ∀ a ∈ updateAt l i f, p a := by
  induction l generalizing i with
  | nil => simp [updateAt]
  | cons a as ih =>
    have ha : p a := h a (by simp)
    have has : ∀ b ∈ as, p b := fun b hb => h b (by simp [hb])
    cases i with
    | zero =>
      intro b hb
      simp only [updateAt, List.mem_cons] at hb
      rcases hb with rfl | hb
      · exact k a ha
      · exact has b hb
    | succ i =>
      intro b hb
      simp only [updateAt, List.mem_cons] at hb
      rcases hb with rfl | hb
      · exact ha
      · exact ih i has b hb

theorem updateAt_map (l : List α) (i : Nat) (f : α → α) (g : α → β) (h : ∀ a, g (f a) = g a) :
    (updateAt l i f).map g = l.map g := by
  induction l generalizing i with
  | nil => rfl
  | cons a as ih => cases i <;> simp [updateAt, ih, h]

/-- `indexFrom` answers a place whose entry is accepted and before which none is. -/
theorem indexFrom_eq_some (p : α → Bool) (l : List α) (i j : Nat) :
    indexFrom p l i = some j ↔
      ∃ k a, j = i + k ∧ l[k]? = some a ∧ p a = true ∧
        ∀ m < k, ∀ b, l[m]? = some b → p b = false := by
  induction l generalizing i with
  | nil => simp [indexFrom]
  | cons a as ih =>
    unfold indexFrom
    by_cases hp : p a = true
    · simp only [hp, if_true, Option.some.injEq]
      constructor
      · rintro rfl
        exact ⟨0, a, by simp, by simp, hp, by simp⟩
      · rintro ⟨k, b, rfl, hb, _, hm⟩
        cases k with
        | zero => simp
        | succ k =>
          have := hm 0 (by omega) a (by simp)
          simp [hp] at this
    · have hf : p a = false := by simpa using hp
      simp only [hf, Bool.false_eq_true, if_false, ih]
      constructor
      · rintro ⟨k, b, rfl, hb, hpb, hm⟩
        refine ⟨k + 1, b, by omega, by simpa using hb, hpb, ?_⟩
        intro m hmk c hc
        cases m with
        | zero => simp only [List.getElem?_cons_zero, Option.some.injEq] at hc; subst hc; exact hf
        | succ m => exact hm m (by omega) c (by simpa using hc)
      · rintro ⟨k, b, rfl, hb, hpb, hm⟩
        cases k with
        | zero => simp only [List.getElem?_cons_zero, Option.some.injEq] at hb; subst hb; simp [hpb] at hf
        | succ k =>
          exact ⟨k, b, by omega, by simpa using hb, hpb,
            fun m hmk c hc => hm (m + 1) (by omega) c (by simpa using hc)⟩

theorem indexFrom_eq_none (p : α → Bool) (l : List α) (i : Nat) :
    indexFrom p l i = none ↔ ∀ a ∈ l, p a = false := by
  induction l generalizing i with
  | nil => simp [indexFrom]
  | cons a as ih =>
    unfold indexFrom
    by_cases hp : p a = true
    · simp [hp]
    · have hf : p a = false := by simpa using hp
      simp [hf, ih]

theorem takeFirst_eq_none (p : α → Bool) (l : List α) :
    takeFirst p l = none ↔ ∀ a ∈ l, p a = false := by
  induction l with
  | nil => simp [takeFirst]
  | cons a as ih =>
    unfold takeFirst
    by_cases hp : p a = true
    · simp [hp]
    · have hf : p a = false := by simpa using hp
      simp [hf, ih]

/-- `takeFirst` takes the first accepted entry and leaves the others in their order. -/
theorem takeFirst_append (p : α → Bool) (front rest : List α) (a : α)
    (hf : ∀ b ∈ front, p b = false) (ha : p a = true) :
    takeFirst p (front ++ a :: rest) = some (a, front ++ rest) := by
  induction front with
  | nil => simp [takeFirst, ha]
  | cons b bs ih =>
    have hb : p b = false := hf b (by simp)
    have := ih fun c hc => hf c (by simp [hc])
    simp [takeFirst, hb, this]

theorem takeFirst_eq_some (p : α → Bool) (l : List α) (a : α) (rest : List α) :
    takeFirst p l = some (a, rest) →
      ∃ front back, l = front ++ a :: back ∧ rest = front ++ back ∧ p a = true ∧
        ∀ b ∈ front, p b = false := by
  induction l generalizing a rest with
  | nil => simp [takeFirst]
  | cons b bs ih =>
    unfold takeFirst
    by_cases hp : p b = true
    · simp only [hp, if_true, Option.some.injEq, Prod.mk.injEq]
      rintro ⟨rfl, rfl⟩
      exact ⟨[], bs, by simp, by simp, hp, by simp⟩
    · have hf : p b = false := by simpa using hp
      simp only [hf, Bool.false_eq_true, if_false, Option.map_eq_some_iff, Prod.exists]
      rintro ⟨c, cs, h, heq⟩
      simp only [Prod.mk.injEq] at heq
      obtain ⟨rfl, rfl⟩ := heq
      obtain ⟨front, back, rfl, rfl, hc, hfr⟩ := ih c cs h
      exact ⟨b :: front, back, by simp, by simp, hc, by
        intro d hd
        simp only [List.mem_cons] at hd
        rcases hd with rfl | hd
        · exact hf
        · exact hfr d hd⟩

theorem takeFirst_length (p : α → Bool) (l : List α) (a : α) (rest : List α)
    (h : takeFirst p l = some (a, rest)) : rest.length + 1 = l.length := by
  obtain ⟨front, back, rfl, rfl, _, _⟩ := takeFirst_eq_some p l a rest h
  simp; omega

/-- A fold over lists one after another. -/
theorem foldl_flatMap {γ : Type} (f : γ → β → γ) (g : α → List β) (l : List α) (c : γ) :
    (l.flatMap g).foldl f c = l.foldl (fun c a => (g a).foldl f c) c := by
  induction l generalizing c with
  | nil => rfl
  | cons a l ih => simp [List.flatMap_cons, List.foldl_append, ih]

/-- What every step of a fold keeps, the fold keeps. -/
theorem foldl_keeps {γ : Type} (P : γ → Prop) (f : γ → α → γ) (l : List α) (b : γ) (hb : P b)
    (hf : ∀ c a, a ∈ l → P c → P (f c a)) : P (l.foldl f b) := by
  induction l generalizing b with
  | nil => exact hb
  | cons a as ih =>
    exact ih (f b a) (hf b a (by simp) hb) fun c d hd hc => hf c d (by simp [hd]) hc

end

theorem countUp_le (bound n : Nat) (h : n ≤ bound) : countUp bound n ≤ bound := by
  unfold countUp; split <;> omega

/-- So many steps of a counter that stops at a bound. -/
theorem repeat_countUp (bound n d : Nat) (h : d ≤ bound) :
    n.repeat (countUp bound) d = min bound (d + n) := by
  induction n with
  | zero => simp only [Nat.repeat]; omega
  | succ n ih =>
    simp only [Nat.repeat, ih, countUp]
    split <;> omega

end Sys2Proof.Machine
end

