-- ==== Sys2Proof/Laws/State.lean ====
section
/-! SUPPORT. One lemma for each field of `State` under each update: the field the update writes, and
the fields it leaves. -/

namespace Sys2Proof.Machine.State

variable (s : State)

/-! ### `modCol` -/

@[simp] theorem modCol_sectionState (c : Nat) (f : Column → Column) : (s.modCol c f).sectionState = s.sectionState := rfl
@[simp] theorem modCol_params (c : Nat) (f : Column → Column) : (s.modCol c f).params = s.params := rfl
@[simp] theorem modCol_columns (c : Nat) (f : Column → Column) :
    (s.modCol c f).columns =
      updateAt s.columns c f := rfl
@[simp] theorem modCol_lockFlags (c : Nat) (f : Column → Column) : (s.modCol c f).lockFlags = s.lockFlags := rfl
@[simp] theorem modCol_xpMap (c : Nat) (f : Column → Column) : (s.modCol c f).xpMap = s.xpMap := rfl
@[simp] theorem modCol_handovers (c : Nat) (f : Column → Column) : (s.modCol c f).handovers = s.handovers := rfl
@[simp] theorem modCol_lastNumber (c : Nat) (f : Column → Column) : (s.modCol c f).lastNumber = s.lastNumber := rfl
@[simp] theorem modCol_roster (c : Nat) (f : Column → Column) : (s.modCol c f).roster = s.roster := rfl
@[simp] theorem modCol_audit (c : Nat) (f : Column → Column) : (s.modCol c f).audit = s.audit := rfl
@[simp] theorem modCol_zones (c : Nat) (f : Column → Column) : (s.modCol c f).zones = s.zones := rfl
@[simp] theorem modCol_link (c : Nat) (f : Column → Column) : (s.modCol c f).link = s.link := rfl
@[simp] theorem modCol_time (c : Nat) (f : Column → Column) : (s.modCol c f).time = s.time := rfl
@[simp] theorem modCol_pending (c : Nat) (f : Column → Column) : (s.modCol c f).pending = s.pending := rfl
@[simp] theorem modCol_lines (c : Nat) (f : Column → Column) : (s.modCol c f).lines = s.lines := rfl
@[simp] theorem modCol_choices (c : Nat) (f : Column → Column) : (s.modCol c f).choices = s.choices := rfl

/-! ### `setXp` -/

@[simp] theorem setXp_sectionState (x : Nat) (e : Option XpEntry) : (s.setXp x e).sectionState = s.sectionState := rfl
@[simp] theorem setXp_params (x : Nat) (e : Option XpEntry) : (s.setXp x e).params = s.params := rfl
@[simp] theorem setXp_columns (x : Nat) (e : Option XpEntry) : (s.setXp x e).columns = s.columns := rfl
@[simp] theorem setXp_lockFlags (x : Nat) (e : Option XpEntry) : (s.setXp x e).lockFlags = s.lockFlags := rfl
@[simp] theorem setXp_xpMap (x : Nat) (e : Option XpEntry) :
    (s.setXp x e).xpMap =
      updateAt s.xpMap x fun _ => e := rfl
@[simp] theorem setXp_handovers (x : Nat) (e : Option XpEntry) : (s.setXp x e).handovers = s.handovers := rfl
@[simp] theorem setXp_lastNumber (x : Nat) (e : Option XpEntry) : (s.setXp x e).lastNumber = s.lastNumber := rfl
@[simp] theorem setXp_roster (x : Nat) (e : Option XpEntry) : (s.setXp x e).roster = s.roster := rfl
@[simp] theorem setXp_audit (x : Nat) (e : Option XpEntry) : (s.setXp x e).audit = s.audit := rfl
@[simp] theorem setXp_zones (x : Nat) (e : Option XpEntry) : (s.setXp x e).zones = s.zones := rfl
@[simp] theorem setXp_link (x : Nat) (e : Option XpEntry) : (s.setXp x e).link = s.link := rfl
@[simp] theorem setXp_time (x : Nat) (e : Option XpEntry) : (s.setXp x e).time = s.time := rfl
@[simp] theorem setXp_pending (x : Nat) (e : Option XpEntry) : (s.setXp x e).pending = s.pending := rfl
@[simp] theorem setXp_lines (x : Nat) (e : Option XpEntry) : (s.setXp x e).lines = s.lines := rfl
@[simp] theorem setXp_choices (x : Nat) (e : Option XpEntry) : (s.setXp x e).choices = s.choices := rfl

/-! ### `modHandover` -/

@[simp] theorem modHandover_sectionState (n : Nat) (f : Handover → Handover) : (s.modHandover n f).sectionState = s.sectionState := rfl
@[simp] theorem modHandover_params (n : Nat) (f : Handover → Handover) : (s.modHandover n f).params = s.params := rfl
@[simp] theorem modHandover_columns (n : Nat) (f : Handover → Handover) : (s.modHandover n f).columns = s.columns := rfl
@[simp] theorem modHandover_lockFlags (n : Nat) (f : Handover → Handover) : (s.modHandover n f).lockFlags = s.lockFlags := rfl
@[simp] theorem modHandover_xpMap (n : Nat) (f : Handover → Handover) : (s.modHandover n f).xpMap = s.xpMap := rfl
@[simp] theorem modHandover_handovers (n : Nat) (f : Handover → Handover) :
    (s.modHandover n f).handovers =
      s.handovers.map fun h => if h.number == n then f h else h := rfl
@[simp] theorem modHandover_lastNumber (n : Nat) (f : Handover → Handover) : (s.modHandover n f).lastNumber = s.lastNumber := rfl
@[simp] theorem modHandover_roster (n : Nat) (f : Handover → Handover) : (s.modHandover n f).roster = s.roster := rfl
@[simp] theorem modHandover_audit (n : Nat) (f : Handover → Handover) : (s.modHandover n f).audit = s.audit := rfl
@[simp] theorem modHandover_zones (n : Nat) (f : Handover → Handover) : (s.modHandover n f).zones = s.zones := rfl
@[simp] theorem modHandover_link (n : Nat) (f : Handover → Handover) : (s.modHandover n f).link = s.link := rfl
@[simp] theorem modHandover_time (n : Nat) (f : Handover → Handover) : (s.modHandover n f).time = s.time := rfl
@[simp] theorem modHandover_pending (n : Nat) (f : Handover → Handover) : (s.modHandover n f).pending = s.pending := rfl
@[simp] theorem modHandover_lines (n : Nat) (f : Handover → Handover) : (s.modHandover n f).lines = s.lines := rfl
@[simp] theorem modHandover_choices (n : Nat) (f : Handover → Handover) : (s.modHandover n f).choices = s.choices := rfl

/-! ### `modHandovers` -/

@[simp] theorem modHandovers_sectionState (p : Handover → Bool) (f : Handover → Handover) : (s.modHandovers p f).sectionState = s.sectionState := rfl
@[simp] theorem modHandovers_params (p : Handover → Bool) (f : Handover → Handover) : (s.modHandovers p f).params = s.params := rfl
@[simp] theorem modHandovers_columns (p : Handover → Bool) (f : Handover → Handover) : (s.modHandovers p f).columns = s.columns := rfl
@[simp] theorem modHandovers_lockFlags (p : Handover → Bool) (f : Handover → Handover) : (s.modHandovers p f).lockFlags = s.lockFlags := rfl
@[simp] theorem modHandovers_xpMap (p : Handover → Bool) (f : Handover → Handover) : (s.modHandovers p f).xpMap = s.xpMap := rfl
@[simp] theorem modHandovers_handovers (p : Handover → Bool) (f : Handover → Handover) :
    (s.modHandovers p f).handovers =
      s.handovers.map fun h => if p h then f h else h := rfl
@[simp] theorem modHandovers_lastNumber (p : Handover → Bool) (f : Handover → Handover) : (s.modHandovers p f).lastNumber = s.lastNumber := rfl
@[simp] theorem modHandovers_roster (p : Handover → Bool) (f : Handover → Handover) : (s.modHandovers p f).roster = s.roster := rfl
@[simp] theorem modHandovers_audit (p : Handover → Bool) (f : Handover → Handover) : (s.modHandovers p f).audit = s.audit := rfl
@[simp] theorem modHandovers_zones (p : Handover → Bool) (f : Handover → Handover) : (s.modHandovers p f).zones = s.zones := rfl
@[simp] theorem modHandovers_link (p : Handover → Bool) (f : Handover → Handover) : (s.modHandovers p f).link = s.link := rfl
@[simp] theorem modHandovers_time (p : Handover → Bool) (f : Handover → Handover) : (s.modHandovers p f).time = s.time := rfl
@[simp] theorem modHandovers_pending (p : Handover → Bool) (f : Handover → Handover) : (s.modHandovers p f).pending = s.pending := rfl
@[simp] theorem modHandovers_lines (p : Handover → Bool) (f : Handover → Handover) : (s.modHandovers p f).lines = s.lines := rfl
@[simp] theorem modHandovers_choices (p : Handover → Bool) (f : Handover → Handover) : (s.modHandovers p f).choices = s.choices := rfl

/-! ### `freeHandover` -/

@[simp] theorem freeHandover_sectionState (n : Nat) : (s.freeHandover n).sectionState = s.sectionState := rfl
@[simp] theorem freeHandover_params (n : Nat) : (s.freeHandover n).params = s.params := rfl
@[simp] theorem freeHandover_columns (n : Nat) : (s.freeHandover n).columns = s.columns := rfl
@[simp] theorem freeHandover_lockFlags (n : Nat) : (s.freeHandover n).lockFlags = s.lockFlags := rfl
@[simp] theorem freeHandover_xpMap (n : Nat) : (s.freeHandover n).xpMap = s.xpMap := rfl
@[simp] theorem freeHandover_handovers (n : Nat) :
    (s.freeHandover n).handovers =
      s.handovers.filter fun h => h.number != n := rfl
@[simp] theorem freeHandover_lastNumber (n : Nat) : (s.freeHandover n).lastNumber = s.lastNumber := rfl
@[simp] theorem freeHandover_roster (n : Nat) : (s.freeHandover n).roster = s.roster := rfl
@[simp] theorem freeHandover_audit (n : Nat) : (s.freeHandover n).audit = s.audit := rfl
@[simp] theorem freeHandover_zones (n : Nat) : (s.freeHandover n).zones = s.zones := rfl
@[simp] theorem freeHandover_link (n : Nat) : (s.freeHandover n).link = s.link := rfl
@[simp] theorem freeHandover_time (n : Nat) : (s.freeHandover n).time = s.time := rfl
@[simp] theorem freeHandover_pending (n : Nat) : (s.freeHandover n).pending = s.pending := rfl
@[simp] theorem freeHandover_lines (n : Nat) : (s.freeHandover n).lines = s.lines := rfl
@[simp] theorem freeHandover_choices (n : Nat) : (s.freeHandover n).choices = s.choices := rfl

/-! ### `addHandover` -/

@[simp] theorem addHandover_sectionState (h : Handover) : (s.addHandover h).sectionState = s.sectionState := rfl
@[simp] theorem addHandover_params (h : Handover) : (s.addHandover h).params = s.params := rfl
@[simp] theorem addHandover_columns (h : Handover) : (s.addHandover h).columns = s.columns := rfl
@[simp] theorem addHandover_lockFlags (h : Handover) : (s.addHandover h).lockFlags = s.lockFlags := rfl
@[simp] theorem addHandover_xpMap (h : Handover) : (s.addHandover h).xpMap = s.xpMap := rfl
@[simp] theorem addHandover_handovers (h : Handover) :
    (s.addHandover h).handovers =
      s.handovers.filter (fun k => k.number < h.number) ++ h ::
        s.handovers.filter (fun k => h.number ≤ k.number) := rfl
@[simp] theorem addHandover_lastNumber (h : Handover) : (s.addHandover h).lastNumber = s.lastNumber := rfl
@[simp] theorem addHandover_roster (h : Handover) : (s.addHandover h).roster = s.roster := rfl
@[simp] theorem addHandover_audit (h : Handover) : (s.addHandover h).audit = s.audit := rfl
@[simp] theorem addHandover_zones (h : Handover) : (s.addHandover h).zones = s.zones := rfl
@[simp] theorem addHandover_link (h : Handover) : (s.addHandover h).link = s.link := rfl
@[simp] theorem addHandover_time (h : Handover) : (s.addHandover h).time = s.time := rfl
@[simp] theorem addHandover_pending (h : Handover) : (s.addHandover h).pending = s.pending := rfl
@[simp] theorem addHandover_lines (h : Handover) : (s.addHandover h).lines = s.lines := rfl
@[simp] theorem addHandover_choices (h : Handover) : (s.addHandover h).choices = s.choices := rfl

/-! ### `modLink` -/

@[simp] theorem modLink_sectionState (f : LinkUnit → LinkUnit) : (s.modLink f).sectionState = s.sectionState := rfl
@[simp] theorem modLink_params (f : LinkUnit → LinkUnit) : (s.modLink f).params = s.params := rfl
@[simp] theorem modLink_columns (f : LinkUnit → LinkUnit) : (s.modLink f).columns = s.columns := rfl
@[simp] theorem modLink_lockFlags (f : LinkUnit → LinkUnit) : (s.modLink f).lockFlags = s.lockFlags := rfl
@[simp] theorem modLink_xpMap (f : LinkUnit → LinkUnit) : (s.modLink f).xpMap = s.xpMap := rfl
@[simp] theorem modLink_handovers (f : LinkUnit → LinkUnit) : (s.modLink f).handovers = s.handovers := rfl
@[simp] theorem modLink_lastNumber (f : LinkUnit → LinkUnit) : (s.modLink f).lastNumber = s.lastNumber := rfl
@[simp] theorem modLink_roster (f : LinkUnit → LinkUnit) : (s.modLink f).roster = s.roster := rfl
@[simp] theorem modLink_audit (f : LinkUnit → LinkUnit) : (s.modLink f).audit = s.audit := rfl
@[simp] theorem modLink_zones (f : LinkUnit → LinkUnit) : (s.modLink f).zones = s.zones := rfl
@[simp] theorem modLink_link (f : LinkUnit → LinkUnit) :
    (s.modLink f).link =
      f s.link := rfl
@[simp] theorem modLink_time (f : LinkUnit → LinkUnit) : (s.modLink f).time = s.time := rfl
@[simp] theorem modLink_pending (f : LinkUnit → LinkUnit) : (s.modLink f).pending = s.pending := rfl
@[simp] theorem modLink_lines (f : LinkUnit → LinkUnit) : (s.modLink f).lines = s.lines := rfl
@[simp] theorem modLink_choices (f : LinkUnit → LinkUnit) : (s.modLink f).choices = s.choices := rfl

/-! ### `modZones` -/

@[simp] theorem modZones_sectionState (f : ZoneCtl → ZoneCtl) : (s.modZones f).sectionState = s.sectionState := rfl
@[simp] theorem modZones_params (f : ZoneCtl → ZoneCtl) : (s.modZones f).params = s.params := rfl
@[simp] theorem modZones_columns (f : ZoneCtl → ZoneCtl) : (s.modZones f).columns = s.columns := rfl
@[simp] theorem modZones_lockFlags (f : ZoneCtl → ZoneCtl) : (s.modZones f).lockFlags = s.lockFlags := rfl
@[simp] theorem modZones_xpMap (f : ZoneCtl → ZoneCtl) : (s.modZones f).xpMap = s.xpMap := rfl
@[simp] theorem modZones_handovers (f : ZoneCtl → ZoneCtl) : (s.modZones f).handovers = s.handovers := rfl
@[simp] theorem modZones_lastNumber (f : ZoneCtl → ZoneCtl) : (s.modZones f).lastNumber = s.lastNumber := rfl
@[simp] theorem modZones_roster (f : ZoneCtl → ZoneCtl) : (s.modZones f).roster = s.roster := rfl
@[simp] theorem modZones_audit (f : ZoneCtl → ZoneCtl) : (s.modZones f).audit = s.audit := rfl
@[simp] theorem modZones_zones (f : ZoneCtl → ZoneCtl) :
    (s.modZones f).zones =
      f s.zones := rfl
@[simp] theorem modZones_link (f : ZoneCtl → ZoneCtl) : (s.modZones f).link = s.link := rfl
@[simp] theorem modZones_time (f : ZoneCtl → ZoneCtl) : (s.modZones f).time = s.time := rfl
@[simp] theorem modZones_pending (f : ZoneCtl → ZoneCtl) : (s.modZones f).pending = s.pending := rfl
@[simp] theorem modZones_lines (f : ZoneCtl → ZoneCtl) : (s.modZones f).lines = s.lines := rfl
@[simp] theorem modZones_choices (f : ZoneCtl → ZoneCtl) : (s.modZones f).choices = s.choices := rfl

/-! ### `notify` -/

@[simp] theorem notify_sectionState (b : NoticeBody) : (s.notify b).sectionState = s.sectionState := rfl
@[simp] theorem notify_params (b : NoticeBody) : (s.notify b).params = s.params := rfl
@[simp] theorem notify_columns (b : NoticeBody) : (s.notify b).columns = s.columns := rfl
@[simp] theorem notify_lockFlags (b : NoticeBody) : (s.notify b).lockFlags = s.lockFlags := rfl
@[simp] theorem notify_xpMap (b : NoticeBody) : (s.notify b).xpMap = s.xpMap := rfl
@[simp] theorem notify_handovers (b : NoticeBody) : (s.notify b).handovers = s.handovers := rfl
@[simp] theorem notify_lastNumber (b : NoticeBody) : (s.notify b).lastNumber = s.lastNumber := rfl
@[simp] theorem notify_roster (b : NoticeBody) : (s.notify b).roster = s.roster := rfl
@[simp] theorem notify_audit (b : NoticeBody) : (s.notify b).audit = s.audit := rfl
@[simp] theorem notify_zones (b : NoticeBody) : (s.notify b).zones = s.zones := rfl
@[simp] theorem notify_time (b : NoticeBody) : (s.notify b).time = s.time := rfl
@[simp] theorem notify_pending (b : NoticeBody) : (s.notify b).pending = s.pending := rfl
@[simp] theorem notify_lines (b : NoticeBody) : (s.notify b).lines = s.lines := rfl
@[simp] theorem notify_choices (b : NoticeBody) : (s.notify b).choices = s.choices := rfl

/-! ### `send` -/

@[simp] theorem send_sectionState (a : Nat) (m : FleetMsg) : (s.send a m).sectionState = s.sectionState := rfl
@[simp] theorem send_params (a : Nat) (m : FleetMsg) : (s.send a m).params = s.params := rfl
@[simp] theorem send_columns (a : Nat) (m : FleetMsg) : (s.send a m).columns = s.columns := rfl
@[simp] theorem send_lockFlags (a : Nat) (m : FleetMsg) : (s.send a m).lockFlags = s.lockFlags := rfl
@[simp] theorem send_xpMap (a : Nat) (m : FleetMsg) : (s.send a m).xpMap = s.xpMap := rfl
@[simp] theorem send_handovers (a : Nat) (m : FleetMsg) : (s.send a m).handovers = s.handovers := rfl
@[simp] theorem send_lastNumber (a : Nat) (m : FleetMsg) : (s.send a m).lastNumber = s.lastNumber := rfl
@[simp] theorem send_roster (a : Nat) (m : FleetMsg) : (s.send a m).roster = s.roster := rfl
@[simp] theorem send_audit (a : Nat) (m : FleetMsg) : (s.send a m).audit = s.audit := rfl
@[simp] theorem send_zones (a : Nat) (m : FleetMsg) : (s.send a m).zones = s.zones := rfl
@[simp] theorem send_time (a : Nat) (m : FleetMsg) : (s.send a m).time = s.time := rfl
@[simp] theorem send_pending (a : Nat) (m : FleetMsg) : (s.send a m).pending = s.pending := rfl
@[simp] theorem send_lines (a : Nat) (m : FleetMsg) : (s.send a m).lines = s.lines := rfl
@[simp] theorem send_choices (a : Nat) (m : FleetMsg) : (s.send a m).choices = s.choices := rfl

/-! ### `reply` -/

@[simp] theorem reply_sectionState (r : Reply) : (s.reply r).sectionState = s.sectionState := rfl
@[simp] theorem reply_params (r : Reply) : (s.reply r).params = s.params := rfl
@[simp] theorem reply_columns (r : Reply) : (s.reply r).columns = s.columns := rfl
@[simp] theorem reply_lockFlags (r : Reply) : (s.reply r).lockFlags = s.lockFlags := rfl
@[simp] theorem reply_xpMap (r : Reply) : (s.reply r).xpMap = s.xpMap := rfl
@[simp] theorem reply_handovers (r : Reply) : (s.reply r).handovers = s.handovers := rfl
@[simp] theorem reply_lastNumber (r : Reply) : (s.reply r).lastNumber = s.lastNumber := rfl
@[simp] theorem reply_roster (r : Reply) : (s.reply r).roster = s.roster := rfl
@[simp] theorem reply_audit (r : Reply) : (s.reply r).audit = s.audit := rfl
@[simp] theorem reply_zones (r : Reply) : (s.reply r).zones = s.zones := rfl
@[simp] theorem reply_link (r : Reply) :
    (s.reply r).link =
      { s.link with replies := s.link.replies ++ [r] } := rfl
@[simp] theorem reply_time (r : Reply) : (s.reply r).time = s.time := rfl
@[simp] theorem reply_pending (r : Reply) : (s.reply r).pending = s.pending := rfl
@[simp] theorem reply_lines (r : Reply) : (s.reply r).lines = s.lines := rfl
@[simp] theorem reply_choices (r : Reply) : (s.reply r).choices = s.choices := rfl

/-! ### `receive` -/

@[simp] theorem receive_sectionState (r : HostRequest) : (s.receive r).sectionState = s.sectionState := rfl
@[simp] theorem receive_params (r : HostRequest) : (s.receive r).params = s.params := rfl
@[simp] theorem receive_columns (r : HostRequest) : (s.receive r).columns = s.columns := rfl
@[simp] theorem receive_lockFlags (r : HostRequest) : (s.receive r).lockFlags = s.lockFlags := rfl
@[simp] theorem receive_xpMap (r : HostRequest) : (s.receive r).xpMap = s.xpMap := rfl
@[simp] theorem receive_handovers (r : HostRequest) : (s.receive r).handovers = s.handovers := rfl
@[simp] theorem receive_lastNumber (r : HostRequest) : (s.receive r).lastNumber = s.lastNumber := rfl
@[simp] theorem receive_roster (r : HostRequest) : (s.receive r).roster = s.roster := rfl
@[simp] theorem receive_audit (r : HostRequest) : (s.receive r).audit = s.audit := rfl
@[simp] theorem receive_zones (r : HostRequest) : (s.receive r).zones = s.zones := rfl
@[simp] theorem receive_link (r : HostRequest) :
    (s.receive r).link =
      { s.link with received := s.link.received ++ [r] } := rfl
@[simp] theorem receive_time (r : HostRequest) : (s.receive r).time = s.time := rfl
@[simp] theorem receive_pending (r : HostRequest) : (s.receive r).pending = s.pending := rfl
@[simp] theorem receive_lines (r : HostRequest) : (s.receive r).lines = s.lines := rfl
@[simp] theorem receive_choices (r : HostRequest) : (s.receive r).choices = s.choices := rfl

/-! ### `startTx` -/

@[simp] theorem startTx_sectionState  : s.startTx.sectionState = s.sectionState := rfl
@[simp] theorem startTx_params  : s.startTx.params = s.params := rfl
@[simp] theorem startTx_columns  : s.startTx.columns = s.columns := rfl
@[simp] theorem startTx_lockFlags  : s.startTx.lockFlags = s.lockFlags := rfl
@[simp] theorem startTx_xpMap  : s.startTx.xpMap = s.xpMap := rfl
@[simp] theorem startTx_handovers  : s.startTx.handovers = s.handovers := rfl
@[simp] theorem startTx_lastNumber  : s.startTx.lastNumber = s.lastNumber := rfl
@[simp] theorem startTx_roster  : s.startTx.roster = s.roster := rfl
@[simp] theorem startTx_audit  : s.startTx.audit = s.audit := rfl
@[simp] theorem startTx_zones  : s.startTx.zones = s.zones := rfl
@[simp] theorem startTx_time  : s.startTx.time = s.time := rfl
@[simp] theorem startTx_pending  : s.startTx.pending = s.pending := rfl
@[simp] theorem startTx_lines  : s.startTx.lines = s.lines := rfl
@[simp] theorem startTx_choices  : s.startTx.choices = s.choices := rfl

/-! ### `discardControl` -/

@[simp] theorem discardControl_sectionState  : s.discardControl.sectionState = s.sectionState := rfl
@[simp] theorem discardControl_params  : s.discardControl.params = s.params := rfl
@[simp] theorem discardControl_columns  : s.discardControl.columns = s.columns := rfl
@[simp] theorem discardControl_lockFlags  : s.discardControl.lockFlags = s.lockFlags := rfl
@[simp] theorem discardControl_xpMap  : s.discardControl.xpMap = s.xpMap := rfl
@[simp] theorem discardControl_handovers  : s.discardControl.handovers = s.handovers := rfl
@[simp] theorem discardControl_lastNumber  : s.discardControl.lastNumber = s.lastNumber := rfl
@[simp] theorem discardControl_roster  : s.discardControl.roster = s.roster := rfl
@[simp] theorem discardControl_audit  : s.discardControl.audit = s.audit := rfl
@[simp] theorem discardControl_zones  : s.discardControl.zones = s.zones := rfl
@[simp] theorem discardControl_link  :
    s.discardControl.link =
      { s.link with controlDiscards := countUp 65535 s.link.controlDiscards } := rfl
@[simp] theorem discardControl_time  : s.discardControl.time = s.time := rfl
@[simp] theorem discardControl_pending  : s.discardControl.pending = s.pending := rfl
@[simp] theorem discardControl_lines  : s.discardControl.lines = s.lines := rfl
@[simp] theorem discardControl_choices  : s.discardControl.choices = s.choices := rfl

/-! ### `discardFleet` -/

@[simp] theorem discardFleet_sectionState  : s.discardFleet.sectionState = s.sectionState := rfl
@[simp] theorem discardFleet_params  : s.discardFleet.params = s.params := rfl
@[simp] theorem discardFleet_columns  : s.discardFleet.columns = s.columns := rfl
@[simp] theorem discardFleet_lockFlags  : s.discardFleet.lockFlags = s.lockFlags := rfl
@[simp] theorem discardFleet_xpMap  : s.discardFleet.xpMap = s.xpMap := rfl
@[simp] theorem discardFleet_handovers  : s.discardFleet.handovers = s.handovers := rfl
@[simp] theorem discardFleet_lastNumber  : s.discardFleet.lastNumber = s.lastNumber := rfl
@[simp] theorem discardFleet_roster  : s.discardFleet.roster = s.roster := rfl
@[simp] theorem discardFleet_audit  : s.discardFleet.audit = s.audit := rfl
@[simp] theorem discardFleet_zones  : s.discardFleet.zones = s.zones := rfl
@[simp] theorem discardFleet_link  :
    s.discardFleet.link =
      { s.link with fleetDiscards := countUp 65535 s.link.fleetDiscards } := rfl
@[simp] theorem discardFleet_time  : s.discardFleet.time = s.time := rfl
@[simp] theorem discardFleet_pending  : s.discardFleet.pending = s.pending := rfl
@[simp] theorem discardFleet_lines  : s.discardFleet.lines = s.lines := rfl
@[simp] theorem discardFleet_choices  : s.discardFleet.choices = s.choices := rfl

/-! ### `endCall` -/

@[simp] theorem endCall_sectionState (c : Nat) : (s.endCall c).sectionState = s.sectionState := rfl
@[simp] theorem endCall_params (c : Nat) : (s.endCall c).params = s.params := rfl
@[simp] theorem endCall_columns (c : Nat) : (s.endCall c).columns = s.columns := rfl
@[simp] theorem endCall_lockFlags (c : Nat) : (s.endCall c).lockFlags = s.lockFlags := rfl
@[simp] theorem endCall_xpMap (c : Nat) : (s.endCall c).xpMap = s.xpMap := rfl
@[simp] theorem endCall_handovers (c : Nat) : (s.endCall c).handovers = s.handovers := rfl
@[simp] theorem endCall_lastNumber (c : Nat) : (s.endCall c).lastNumber = s.lastNumber := rfl
@[simp] theorem endCall_roster (c : Nat) : (s.endCall c).roster = s.roster := rfl
@[simp] theorem endCall_audit (c : Nat) :
    (s.endCall c).audit =
      ⟨.idle, pointerAfter c, none, none, false, s.audit.tick, s.audit.interval⟩ := rfl
@[simp] theorem endCall_zones (c : Nat) : (s.endCall c).zones = s.zones := rfl
@[simp] theorem endCall_link (c : Nat) : (s.endCall c).link = s.link := rfl
@[simp] theorem endCall_time (c : Nat) : (s.endCall c).time = s.time := rfl
@[simp] theorem endCall_pending (c : Nat) : (s.endCall c).pending = s.pending := rfl
@[simp] theorem endCall_lines (c : Nat) : (s.endCall c).lines = s.lines := rfl
@[simp] theorem endCall_choices (c : Nat) : (s.endCall c).choices = s.choices := rfl

/-! ### `startTick` -/

@[simp] theorem startTick_sectionState  : s.startTick.sectionState = s.sectionState := rfl
@[simp] theorem startTick_params  : s.startTick.params = s.params := rfl
@[simp] theorem startTick_columns  : s.startTick.columns = s.columns := rfl
@[simp] theorem startTick_lockFlags  : s.startTick.lockFlags = s.lockFlags := rfl
@[simp] theorem startTick_xpMap  : s.startTick.xpMap = s.xpMap := rfl
@[simp] theorem startTick_handovers  : s.startTick.handovers = s.handovers := rfl
@[simp] theorem startTick_lastNumber  : s.startTick.lastNumber = s.lastNumber := rfl
@[simp] theorem startTick_roster  : s.startTick.roster = s.roster := rfl
@[simp] theorem startTick_audit  :
    s.startTick.audit =
      { s.audit with tick := some s.tickInterval, interval := some s.tickInterval } := rfl
@[simp] theorem startTick_zones  : s.startTick.zones = s.zones := rfl
@[simp] theorem startTick_link  : s.startTick.link = s.link := rfl
@[simp] theorem startTick_time  : s.startTick.time = s.time := rfl
@[simp] theorem startTick_pending  : s.startTick.pending = s.pending := rfl
@[simp] theorem startTick_lines  : s.startTick.lines = s.lines := rfl
@[simp] theorem startTick_choices  : s.startTick.choices = s.choices := rfl

/-! ### `modRobot` -/

@[simp] theorem modRobot_sectionState (a : Nat) (f : Robot → Robot) : (s.modRobot a f).sectionState = s.sectionState := by
  unfold modRobot; split <;> rfl
@[simp] theorem modRobot_params (a : Nat) (f : Robot → Robot) : (s.modRobot a f).params = s.params := by
  unfold modRobot; split <;> rfl
@[simp] theorem modRobot_columns (a : Nat) (f : Robot → Robot) : (s.modRobot a f).columns = s.columns := by
  unfold modRobot; split <;> rfl
@[simp] theorem modRobot_lockFlags (a : Nat) (f : Robot → Robot) : (s.modRobot a f).lockFlags = s.lockFlags := by
  unfold modRobot; split <;> rfl
@[simp] theorem modRobot_xpMap (a : Nat) (f : Robot → Robot) : (s.modRobot a f).xpMap = s.xpMap := by
  unfold modRobot; split <;> rfl
@[simp] theorem modRobot_handovers (a : Nat) (f : Robot → Robot) : (s.modRobot a f).handovers = s.handovers := by
  unfold modRobot; split <;> rfl
@[simp] theorem modRobot_lastNumber (a : Nat) (f : Robot → Robot) : (s.modRobot a f).lastNumber = s.lastNumber := by
  unfold modRobot; split <;> rfl
@[simp] theorem modRobot_audit (a : Nat) (f : Robot → Robot) : (s.modRobot a f).audit = s.audit := by
  unfold modRobot; split <;> rfl
@[simp] theorem modRobot_zones (a : Nat) (f : Robot → Robot) : (s.modRobot a f).zones = s.zones := by
  unfold modRobot; split <;> rfl
@[simp] theorem modRobot_link (a : Nat) (f : Robot → Robot) : (s.modRobot a f).link = s.link := by
  unfold modRobot; split <;> rfl
@[simp] theorem modRobot_time (a : Nat) (f : Robot → Robot) : (s.modRobot a f).time = s.time := by
  unfold modRobot; split <;> rfl
@[simp] theorem modRobot_pending (a : Nat) (f : Robot → Robot) : (s.modRobot a f).pending = s.pending := by
  unfold modRobot; split <;> rfl
@[simp] theorem modRobot_lines (a : Nat) (f : Robot → Robot) : (s.modRobot a f).lines = s.lines := by
  unfold modRobot; split <;> rfl
@[simp] theorem modRobot_choices (a : Nat) (f : Robot → Robot) : (s.modRobot a f).choices = s.choices := by
  unfold modRobot; split <;> rfl

/-! ### `setRobot` -/

@[simp] theorem setRobot_sectionState (a : Nat) (r : Option Robot) : (s.setRobot a r).sectionState = s.sectionState := by
  unfold setRobot; split <;> rfl
@[simp] theorem setRobot_params (a : Nat) (r : Option Robot) : (s.setRobot a r).params = s.params := by
  unfold setRobot; split <;> rfl
@[simp] theorem setRobot_columns (a : Nat) (r : Option Robot) : (s.setRobot a r).columns = s.columns := by
  unfold setRobot; split <;> rfl
@[simp] theorem setRobot_lockFlags (a : Nat) (r : Option Robot) : (s.setRobot a r).lockFlags = s.lockFlags := by
  unfold setRobot; split <;> rfl
@[simp] theorem setRobot_xpMap (a : Nat) (r : Option Robot) : (s.setRobot a r).xpMap = s.xpMap := by
  unfold setRobot; split <;> rfl
@[simp] theorem setRobot_handovers (a : Nat) (r : Option Robot) : (s.setRobot a r).handovers = s.handovers := by
  unfold setRobot; split <;> rfl
@[simp] theorem setRobot_lastNumber (a : Nat) (r : Option Robot) : (s.setRobot a r).lastNumber = s.lastNumber := by
  unfold setRobot; split <;> rfl
@[simp] theorem setRobot_audit (a : Nat) (r : Option Robot) : (s.setRobot a r).audit = s.audit := by
  unfold setRobot; split <;> rfl
@[simp] theorem setRobot_zones (a : Nat) (r : Option Robot) : (s.setRobot a r).zones = s.zones := by
  unfold setRobot; split <;> rfl
@[simp] theorem setRobot_link (a : Nat) (r : Option Robot) : (s.setRobot a r).link = s.link := by
  unfold setRobot; split <;> rfl
@[simp] theorem setRobot_time (a : Nat) (r : Option Robot) : (s.setRobot a r).time = s.time := by
  unfold setRobot; split <;> rfl
@[simp] theorem setRobot_pending (a : Nat) (r : Option Robot) : (s.setRobot a r).pending = s.pending := by
  unfold setRobot; split <;> rfl
@[simp] theorem setRobot_lines (a : Nat) (r : Option Robot) : (s.setRobot a r).lines = s.lines := by
  unfold setRobot; split <;> rfl
@[simp] theorem setRobot_choices (a : Nat) (r : Option Robot) : (s.setRobot a r).choices = s.choices := by
  unfold setRobot; split <;> rfl

/-! ### `setSlot` -/

@[simp] theorem setSlot_sectionState (a : Nat) (sl : Slot) (b : Bool) : (s.setSlot a sl b).sectionState = s.sectionState := by
  simp [setSlot]
@[simp] theorem setSlot_params (a : Nat) (sl : Slot) (b : Bool) : (s.setSlot a sl b).params = s.params := by
  simp [setSlot]
@[simp] theorem setSlot_columns (a : Nat) (sl : Slot) (b : Bool) : (s.setSlot a sl b).columns = s.columns := by
  simp [setSlot]
@[simp] theorem setSlot_lockFlags (a : Nat) (sl : Slot) (b : Bool) : (s.setSlot a sl b).lockFlags = s.lockFlags := by
  simp [setSlot]
@[simp] theorem setSlot_xpMap (a : Nat) (sl : Slot) (b : Bool) : (s.setSlot a sl b).xpMap = s.xpMap := by
  simp [setSlot]
@[simp] theorem setSlot_handovers (a : Nat) (sl : Slot) (b : Bool) : (s.setSlot a sl b).handovers = s.handovers := by
  simp [setSlot]
@[simp] theorem setSlot_lastNumber (a : Nat) (sl : Slot) (b : Bool) : (s.setSlot a sl b).lastNumber = s.lastNumber := by
  simp [setSlot]
@[simp] theorem setSlot_audit (a : Nat) (sl : Slot) (b : Bool) : (s.setSlot a sl b).audit = s.audit := by
  simp [setSlot]
@[simp] theorem setSlot_zones (a : Nat) (sl : Slot) (b : Bool) : (s.setSlot a sl b).zones = s.zones := by
  simp [setSlot]
@[simp] theorem setSlot_link (a : Nat) (sl : Slot) (b : Bool) : (s.setSlot a sl b).link = s.link := by
  simp [setSlot]
@[simp] theorem setSlot_time (a : Nat) (sl : Slot) (b : Bool) : (s.setSlot a sl b).time = s.time := by
  simp [setSlot]
@[simp] theorem setSlot_pending (a : Nat) (sl : Slot) (b : Bool) : (s.setSlot a sl b).pending = s.pending := by
  simp [setSlot]
@[simp] theorem setSlot_lines (a : Nat) (sl : Slot) (b : Bool) : (s.setSlot a sl b).lines = s.lines := by
  simp [setSlot]
@[simp] theorem setSlot_choices (a : Nat) (sl : Slot) (b : Bool) : (s.setSlot a sl b).choices = s.choices := by
  simp [setSlot]

/-! ### The link unit under `notify`, `send` and `startTx` -/

@[simp] theorem notify_link_received (b : NoticeBody) : (s.notify b).link.received = s.link.received := by
  unfold notify modLink; dsimp only; split <;> rfl
@[simp] theorem notify_link_replies (b : NoticeBody) : (s.notify b).link.replies = s.link.replies := by
  unfold notify modLink; dsimp only; split <;> rfl
@[simp] theorem notify_link_tx (b : NoticeBody) : (s.notify b).link.tx = s.link.tx := by
  unfold notify modLink; dsimp only; split <;> rfl
@[simp] theorem notify_link_fleet (b : NoticeBody) : (s.notify b).link.fleet = s.link.fleet := by
  unfold notify modLink; dsimp only; split <;> rfl
@[simp] theorem notify_link_controlDiscards (b : NoticeBody) : (s.notify b).link.controlDiscards = s.link.controlDiscards := by
  unfold notify modLink; dsimp only; split <;> rfl
@[simp] theorem notify_link_fleetDiscards (b : NoticeBody) : (s.notify b).link.fleetDiscards = s.link.fleetDiscards := by
  unfold notify modLink; dsimp only; split <;> rfl
@[simp] theorem notify_link_fleetDrops (b : NoticeBody) : (s.notify b).link.fleetDrops = s.link.fleetDrops := by
  unfold notify modLink; dsimp only; split <;> rfl
@[simp] theorem notify_link_rate (b : NoticeBody) : (s.notify b).link.rate = s.link.rate := by
  unfold notify modLink; dsimp only; split <;> rfl
@[simp] theorem notify_link_controlHeld (b : NoticeBody) : (s.notify b).link.controlHeld = s.link.controlHeld := by
  unfold notify modLink; dsimp only; split <;> rfl
@[simp] theorem notify_link_fleetHeld (b : NoticeBody) : (s.notify b).link.fleetHeld = s.link.fleetHeld := by
  unfold notify modLink; dsimp only; split <;> rfl
@[simp] theorem notify_link_controlGap (b : NoticeBody) : (s.notify b).link.controlGap = s.link.controlGap := by
  unfold notify modLink; dsimp only; split <;> rfl
@[simp] theorem notify_link_fleetGap (b : NoticeBody) : (s.notify b).link.fleetGap = s.link.fleetGap := by
  unfold notify modLink; dsimp only; split <;> rfl
@[simp] theorem send_link_received (a : Nat) (m : FleetMsg) : (s.send a m).link.received = s.link.received := by
  unfold send modLink; dsimp only; split <;> rfl
@[simp] theorem send_link_replies (a : Nat) (m : FleetMsg) : (s.send a m).link.replies = s.link.replies := by
  unfold send modLink; dsimp only; split <;> rfl
@[simp] theorem send_link_tx (a : Nat) (m : FleetMsg) : (s.send a m).link.tx = s.link.tx := by
  unfold send modLink; dsimp only; split <;> rfl
@[simp] theorem send_link_notices (a : Nat) (m : FleetMsg) : (s.send a m).link.notices = s.link.notices := by
  unfold send modLink; dsimp only; split <;> rfl
@[simp] theorem send_link_overrun (a : Nat) (m : FleetMsg) : (s.send a m).link.overrun = s.link.overrun := by
  unfold send modLink; dsimp only; split <;> rfl
@[simp] theorem send_link_lost (a : Nat) (m : FleetMsg) : (s.send a m).link.lost = s.link.lost := by
  unfold send modLink; dsimp only; split <;> rfl
@[simp] theorem send_link_nextSeq (a : Nat) (m : FleetMsg) : (s.send a m).link.nextSeq = s.link.nextSeq := by
  unfold send modLink; dsimp only; split <;> rfl
@[simp] theorem send_link_controlDiscards (a : Nat) (m : FleetMsg) : (s.send a m).link.controlDiscards = s.link.controlDiscards := by
  unfold send modLink; dsimp only; split <;> rfl
@[simp] theorem send_link_fleetDiscards (a : Nat) (m : FleetMsg) : (s.send a m).link.fleetDiscards = s.link.fleetDiscards := by
  unfold send modLink; dsimp only; split <;> rfl
@[simp] theorem send_link_rate (a : Nat) (m : FleetMsg) : (s.send a m).link.rate = s.link.rate := by
  unfold send modLink; dsimp only; split <;> rfl
@[simp] theorem send_link_controlHeld (a : Nat) (m : FleetMsg) : (s.send a m).link.controlHeld = s.link.controlHeld := by
  unfold send modLink; dsimp only; split <;> rfl
@[simp] theorem send_link_fleetHeld (a : Nat) (m : FleetMsg) : (s.send a m).link.fleetHeld = s.link.fleetHeld := by
  unfold send modLink; dsimp only; split <;> rfl
@[simp] theorem send_link_controlGap (a : Nat) (m : FleetMsg) : (s.send a m).link.controlGap = s.link.controlGap := by
  unfold send modLink; dsimp only; split <;> rfl
@[simp] theorem send_link_fleetGap (a : Nat) (m : FleetMsg) : (s.send a m).link.fleetGap = s.link.fleetGap := by
  unfold send modLink; dsimp only; split <;> rfl
@[simp] theorem startTx_link_received  : s.startTx.link.received = s.link.received := by
  unfold startTx modLink; dsimp only; split <;> (try split) <;> (try split) <;> rfl
@[simp] theorem startTx_link_replies  : s.startTx.link.replies = s.link.replies := by
  unfold startTx modLink; dsimp only; split <;> (try split) <;> (try split) <;> rfl
@[simp] theorem startTx_link_notices  : s.startTx.link.notices = s.link.notices := by
  unfold startTx modLink; dsimp only; split <;> (try split) <;> (try split) <;> rfl
@[simp] theorem startTx_link_overrun  : s.startTx.link.overrun = s.link.overrun := by
  unfold startTx modLink; dsimp only; split <;> (try split) <;> (try split) <;> rfl
@[simp] theorem startTx_link_lost  : s.startTx.link.lost = s.link.lost := by
  unfold startTx modLink; dsimp only; split <;> (try split) <;> (try split) <;> rfl
@[simp] theorem startTx_link_nextSeq  : s.startTx.link.nextSeq = s.link.nextSeq := by
  unfold startTx modLink; dsimp only; split <;> (try split) <;> (try split) <;> rfl
@[simp] theorem startTx_link_fleet  : s.startTx.link.fleet = s.link.fleet := by
  unfold startTx modLink; dsimp only; split <;> (try split) <;> (try split) <;> rfl
@[simp] theorem startTx_link_controlDiscards  : s.startTx.link.controlDiscards = s.link.controlDiscards := by
  unfold startTx modLink; dsimp only; split <;> (try split) <;> (try split) <;> rfl
@[simp] theorem startTx_link_fleetDiscards  : s.startTx.link.fleetDiscards = s.link.fleetDiscards := by
  unfold startTx modLink; dsimp only; split <;> (try split) <;> (try split) <;> rfl
@[simp] theorem startTx_link_fleetDrops  : s.startTx.link.fleetDrops = s.link.fleetDrops := by
  unfold startTx modLink; dsimp only; split <;> (try split) <;> (try split) <;> rfl
@[simp] theorem startTx_link_rate  : s.startTx.link.rate = s.link.rate := by
  unfold startTx modLink; dsimp only; split <;> (try split) <;> (try split) <;> rfl
@[simp] theorem startTx_link_controlHeld  : s.startTx.link.controlHeld = s.link.controlHeld := by
  unfold startTx modLink; dsimp only; split <;> (try split) <;> (try split) <;> rfl
@[simp] theorem startTx_link_fleetHeld  : s.startTx.link.fleetHeld = s.link.fleetHeld := by
  unfold startTx modLink; dsimp only; split <;> (try split) <;> (try split) <;> rfl
@[simp] theorem startTx_link_controlGap  : s.startTx.link.controlGap = s.link.controlGap := by
  unfold startTx modLink; dsimp only; split <;> (try split) <;> (try split) <;> rfl
@[simp] theorem startTx_link_fleetGap  : s.startTx.link.fleetGap = s.link.fleetGap := by
  unfold startTx modLink; dsimp only; split <;> (try split) <;> (try split) <;> rfl
@[simp] theorem notify_link_nextSeq (b : NoticeBody) :
    (s.notify b).link.nextSeq = s.link.nextSeq + 1 := by
  unfold notify modLink; dsimp only; split <;> rfl

end Sys2Proof.Machine.State
end

