-- ==== Sys2Proof/Laws/Tables.lean ====
section
/-! SUPPORT. Reading a table after writing it: one lemma for each read under each write. -/

namespace Sys2Proof.Machine.State

variable (s : State)

/-! ### Columns -/

theorem col_modCol_ne {c e : Nat} (h : e ≠ c) (f : Column → Column) :
    (s.modCol c f).col e = s.col e := updateAt_getD_ne s.columns h f Column.blank

theorem col_modCol_same {c : Nat} (h : c < s.columns.length) (f : Column → Column) :
    (s.modCol c f).col c = f (s.col c) := updateAt_getD_same s.columns h f Column.blank

/-- A column outside the table reads as an undefined one. -/
theorem col_of_length_le {c : Nat} (h : s.columns.length ≤ c) : s.col c = Column.blank := by
  simp [col, List.getD_eq_getElem?_getD, List.getElem?_eq_none h]

theorem lt_of_col_ne {c : Nat} (h : s.col c ≠ Column.blank) : c < s.columns.length := by
  by_contra k
  exact h (s.col_of_length_le (by omega))

theorem lt_of_defn {c : Nat} {d : Defn} (h : s.defn c = some d) : c < s.columns.length :=
  s.lt_of_col_ne fun e => by simp [defn, e, Column.blank] at h

/-- What an update of column records keeps of each record, it keeps of the table. -/
theorem col_modCol_proj {β : Type} (g : Column → β) (c e : Nat) (f : Column → Column)
    (h : ∀ k, g (f k) = g k) : g ((s.modCol c f).col e) = g (s.col e) := by
  by_cases he : e = c
  · subst he
    by_cases hl : e < s.columns.length
    · rw [col_modCol_same _ hl, h]
    · rw [col_of_length_le _ (by simpa using hl), col_of_length_le _ (by omega)]
  · rw [col_modCol_ne _ he]

theorem defn_modCol (c e : Nat) (f : Column → Column) (h : ∀ k, (f k).defn = k.defn) :
    (s.modCol c f).defn e = s.defn e := s.col_modCol_proj (·.defn) c e f h

/-- Two changes that do the same to the record there are the same change. -/
theorem modCol_congr {c : Nat} {f g : Column → Column} (h : f (s.col c) = g (s.col c)) :
    s.modCol c f = s.modCol c g := by
  unfold modCol
  congr 1
  apply updateAt_congr
  intro k hk
  have : s.col c = k := by simp [col, List.getD_eq_getElem?_getD, hk]
  rw [← this, h]

/-! ### Handovers -/

/-- A change of records that keeps their numbers reads as the changed record. -/
theorem handover_modHandovers (p : Handover → Bool) (f : Handover → Handover) (n : Nat)
    (hf : ∀ h, (f h).number = h.number) :
    (s.modHandovers p f).handover n = (s.handover n).map fun h => if p h then f h else h := by
  unfold handover modHandovers
  rw [List.find?_map]
  congr 1
  congr 1
  funext h
  simp only [Function.comp]
  split <;> simp [hf]

theorem handover_modHandover_same (n : Nat) (f : Handover → Handover)
    (hf : ∀ h, (f h).number = h.number) :
    (s.modHandover n f).handover n = (s.handover n).map f := by
  have := s.handover_modHandovers (·.number == n) f n hf
  unfold modHandovers at this
  unfold modHandover
  rw [this]
  cases e : s.handover n with
  | none => rfl
  | some h =>
    have : h.number = n := by simpa using List.find?_some e
    simp [this]

theorem handover_modHandover_ne {n m : Nat} (hm : m ≠ n) (f : Handover → Handover)
    (hf : ∀ h, (f h).number = h.number) :
    (s.modHandover n f).handover m = s.handover m := by
  have := s.handover_modHandovers (·.number == n) f m hf
  unfold modHandovers at this
  unfold modHandover
  rw [this]
  cases e : s.handover m with
  | none => rfl
  | some h =>
    have : h.number = m := by simpa using List.find?_some e
    simp [this, hm]

theorem number_of_handover {n : Nat} {h : Handover} (e : s.handover n = some h) : h.number = n := by
  simpa using List.find?_some e

theorem mem_of_handover {n : Nat} {h : Handover} (e : s.handover n = some h) : h ∈ s.handovers :=
  List.mem_of_find?_eq_some e

theorem handover_freeHandover_same (n : Nat) : (s.freeHandover n).handover n = none := by
  simp only [handover, freeHandover, List.find?_eq_none, List.mem_filter]
  rintro h ⟨_, hn⟩
  simpa using hn

theorem handover_freeHandover_ne {n m : Nat} (h : m ≠ n) :
    (s.freeHandover n).handover m = s.handover m := by
  simp only [handover, freeHandover]
  rw [List.find?_filter]
  apply congrArg (fun p => List.find? p s.handovers)
  funext k
  by_cases hk : k.number = m
  · simp [hk, h]
  · simp [hk]

theorem handovers_modHandovers_length (p : Handover → Bool) (f : Handover → Handover) :
    (s.modHandovers p f).handovers.length = s.handovers.length := by simp

/-! ### The order of the handover table (02, R26, R41) -/

/-- A write that leaves the numbers keeps the order. -/
theorem ascending_map {l : List Handover} (f : Handover → Handover) (h : ∀ k, (f k).number = k.number)
    (a : l.Pairwise fun h k => h.number < k.number) :
    (l.map f).Pairwise fun h k => h.number < k.number := by
  rw [List.pairwise_map]
  simpa only [h] using a

theorem ascending_freeHandover (n : Nat) (a : s.handovers.Pairwise fun h k => h.number < k.number) :
    (s.freeHandover n).handovers.Pairwise fun h k => h.number < k.number :=
  a.sublist List.filter_sublist

/-- A record of a number that no other has is put in its place. -/
theorem ascending_addHandover (h : Handover) (n : s.handover h.number = none)
    (a : s.handovers.Pairwise fun h k => h.number < k.number) :
    (s.addHandover h).handovers.Pairwise fun h k => h.number < k.number := by
  have fresh : ∀ k ∈ s.handovers, k.number ≠ h.number := fun k hk e =>
    absurd (List.find?_eq_none.mp n k hk) (by simp [e])
  simp only [addHandover, List.pairwise_append, List.pairwise_cons, List.mem_filter, List.mem_cons,
    decide_eq_true_eq]
  refine ⟨a.sublist List.filter_sublist, ⟨?_, a.sublist List.filter_sublist⟩, ?_⟩
  · rintro k ⟨hk, le⟩
    exact lt_of_le_of_ne le (fresh k hk).symm
  · rintro k ⟨_, lt⟩ m (rfl | ⟨_, le⟩)
    · exact lt
    · exact lt_of_lt_of_le lt le

/-! ### Robots -/

theorem robot_zero : s.robot 0 = none := by simp [robot]

theorem robot_setRobot_same {a : Nat} (h0 : a ≠ 0) (h : a ≤ s.roster.length) (r : Option Robot) :
    (s.setRobot a r).robot a = r := by
  simp only [robot, setRobot, h0, if_false]
  exact updateAt_getD_same s.roster (by omega) _ none

theorem robot_setRobot_ne {a b : Nat} (h : b ≠ a) (r : Option Robot) :
    (s.setRobot a r).robot b = s.robot b := by
  by_cases hb : b = 0
  · simp [robot, hb]
  · by_cases ha : a = 0
    · simp [setRobot, ha]
    · simp only [robot, setRobot, hb, ha, if_false]
      exact updateAt_getD_ne s.roster (by omega) _ none

theorem robot_modRobot_same (a : Nat) (f : Robot → Robot) :
    (s.modRobot a f).robot a = (s.robot a).map f := by
  by_cases ha : a = 0
  · simp [robot, ha]
  · simp only [robot, modRobot, ha, if_false]
    simp only [List.getD_eq_getElem?_getD, updateAt_getElem?, if_true]
    cases s.roster[a - 1]? with
    | none => rfl
    | some r => rfl

theorem robot_modRobot_ne {a b : Nat} (h : b ≠ a) (f : Robot → Robot) :
    (s.modRobot a f).robot b = s.robot b := by
  by_cases hb : b = 0
  · simp [robot, hb]
  · by_cases ha : a = 0
    · simp [modRobot, ha]
    · simp only [robot, modRobot, hb, ha, if_false]
      exact updateAt_getD_ne s.roster (by omega) _ none

/-- Changing a record is writing the changed record. -/
theorem modRobot_eq_setRobot {a : Nat} {r : Robot} (h : s.robot a = some r) (f : Robot → Robot) :
    s.modRobot a f = s.setRobot a (some (f r)) := by
  have ha : a ≠ 0 := by
    rintro rfl
    simp [robot] at h
  simp only [robot, ha, if_false] at h
  simp only [modRobot, setRobot, ha, if_false]
  congr 1
  apply updateAt_congr
  intro e he
  simp only [List.getD_eq_getElem?_getD, he, Option.getD_some] at h
  simp [h]

theorem roster_length_setRobot (a : Nat) (r : Option Robot) :
    (s.setRobot a r).roster.length = s.roster.length := by
  unfold setRobot; split <;> simp

theorem roster_length_modRobot (a : Nat) (f : Robot → Robot) :
    (s.modRobot a f).roster.length = s.roster.length := by
  unfold modRobot; split <;> simp

theorem le_of_robot {a : Nat} {r : Robot} (h : s.robot a = some r) : a ≤ s.roster.length := by
  by_contra k
  have ha : a ≠ 0 := by omega
  simp only [robot, ha, if_false] at h
  rw [List.getD_eq_getElem?_getD, List.getElem?_eq_none (by omega)] at h
  simp at h

/-! ### The map -/

theorem xp_setXp_same {x : Nat} (h : x < s.xpMap.length) (e : Option XpEntry) :
    (s.setXp x e).xp x = e := updateAt_getD_same s.xpMap h _ none

theorem xp_setXp_ne {x y : Nat} (h : y ≠ x) (e : Option XpEntry) : (s.setXp x e).xp y = s.xp y :=
  updateAt_getD_ne s.xpMap h _ none

/-- The XP that maps a column is the lowest whose entry names it. -/
theorem mappedBy_eq_some (c x : Nat) :
    s.mappedBy c = some x ↔
      (s.xp x).map (·.column) = some c ∧ ∀ y < x, (s.xp y).map (·.column) ≠ some c := by
  unfold mappedBy xp
  rw [indexFrom_eq_some]
  constructor
  · rintro ⟨k, e, rfl, hk, he, hlt⟩
    simp only [Nat.zero_add, List.getD_eq_getElem?_getD, hk, Option.getD_some]
    refine ⟨by simpa using he, fun y hy hc => ?_⟩
    cases hy' : s.xpMap[y]? with
    | none => simp [hy'] at hc
    | some f =>
      have := hlt y hy f hy'
      simp only [hy', Option.getD_some] at hc
      simp [hc] at this
  · rintro ⟨h, hlt⟩
    cases hx : s.xpMap[x]? with
    | none => simp [List.getD_eq_getElem?_getD, hx] at h
    | some e =>
      simp only [List.getD_eq_getElem?_getD, hx, Option.getD_some] at h
      refine ⟨x, e, by simp, hx, by simpa using h, fun m hm f hf => ?_⟩
      have := hlt m hm
      simp only [List.getD_eq_getElem?_getD, hf, Option.getD_some] at this
      simpa using this

theorem mappedBy_eq_none (c : Nat) :
    s.mappedBy c = none ↔ ∀ e ∈ s.xpMap, e.map (·.column) ≠ some c := by
  unfold mappedBy
  rw [indexFrom_eq_none]
  simp

end Sys2Proof.Machine.State

namespace Sys2Proof.Quad
variable {α : Type}

theorem get_set_same (q : Quad α) (z : Nat) (h : z < 4) (a : α) : (q.set z a).get z = a := by
  match z, h with
  | 0, _ | 1, _ | 2, _ | 3, _ => rfl

theorem get_set_ne (q : Quad α) {z y : Nat} (hz : z < 4) (hy : y < 4) (h : y ≠ z) (a : α) :
    (q.set z a).get y = q.get y := by
  match z, y, hz, hy with
  | 0, 0, _, _ | 1, 1, _, _ | 2, 2, _, _ | 3, 3, _, _ => exact absurd rfl h
  | 0, 1, _, _ | 0, 2, _, _ | 0, 3, _, _ | 1, 0, _, _ | 1, 2, _, _ | 1, 3, _, _
  | 2, 0, _, _ | 2, 1, _, _ | 2, 3, _, _ | 3, 0, _, _ | 3, 1, _, _ | 3, 2, _, _ => rfl

theorem get_ofFn (f : Nat → α) (z : Nat) (h : z < 4) : (ofFn f).get z = f z := by
  match z, h with
  | 0, _ | 1, _ | 2, _ | 3, _ => rfl

@[simp] theorem get_same (a : α) (z : Nat) : (same a).get z = a := by
  unfold get same
  split <;> rfl

theorem ext_get (p q : Quad α) (h : ∀ z < 4, p.get z = q.get z) : p = q := by
  cases p; cases q
  have h0 := h 0 (by omega)
  have h1 := h 1 (by omega)
  have h2 := h 2 (by omega)
  have h3 := h 3 (by omega)
  simp only [get] at h0 h1 h2 h3
  simp [h0, h1, h2, h3]

theorem mem_zonesWhere (p : Nat → Bool) (z : Nat) : z ∈ zonesWhere p ↔ z < 4 ∧ p z = true := by
  simp only [zonesWhere, List.mem_filter, List.mem_cons, List.not_mem_nil, or_false]
  constructor
  · rintro ⟨h, hp⟩
    exact ⟨by omega, hp⟩
  · rintro ⟨h, hp⟩
    exact ⟨by omega, hp⟩

end Sys2Proof.Quad
end

