-- ==== Sys2Proof/Laws/Frame.lean ====
section
/-! SUPPORT. What the shared operations of the blocks leave unchanged, one lemma for each, stated once
over `BlockFrame`. -/

namespace Sys2Proof.Machine

/-! ### Frame -/

theorem Frame.refl (s : State) : Frame s s := by constructor <;> rfl

theorem Frame.trans {s t u : State} (h : Frame s t) (k : Frame t u) : Frame s u := by
  constructor
  · exact k.sectionState.trans h.sectionState
  · exact k.params.trans h.params
  · exact k.lockFlags.trans h.lockFlags
  · exact k.lastNumber.trans h.lastNumber
  · exact k.time.trans h.time
  · exact k.pending.trans h.pending
  · exact k.choices.trans h.choices
  · exact k.defns.trans h.defns
  · exact k.xps.trans h.xps
  · exact k.robots.trans h.robots
  · exact k.received.trans h.received
  · exact k.replies.trans h.replies
  · exact k.tx.trans h.tx
  · exact k.rate.trans h.rate
  · exact k.controlDiscards.trans h.controlDiscards
  · exact k.fleetDiscards.trans h.fleetDiscards
  · exact k.controlHeld.trans h.controlHeld
  · exact k.fleetHeld.trans h.fleetHeld
  · exact k.controlGap.trans h.controlGap
  · exact k.fleetGap.trans h.fleetGap
  · exact k.acks.trans h.acks
  · exact k.lines.trans h.lines

/-- The number of columns stays. -/
theorem Frame.columns_length {s t : State} (h : Frame s t) :
    t.columns.length = s.columns.length := by
  have := congrArg List.length h.defns
  simpa using this

theorem getD_map_defn (l : List Column) (c : Nat) :
    (l.getD c Column.blank).defn = (l.map (·.defn)).getD c none := by
  simp only [List.getD_eq_getElem?_getD, List.getElem?_map]
  cases l[c]? <;> rfl

/-- The definition of every column stays. -/
theorem Frame.defn {s t : State} (h : Frame s t) (c : Nat) : t.defn c = s.defn c := by
  simp only [State.defn, State.col, getD_map_defn, h.defns]

/-! ### What an operation of the blocks never moves -/

/-- The fields of a record that only the handover table, an operation's end and a reconcile write. -/
def Handover.fixed (h : Handover) :
    Nat × BinTag × Nat × Taker × Option Nat × Custody × Nat × Word32 :=
  (h.number, h.tag, h.giver, h.taker, h.column, h.custody, h.relocations, h.openedAt)

/-- `t` comes from `s` by operations of the audit unit, the arbiter and the zone controller, by the
return of records, or by a remap: no bin moves, no robot's record changes, and the queues only grow. -/
structure BlockFrame (s t : State) : Prop extends Frame s t where
  roster : t.roster = s.roster
  columnStacks : t.columns.map (·.stack) = s.columns.map (·.stack)
  records : t.handovers.map Handover.fixed = s.handovers.map Handover.fixed
  notices : ∃ l, t.link.notices = s.link.notices ++ l
  fleet : ∃ l, t.link.fleet = s.link.fleet ++ l

namespace BlockFrame

theorem refl (s : State) : BlockFrame s s where
  toFrame := Frame.refl s
  roster := rfl
  columnStacks := rfl
  records := rfl
  notices := ⟨[], by simp⟩
  fleet := ⟨[], by simp⟩

theorem trans {s t u : State} (h : BlockFrame s t) (k : BlockFrame t u) : BlockFrame s u where
  toFrame := h.toFrame.trans k.toFrame
  roster := k.roster.trans h.roster
  columnStacks := k.columnStacks.trans h.columnStacks
  records := k.records.trans h.records
  notices := by
    obtain ⟨a, ha⟩ := h.notices
    obtain ⟨b, hb⟩ := k.notices
    exact ⟨a ++ b, by rw [hb, ha, List.append_assoc]⟩
  fleet := by
    obtain ⟨a, ha⟩ := h.fleet
    obtain ⟨b, hb⟩ := k.fleet
    exact ⟨a ++ b, by rw [hb, ha, List.append_assoc]⟩

/-- A fold of operations each of which is a block operation is one. -/
theorem foldl {α : Type} (f : State → α → State) (hf : ∀ s a, BlockFrame s (f s a)) (l : List α)
    (s : State) : BlockFrame s (l.foldl f s) :=
  foldl_keeps (BlockFrame s) f l s (refl s) fun t a _ h => h.trans (hf t a)

theorem robot {s t : State} (h : BlockFrame s t) (a : Nat) : t.robot a = s.robot a := by
  simp [State.robot, h.roster]

theorem stack {s t : State} (h : BlockFrame s t) (c : Nat) : (t.col c).stack = (s.col c).stack := by
  have key : ∀ l : List Column,
      (l.getD c Column.blank).stack = (l.map (·.stack)).getD c [] := by
    intro l
    simp only [List.getD_eq_getElem?_getD, List.getElem?_map]
    cases l[c]? <;> rfl
  simp only [State.col, key, h.columnStacks]

/-- Every record is still there, with its fixed fields. -/
theorem handover {s t : State} (h : BlockFrame s t) (n : Nat) :
    (t.handover n).map Handover.fixed = (s.handover n).map Handover.fixed := by
  have key : ∀ l : List Handover, (l.find? (·.number == n)).map Handover.fixed =
      (l.map Handover.fixed).find? (·.1 == n) := by
    intro l
    rw [List.find?_map]
    rfl
  simp only [State.handover, key, h.records]

/-- The handovers keep their order of number. -/
theorem ascending {s t : State} (h : BlockFrame s t)
    (a : s.handovers.Pairwise fun h k => h.number < k.number) :
    t.handovers.Pairwise fun h k => h.number < k.number := by
  have key : ∀ l : List Handover, (l.Pairwise fun h k => h.number < k.number) ↔
      (l.map Handover.fixed).Pairwise fun p q => p.1 < q.1 := fun l => by
    rw [List.pairwise_map]
    rfl
  rw [key, h.records]
  exact (key _).mp a

theorem notify (s : State) (b : NoticeBody) : BlockFrame s (s.notify b) where
  toFrame := by constructor <;> simp
  roster := by simp
  columnStacks := by simp
  records := by simp
  notices := by
    unfold State.notify State.modLink
    dsimp only
    split
    · exact ⟨_, rfl⟩
    · exact ⟨[], by simp⟩
  fleet := ⟨[], by simp⟩

theorem notifyAll (s : State) (bs : List NoticeBody) : BlockFrame s (s.notifyAll bs) :=
  foldl State.notify notify bs s

theorem send (s : State) (a : Nat) (m : FleetMsg) : BlockFrame s (s.send a m) where
  toFrame := by constructor <;> simp
  roster := by simp
  columnStacks := by simp
  records := by simp
  notices := ⟨[], by simp⟩
  fleet := by
    unfold State.send State.modLink
    dsimp only
    split
    · exact ⟨_, rfl⟩
    · exact ⟨[], by simp⟩

/-- An update of a column record that keeps definition and stack. -/
theorem modCol (s : State) (c : Nat) (f : Column → Column) (hd : ∀ k, (f k).defn = k.defn)
    (hs : ∀ k, (f k).stack = k.stack) : BlockFrame s (s.modCol c f) where
  toFrame := by
    constructor <;> try rfl
    exact updateAt_map s.columns c f (·.defn) hd
  roster := rfl
  columnStacks := updateAt_map s.columns c f (·.stack) hs
  records := rfl
  notices := ⟨[], by simp⟩
  fleet := ⟨[], by simp⟩

/-- An update of records that keeps their fixed fields. -/
theorem modHandovers (s : State) (p : Handover → Bool) (f : Handover → Handover)
    (hf : ∀ h, (f h).fixed = h.fixed) : BlockFrame s (s.modHandovers p f) where
  toFrame := by constructor <;> rfl
  roster := rfl
  columnStacks := rfl
  records := by
    simp only [State.modHandovers_handovers, List.map_map]
    apply List.map_congr_left
    intro h _
    simp only [Function.comp]
    split <;> simp [hf]
  notices := ⟨[], by simp⟩
  fleet := ⟨[], by simp⟩

theorem modHandover (s : State) (n : Nat) (f : Handover → Handover)
    (hf : ∀ h, (f h).fixed = h.fixed) : BlockFrame s (s.modHandover n f) :=
  modHandovers s (·.number == n) f hf

theorem setXp (s : State) (x : Nat) (e : Option XpEntry) : BlockFrame s (s.setXp x e) where
  toFrame := by
    constructor <;> try rfl
    exact updateAt_length _ _ _
  roster := rfl
  columnStacks := rfl
  records := rfl
  notices := ⟨[], by simp⟩
  fleet := ⟨[], by simp⟩

theorem audit (s : State) (a : AuditUnit) : BlockFrame s { s with audit := a } where
  toFrame := by constructor <;> rfl
  roster := rfl
  columnStacks := rfl
  records := rfl
  notices := ⟨[], by simp⟩
  fleet := ⟨[], by simp⟩

theorem modZones (s : State) (f : ZoneCtl → ZoneCtl) (hf : ∀ q, (f q).ack = q.ack) :
    BlockFrame s (s.modZones f) where
  toFrame := by
    constructor <;> try rfl
    exact hf s.zones
  roster := rfl
  columnStacks := rfl
  records := rfl
  notices := ⟨[], by simp⟩
  fleet := ⟨[], by simp⟩

end BlockFrame

/-! ### Deadlines and freeze causes -/

theorem Handover.fixed_judged (s : State) (h : Handover) : (s.judged h).fixed = h.fixed := by
  unfold State.judged
  split <;> rfl

theorem Handover.fixed_resumed (s : State) (h : Handover) : (s.resumed h).fixed = h.fixed := by
  unfold State.resumed
  rw [Handover.fixed_judged]
  rfl

namespace BlockFrame
variable (s : State)

theorem judgeColumn (c : Nat) : BlockFrame s (s.judgeColumn c) :=
  modHandovers s _ _ (Handover.fixed_judged s)

theorem judgeZone (z : Nat) : BlockFrame s (s.judgeZone z) :=
  modHandovers s _ _ (Handover.fixed_judged s)

theorem judgeAll : BlockFrame s s.judgeAll := modHandovers s _ _ (Handover.fixed_judged s)

theorem addDiscrepancy (c : Nat) : BlockFrame s (s.addDiscrepancy c) :=
  (modCol s c (fun k => { k with causes := { k.causes with discrepancy := true } })
    (fun _ => rfl) fun _ => rfl).trans (judgeColumn _ c)

theorem addSuspect (c : Nat) : BlockFrame s (s.addSuspect c) :=
  (modCol s c (fun k => { k with causes := { k.causes with suspect := true } })
    (fun _ => rfl) fun _ => rfl).trans (judgeColumn _ c)

theorem addZoneCause (c : Nat) : BlockFrame s (s.addZoneCause c) :=
  (modCol s c (fun k => { k with causes := { k.causes with zone := true } })
    (fun _ => rfl) fun _ => rfl).trans (judgeColumn _ c)

theorem removeZoneCause (c : Nat) : BlockFrame s (s.removeZoneCause c) :=
  (modCol s c (fun k => { k with causes := { k.causes with zone := false } })
    (fun _ => rfl) fun _ => rfl).trans (judgeColumn _ c)

theorem confirmStack (c : Nat) : BlockFrame s (s.confirmStack c) :=
  (modCol s c (fun k => { k with causes := k.causes.confirmed })
    (fun _ => rfl) fun _ => rfl).trans (judgeColumn _ c)

theorem markSettle (c : Nat) : BlockFrame s (s.markSettle c) :=
  modCol s c _ (fun _ => rfl) fun _ => rfl

/-! ### Audit unit -/

theorem endCall (c : Nat) : BlockFrame s (s.endCall c) := audit s _

theorem setAudit (c : Nat) (v : Verification) (b : Bool) : BlockFrame s (s.setAudit c v b) :=
  modCol s c _ (fun _ => rfl) fun _ => rfl

theorem failCall (c : Nat) (cause : UnverifiedCause) : BlockFrame s (s.failCall c cause).1 :=
  (setAudit s c .unverified false).trans (endCall _ c)

theorem creditColumn (c : Nat) : BlockFrame s (s.creditColumn c) :=
  modCol s c _ (fun _ => rfl) fun _ => rfl

theorem auditStart (c : Nat) : BlockFrame s (s.auditStart c) := by
  unfold State.auditStart
  split
  · exact audit s _
  · exact refl s

theorem auditEnd (c : Nat) (o : EndOutcome) : BlockFrame s (s.auditEnd c o).1 := by
  unfold State.auditEnd
  split
  · cases o with
    | credited => exact (setAudit s c .fresh false).trans (endCall _ c)
    | mismatch => exact (setAudit s c (s.col c).verification false).trans (endCall _ c)
    | heightOnly =>
      dsimp only
      split
      · exact failCall s c _
      · exact audit s _
    | failed => exact failCall s c _
    | cutOff => exact failCall s c _
  · cases o
    case credited => exact creditColumn s c
    all_goals exact refl s

/-- The notices of a step are put in the queue. -/
theorem emit {p : Noted} (h : BlockFrame s p.1) : BlockFrame s p.emit := h.trans (notifyAll p.1 p.2)

/-! ### Retirement and remap -/

theorem completeRemap (x c : Nat) : BlockFrame s (s.completeRemap x c).1 := by
  unfold State.completeRemap
  dsimp only
  split
  · exact (setXp s x _).trans (endCall _ c)
  · exact setXp s x _

theorem examineRemap (c : Nat) : BlockFrame s (s.examineRemap c).1 := by
  unfold State.examineRemap
  split
  · exact refl s
  · split
    · exact completeRemap s _ c
    · exact refl s

theorem examineRemaps (p : Nat → Bool) : BlockFrame s (s.examineRemaps p).1 := by
  unfold State.examineRemaps
  apply foldl_keeps (fun q : Noted => BlockFrame s q.1) _ _ _ (refl s)
  intro q x _ hq
  split
  · split
    · exact hq.trans (examineRemap q.1 _)
    · exact hq
  · exact hq

theorem retire (c : Nat) (cause : RetireCause) : BlockFrame s (s.retire c cause) := by
  unfold State.retire
  dsimp only
  refine emit s ?_
  refine trans ?_ (examineRemap _ c)
  refine trans ?_ (notify _ _)
  have h₁ : BlockFrame s (s.modCol c fun k => { k with retired := true }) :=
    modCol s c _ (fun _ => rfl) fun _ => rfl
  split
  · exact h₁.trans (setXp _ _ _)
  · exact h₁

theorem countFault (c : Nat) (f : LastFault) : BlockFrame s (s.countFault c f) := by
  unfold State.countFault
  split
  · exact refl s
  · have h₁ : BlockFrame s (s.modCol c fun k =>
        { k with faultCount := k.faultCount + 1, lastFault := some f }) :=
      modCol s c _ (fun _ => rfl) fun _ => rfl
    dsimp only
    split
    · exact h₁.trans (retire _ c _)
    · exact h₁

/-! ### Records of an operation -/

theorem returnRecord (u : Bool) (p : Nat × HandoverState) :
    BlockFrame s (State.returnRecord u s p) := by
  apply modHandover
  intro h
  split
  · rfl
  · rw [Handover.fixed_resumed]
    rfl

theorem returnRecords (u : Bool) (o : Operation) : BlockFrame s (s.returnRecords u o) :=
  foldl (State.returnRecord u) (fun t p => returnRecord t u p) o.priors s

theorem clearOp (c : Nat) (o : Operation) : BlockFrame s (s.clearOp c o) :=
  modCol s c _ (fun _ => rfl) fun _ => rfl

theorem cutOff (c : Nat) (cause : SuspectCause) : BlockFrame s (s.cutOff c cause).1 := by
  unfold State.cutOff
  split
  · exact refl s
  · dsimp only
    exact ((returnRecords s true _).trans (clearOp _ c _)).trans
      ((addSuspect _ c).trans ((auditEnd _ c .cutOff).trans (examineRemap _ c)))

/-! ### Grant arbiter -/

theorem makeGrant (c a : Nat) (k : Cls) : BlockFrame s (s.makeGrant c a k) :=
  (modCol s c (fun q => { q with grant := some ⟨a, k, some s.holdMs, none, none⟩ })
    (fun _ => rfl) fun _ => rfl).trans (send _ _ _)

theorem handOn (c : Nat) : BlockFrame s (s.handOn c) := by
  unfold State.handOn
  split
  · exact refl s
  · split
    · exact refl s
    · rename_i w rest _
      exact (modCol s c (fun q => { q with waits := rest }) (fun _ => rfl) fun _ => rfl).trans
        (makeGrant _ c _ _)

theorem handOnZone (z : Nat) : BlockFrame s (s.handOnZone z) :=
  foldl State.handOn handOn (s.columnsOf z) s

theorem handOnLoosened (before : State) : BlockFrame s (s.handOnLoosened before) :=
  foldl State.handOnZone handOnZone _ s

theorem revoke (c : Nat) (cause : RevokeCause) : BlockFrame s (s.revoke c cause) := by
  unfold State.revoke
  split
  · exact refl s
  · split
    · exact refl s
    · exact trans (by exact modCol s c _ (fun _ => rfl) fun _ => rfl) (send _ _ _)

theorem startGrace (c : Nat) : BlockFrame s (s.startGrace c) :=
  modCol s c _ (fun _ => rfl) fun _ => rfl

theorem refuseWaits (c : Nat) (r : Status) : BlockFrame s (s.refuseWaits c r) :=
  (modCol s c (fun q => { q with waits := [] }) (fun _ => rfl) fun _ => rfl).trans
    (foldl (fun (t : State) (w : WaitReq) => t.sendRefused w.robot r (.column c))
      (fun t _ => send t _ _) _ _)

/-! ### Zone controller -/

theorem completeHold : BlockFrame s s.completeHold := by
  unfold State.completeHold
  dsimp only
  refine trans ?_ (notify _ _)
  refine trans ?_ (modZones _ _ fun _ => rfl)
  refine trans ?_ (foldl State.addZoneCause addZoneCause _ _)
  exact modZones s _ fun _ => rfl

theorem holdColumn (c : Nat) : BlockFrame s (s.holdColumn c) :=
  ((emit s (cutOff s c .hold)).trans
    (modCol _ c (fun q => { q with grant := none }) (fun _ => rfl) fun _ => rfl)).trans
    (refuseWaits _ c _)

theorem beginHold : BlockFrame s s.beginHold := by
  unfold State.beginHold
  dsimp only
  have h : ∀ t : State, BlockFrame t (forUpTo Config.columnCount State.holdColumn t) :=
    fun t => foldl State.holdColumn holdColumn _ t
  have h₃ := ((modZones s (fun q =>
      { q with
        trans := some ⟨.changing, .hold, Quad.same .closed, Quad.same 0, .hold, false, none⟩
        holdPending := false }) fun _ => rfl).trans (h _)).trans
    ((modZones _ (fun q => { q with driven := Quad.same .closed }) fun _ => rfl).trans (judgeAll _))
  split
  · exact h₃.trans (completeHold _)
  · exact h₃

theorem afterNormal : BlockFrame s s.afterNormal := by
  unfold State.afterNormal
  split
  · exact beginHold s
  · exact refl s

theorem closeZone (z : Nat) : BlockFrame s (s.closeZone z) :=
  (foldl (fun t c => t.refuseWaits c .zoneClosed) (fun t c => refuseWaits t c _) _ s).trans
    (foldl State.addZoneCause addZoneCause _ _)

theorem succeed (t : Transition) : BlockFrame s (s.succeed t) := by
  unfold State.succeed
  dsimp only
  refine trans ?_ (afterNormal _)
  refine trans ?_ (notify _ _)
  refine trans ?_ (foldl State.handOnZone handOnZone _ _)
  refine trans ?_ (foldl State.judgeZone judgeZone _ _)
  refine trans ?_ (modZones _ _ fun _ => rfl)
  refine trans ?_ (foldl State.closeZone closeZone _ _)
  exact modZones s _ fun _ => rfl

theorem failTransition (t : Transition) : BlockFrame s (s.failTransition t) := by
  unfold State.failTransition
  dsimp only
  refine trans ?_ (afterNormal _)
  refine trans ?_ (notify _ _)
  refine trans ?_ (foldl State.handOnZone handOnZone _ _)
  refine trans ?_ (foldl State.judgeZone judgeZone _ _)
  exact modZones s _ fun _ => rfl

theorem judgeEcho : BlockFrame s s.judgeEcho := by
  unfold State.judgeEcho
  split
  · exact refl s
  · split
    · split
      · exact succeed s _
      · exact completeHold s
    · exact refl s

theorem enterChanging (t : Transition) : BlockFrame s (s.enterChanging t) := by
  unfold State.enterChanging
  dsimp only
  refine trans ?_ (judgeEcho _)
  refine trans ?_ (foldl State.judgeZone judgeZone _ _)
  exact modZones s _ fun _ => rfl

theorem checkWaiting (t : Transition) : BlockFrame s (s.checkWaiting t) := by
  unfold State.checkWaiting
  split
  · exact enterChanging s t
  · exact refl s

theorem enterWaiting (t : Transition) : BlockFrame s (s.enterWaiting t) := by
  unfold State.enterWaiting
  dsimp only
  refine trans ?_ (checkWaiting _ _)
  refine trans ?_ (foldl _ (fun u c => revoke u c _) _ _)
  exact modZones s _ fun _ => rfl

theorem reportGrantEnd (c : Nat) (k : Cls) : BlockFrame s (s.reportGrantEnd c k) := by
  unfold State.reportGrantEnd
  split
  · exact refl s
  · split
    · refine trans ?_ (checkWaiting _ _)
      exact modZones s _ fun _ => rfl
    · exact refl s

theorem endGrant (c : Nat) : BlockFrame s (s.endGrant c) := by
  unfold State.endGrant
  split
  · exact refl s
  · exact (modCol s c (fun q => { q with grant := none }) (fun _ => rfl) fun _ => rfl).trans
      (reportGrantEnd _ c _)

end BlockFrame

end Sys2Proof.Machine
end

