-- ==== Sys2Proof/Laws/Link.lean ====
section
/-! SUPPORT. What the link unit's operations answer: the taking of requests and of robot frames, the
transmitters, the two queues, and the filters of the plain lines. -/

namespace Sys2Proof.Machine

/-! ### Reception -/

namespace FrontEnd

theorem look_nil (l : LinkId) : look l [] = .wait := by cases l <;> rfl

/-- A good frame has at least one byte. -/
theorem look_take_pos {l : LinkId} {bs : List RxByte} {c : Instr} {k : Nat}
    (h : look l bs = .take c k) : 0 < k := by
  unfold look judgeControl judgeFleet at h
  grind

/-- The bound of the reads is no bound: any that is not below the number of bytes gives the same. -/
theorem drain_eq_hunt (l : LinkId) (n : Nat) (bs : List RxByte) (h : bs.length ≤ n) :
    drain l n bs = hunt l bs := by
  unfold hunt
  induction n using Nat.strong_induction_on generalizing bs with
  | _ n ih =>
    cases bs with
    | nil => cases n <;> simp [drain, look_nil]
    | cons b rest =>
      cases n with
      | zero => simp at h
      | succ n =>
        have hr : rest.length ≤ n := by simpa using h
        have key : ∀ m ≤ n, ∀ cs : List RxByte, cs.length ≤ m →
            drain l m cs = drain l cs.length cs := fun m hm cs hc => ih m (by omega) cs hc
        have cut : ∀ k, 0 < k → ((b :: rest).drop k).length ≤ rest.length := fun k hk => by
          simp; omega
        simp only [List.length_cons, drain, List.tail_cons]
        cases hl : look l (b :: rest) with
        | wait => rfl
        | skip => exact key n (Nat.le_refl n) rest hr
        | discard c => simp only [key n (Nat.le_refl n) rest hr]
        | take c k =>
          have hk := cut k (look_take_pos hl)
          simp only [key n (Nat.le_refl n) _ (Nat.le_trans hk hr), key rest.length hr _ hk]

/-- The hunt keeps no more bytes than it is given. -/
theorem hunt_length_le (l : LinkId) (bs : List RxByte) : (hunt l bs).1.length ≤ bs.length := by
  have h : ∀ n bs, (drain l n bs).1.length ≤ bs.length := by
    intro n
    induction n with
    | zero => intro bs; exact Nat.le_refl _
    | succ n ih =>
      intro bs
      simp only [drain]
      split
      · exact Nat.le_refl _
      · exact (ih _).trans (by simp)
      · exact (ih _).trans (by simp)
      · exact (ih _).trans (by simp)
  exact h _ _

/-- The bound on the discards of timed-out bytes does not matter. -/
theorem expireWithin_eq_expire (l : LinkId) (n : Nat) (bs : List RxByte) (h : bs.length ≤ n) :
    expireWithin l n bs = expire l bs := by
  suffices k : ∀ n m (bs : List RxByte), bs.length ≤ n → bs.length ≤ m →
      expireWithin l n bs = expireWithin l m bs from k _ _ _ h (Nat.le_refl _)
  intro n
  induction n with
  | zero =>
    intro m bs hn _
    have : bs = [] := List.length_eq_zero_iff.mp (by omega)
    subst this
    cases m <;> rfl
  | succ n ih =>
    intro m bs hn hm
    cases bs with
    | nil => cases m <;> rfl
    | cons b bs =>
      cases m with
      | zero => simp at hm
      | succ m =>
        simp only [List.length_cons, Nat.add_le_add_iff_right] at hn hm
        have e := hunt_length_le l bs
        simp only [expireWithin, ih m (hunt l bs).1 (e.trans hn) (e.trans hm)]

@[simp] theorem gap_nil (ms : Nat) : gap [] ms = none := rfl

/-- The gap timer is absent exactly while no partial frame is held (10, R185). -/
@[simp] theorem gap_eq_none (held : List RxByte) (ms : Nat) : gap held ms = none ↔ held = [] := by
  cases held <;> simp [gap]

theorem gap_le {held : List RxByte} {ms g : Nat} (h : g ∈ gap held ms) : g ≤ ms := by
  cases held with
  | nil => simp at h
  | cons => simp [gap] at h; omega

end FrontEnd

/-- A byte for a receiver whose 20 ms have not passed (10, R185). -/
theorem State.byteArrives_in_time {s : State} {l : LinkId} (b : RxByte) (h : s.gap l ≠ some 0) :
    s.byteArrives l b =
      { s.setHeld l (FrontEnd.receive l (s.held l) b).1 Config.frameGapMs with
        pending := s.pending ++ (FrontEnd.receive l (s.held l) b).2 } := by
  simp only [State.byteArrives, h, if_false]

/-- What the timed-out receivers queue (10, R185). -/
theorem State.mem_frameTimeouts (s : State) (i : Instr) :
    i ∈ s.frameTimeouts ↔ ∃ l, s.gap l = some 0 ∧ i = .frameTimeout l := by
  have all : ∀ l : LinkId, l ∈ ([.control, .fleet] : List LinkId) := by intro l; cases l <;> simp
  simp only [State.frameTimeouts, List.mem_filterMap, all, true_and,
    Option.ite_none_right_eq_some, Option.some.injEq, eq_comm (b := i)]

/-! ### Host requests -/

/-- A request that finds room is taken at once and its reply made (10, R188). -/
theorem hostRequest_taken {k : Byte} {tag : Word16} {body : List Byte} {take : State → Answer}
    {s : State} (h : Takes tag s) :
    hostRequest k tag body take s =
      .next ((take (s.intake k tag body)).state.answered k tag (take (s.intake k tag body)).status
        (take (s.intake k tag body)).body) := by
  unfold hostRequest
  rw [if_neg h.1, if_neg (Nat.not_le.mpr h.2)]
  rfl

/-- A request with tag 0 is discarded (10, R185). -/
theorem hostRequest_tagZero {k : Byte} {body : List Byte} {take : State → Answer} {s : State} :
    hostRequest k 0 body take s = .next s.discardControl.startTx := by
  simp [hostRequest]

/-- A request that finds the receive buffer full overflows (10, R189). -/
theorem hostRequest_full {k : Byte} {tag : Word16} {body : List Byte} {take : State → Answer}
    {s : State} (h : tag ≠ 0) (hf : Config.receiveCap ≤ s.link.received.length) :
    hostRequest k tag body take s = .next (s.overflowed k tag).startTx := by
  unfold hostRequest
  rw [if_neg h, if_pos hf]

/-- A host request always answers a next state. -/
theorem hostRequest_next (k : Byte) (tag : Word16) (body : List Byte) (take : State → Answer)
    (s : State) : ∃ t, hostRequest k tag body take s = .next t := by
  unfold hostRequest Answer.finish
  split
  · exact ⟨_, rfl⟩
  · split <;> exact ⟨_, rfl⟩

theorem withBody_error {α : Type} (e : Status) (take : α → State → Answer) :
    withBody (.error e) take = fun s => refuse s e := rfl

theorem withBody_ok {α : Type} (a : α) (take : α → State → Answer) :
    withBody (.ok a) take = take a := rfl

theorem inRunning_running {take : State → Answer} {s : State} (h : s.sectionState = .running) :
    inRunning take s = take s := by
  simp [inRunning, State.running, h]

theorem inRunning_unconfigured {take : State → Answer} {s : State}
    (h : s.sectionState = .unconfigured) : inRunning take s = refuse s .notRunning := by
  simp [inRunning, State.running, h]

/-! ### Robot frames -/

/-- A frame from an address without a record is discarded and counted (10, R194). -/
theorem robotFrame_unknown {α : Type} {addr : Byte} {d : Decoded α}
    {take : Nat → Robot → α → State → State} {s : State} (h : s.robot addr.toNat = none) :
    robotFrame addr d take s = .next s.discardFleet.startTx := by
  simp [robotFrame, h]

/-- A frame whose body does not decode is answered REFUSED (10, R194). -/
theorem robotFrame_error {α : Type} {addr : Byte} {e : Status}
    {take : Nat → Robot → α → State → State} {s : State} {r : Robot}
    (h : s.robot addr.toNat = some r) :
    robotFrame addr (.error e : Decoded α) take s =
      .next (s.send addr.toNat (.refused e .none)).startTx := by
  simp [robotFrame, h, State.sendRefused]

/-- A frame of a robot of the roster reaches the owning block (10, R194). -/
theorem robotFrame_ok {α : Type} {addr : Byte} {a : α} {take : Nat → Robot → α → State → State}
    {s : State} {r : Robot} (h : s.robot addr.toNat = some r) :
    robotFrame addr (.ok a) take s = .next (take addr.toNat r a s).startTx := by
  simp [robotFrame, h]

/-- A robot frame always answers a next state. -/
theorem robotFrame_next {α : Type} (addr : Byte) (d : Decoded α)
    (take : Nat → Robot → α → State → State) (s : State) :
    ∃ t, robotFrame addr d take s = .next t := by
  unfold robotFrame
  split
  · exact ⟨_, rfl⟩
  · split <;> exact ⟨_, rfl⟩

/-! ### What `intake` leaves -/

section
variable (s : State) (k : Byte) (tag : Word16) (body : List Byte)

/-- A request in the receive buffer changes the receive buffer alone. -/
theorem intake_eq : s.intake k tag body =
    { s with link := { s.link with received := s.link.received ++ [⟨k, tag, body⟩] } } := rfl

@[simp] theorem intake_robot (a : Nat) : (s.intake k tag body).robot a = s.robot a := rfl
@[simp] theorem intake_col (c : Nat) : (s.intake k tag body).col c = s.col c := rfl
@[simp] theorem intake_defn (c : Nat) : (s.intake k tag body).defn c = s.defn c := rfl
@[simp] theorem intake_handover (n : Nat) : (s.intake k tag body).handover n = s.handover n := rfl
@[simp] theorem intake_xp (x : Nat) : (s.intake k tag body).xp x = s.xp x := rfl
@[simp] theorem intake_mappedBy (c : Nat) : (s.intake k tag body).mappedBy c = s.mappedBy c := rfl
@[simp] theorem intake_sectionState : (s.intake k tag body).sectionState = s.sectionState := rfl

end

/-! ### The queues -/

/-- A notice that finds room is put at the end of the queue (10, R191). -/
theorem State.notify_room {s : State} (b : NoticeBody) (h : s.link.notices.length < Config.noticeCap) :
    (s.notify b).link.notices = s.link.notices ++ [⟨s.link.nextSeq, s.time, b⟩] := by
  simp [State.notify, State.modLink, h]

/-- A notice that finds the queue full is lost (10, R191). -/
theorem State.notify_full {s : State} (b : NoticeBody) (h : Config.noticeCap ≤ s.link.notices.length) :
    (s.notify b).link.notices = s.link.notices ∧ (s.notify b).link.overrun = true := by
  simp [State.notify, State.modLink, Nat.not_lt.mpr h]

/-- The notice queue keeps its bound. -/
theorem State.notify_length {s : State} (b : NoticeBody)
    (h : s.link.notices.length ≤ Config.noticeCap) :
    (s.notify b).link.notices.length ≤ Config.noticeCap := by
  unfold State.notify State.modLink
  dsimp only
  split
  · simp only [List.length_append, List.length_cons, List.length_nil]
    omega
  · exact h

/-- The lost count keeps its bound. -/
theorem State.notify_lost {s : State} (b : NoticeBody) (h : s.link.lost ≤ 255) :
    (s.notify b).link.lost ≤ 255 := by
  unfold State.notify State.modLink
  dsimp only
  split
  · exact h
  · exact countUp_le 255 _ h

/-- Notices one list after another. -/
theorem State.notifyAll_append (s : State) (a b : List NoticeBody) :
    s.notifyAll (a ++ b) = (s.notifyAll a).notifyAll b := by
  simp [State.notifyAll, List.foldl_append]

/-- What notices do to the link depends on the link and the time alone. -/
theorem State.notifyAll_link {s t : State} (bs : List NoticeBody) (h : s.link = t.link)
    (k : s.time = t.time) : (s.notifyAll bs).link = (t.notifyAll bs).link := by
  induction bs generalizing s t with
  | nil => exact h
  | cons b bs ih =>
    exact ih (by simp only [State.notify, State.modLink, h, k]) (by simp [k])

/-- A frame that finds room is put at the end of the queue (10, R195). -/
theorem State.send_room {s : State} (a : Nat) (m : FleetMsg)
    (h : s.link.fleet.length < Config.fleetCap) :
    (s.send a m).link.fleet = s.link.fleet ++ [⟨a, m⟩] := by
  simp [State.send, State.modLink, h]

/-- The fleet transmit queue and its counter keep their bounds. -/
theorem State.send_bounds {s : State} (a : Nat) (m : FleetMsg)
    (h : s.link.fleet.length ≤ Config.fleetCap) (k : s.link.fleetDrops ≤ 65535) :
    (s.send a m).link.fleet.length ≤ Config.fleetCap ∧
      (s.send a m).link.fleetDrops ≤ 65535 := by
  unfold State.send State.modLink
  dsimp only
  split
  · simp only [List.length_append, List.length_cons, List.length_nil]
    exact ⟨by omega, k⟩
  · exact ⟨h, countUp_le 65535 _ k⟩

/-- A transmitter that is sending goes on. -/
theorem State.startTx_busy {s : State} (h : s.link.tx ≠ .idle) : s.startTx = s := by
  unfold State.startTx State.modLink
  cases e : s.link.tx with
  | idle => exact absurd e h
  | reply => simp
  | notice => simp

/-! ### The filters of the plain lines -/

/-- When the filter takes a level (10, R196). -/
theorem Line.takes_iff {α : Type} [DecidableEq α] (p : Line α) (taken new : α) :
    p.takes taken new = true ↔
      new ≠ taken ∧ Config.filterMs ≤ p.steady ∧ (p.seen = new ∨ p.seen = taken) := by
  simp [Line.takes, and_assoc]

/-- When the filter takes the level that stands on its line. -/
theorem Line.takes_seen_iff {α : Type} [DecidableEq α] (p : Line α) (taken : α) :
    p.takes taken p.seen = true ↔ p.seen ≠ taken ∧ Config.filterMs ≤ p.steady := by
  simp [Line.takes]

theorem Line.count_steady_le {α : Type} (p : Line α) : p.count.steady ≤ Config.filterMs :=
  Nat.min_le_left _ _

theorem Line.moved_steady_le {α : Type} [DecidableEq α] (p : Line α) (a : α) :
    (p.moved a).steady ≤ p.steady := by
  unfold Line.moved; split <;> simp

@[simp] theorem LineFilter.count_gridHold (f : LineFilter) : f.count.gridHold = f.gridHold.count :=
  rfl

@[simp] theorem LineFilter.count_ack (f : LineFilter) (z : Nat) :
    f.count.ack.get z = (f.ack.get z).count := by
  unfold Quad.get LineFilter.count; split <;> rfl

/-- The changes of the lines one ms queues (10, R196). -/
theorem State.mem_lineChanges (s : State) (i : Instr) :
    i ∈ s.lineChanges ↔
      (∃ z : Fin 4, (s.lines.ack.get z).seen ≠ s.zones.ack.get z ∧
        Config.filterMs ≤ (s.lines.ack.get z).steady ∧
        i = .zoneAckChange z (s.lines.ack.get z).seen) ∨
      (s.lines.gridHold.seen ≠ s.zones.hold ∧ Config.filterMs ≤ s.lines.gridHold.steady ∧
        i = if s.lines.gridHold.seen then .gridHoldAsserted else .gridHoldReleased) := by
  have all : ∀ z : Fin 4, z ∈ ([0, 1, 2, 3] : List (Fin 4)) := by decide
  simp only [State.lineChanges, List.mem_append, List.mem_filterMap, all, true_and,
    Line.takes_seen_iff, Option.ite_none_right_eq_some, Option.some.injEq]
  refine or_congr (exists_congr fun z => ?_) ?_
  · rw [and_assoc, eq_comm (b := i)]
  · split <;> rename_i h
    · simp [h.1, h.2]
    · simp only [List.not_mem_nil, false_iff]
      exact fun g => h ⟨g.1, g.2.1⟩

end Sys2Proof.Machine
end

