-- ==== Sys2Proof/Laws/Blocks.lean ====
section
/-! SUPPORT. What the shared operations of the blocks do, once for each; and that every command has a
next state. -/

namespace Sys2Proof.Machine

namespace State

/-! ### Hand-on and revoke -/

/-- A column with a holder is not handed on (03, R61). -/
theorem handOn_held {s : State} {c : Nat} (h : (s.col c).grant ≠ none) : s.handOn c = s := by
  unfold handOn
  rw [if_pos (Option.isSome_iff_ne_none.mpr h)]

/-- A column whose list has no permitted request is not handed on (03, R61). -/
theorem handOn_none {s : State} {c : Nat}
    (h : ∀ w ∈ (s.col c).waits, s.permitted c w.cls = false) : s.handOn c = s := by
  unfold handOn
  split
  · rfl
  · rw [(takeFirst_eq_none (fun w : WaitReq => s.permitted c w.cls) _).mpr h]

/-- A free column goes to its first permitted request (03, R61). -/
theorem handOn_first {s : State} {c : Nat} {front rest : List WaitReq} {w : WaitReq}
    (hg : (s.col c).grant = none) (hw : (s.col c).waits = front ++ w :: rest)
    (hf : ∀ v ∈ front, s.permitted c v.cls = false) (hp : s.permitted c w.cls = true) :
    s.handOn c =
      (s.modCol c fun q => { q with waits := front ++ rest }).makeGrant c w.robot w.cls := by
  unfold handOn
  rw [if_neg (by simp [hg]), hw,
    takeFirst_append (fun w : WaitReq => s.permitted c w.cls) front rest w hf hp]

/-- Hand-on changes the one column. -/
theorem handOn_col_ne {s : State} {c e : Nat} (h : e ≠ c) : (s.handOn c).col e = s.col e := by
  unfold handOn
  split
  · rfl
  · split
    · rfl
    · show (((s.modCol c _).modCol c _).send _ _).col e = s.col e
      simp only [col, send_columns]
      exact ((s.modCol c _).col_modCol_ne h _).trans (s.col_modCol_ne h _)

/-- Hand-on changes no zone, record or roster entry. -/
theorem handOn_zones (s : State) (c : Nat) : (s.handOn c).zones = s.zones := by
  unfold handOn makeGrant
  split
  · rfl
  · split <;> simp

theorem handOn_handovers (s : State) (c : Nat) : (s.handOn c).handovers = s.handovers := by
  unfold handOn makeGrant
  split
  · rfl
  · split <;> simp

theorem columnsOf_eq (s : State) (z : Nat) :
    s.columnsOf z = (List.range 96).filter fun c => (s.defn c).map (·.zone) == some z := by
  refine List.filter_congr fun c _ => ?_
  cases s.defn c <;> simp

/-- The hand-on of the columns of a zone, ascending (03, R71). -/
theorem handOnZone_eq (s : State) (z : Nat) :
    s.handOnZone z =
      ((List.range 96).filter fun c => (s.defn c).map (·.zone) == some z).foldl handOn s := by
  rw [handOnZone, columnsOf_eq]

/-- The zones whose effective mode is looser are handed on, zones ascending and columns ascending in
each (03, R71). -/
theorem handOnLoosened_eq (s before : State) :
    s.handOnLoosened before =
      ([0, 1, 2, 3].flatMap fun z =>
        if (s.effective z).level < (before.effective z).level then
          (List.range 96).filter fun c => (s.defn c).map (·.zone) == some z
        else []).foldl handOn s := by
  have key : ∀ (l : List Nat) (t : State), (∀ c, t.defn c = s.defn c) →
      (l.filter fun z => (before.effective z).stricter (s.effective z)).foldl handOnZone t =
        l.foldl (fun t z =>
          (if (s.effective z).level < (before.effective z).level then
            (List.range 96).filter fun c => (s.defn c).map (·.zone) == some z
          else []).foldl handOn t) t := by
    intro l
    induction l with
    | nil => intro t _; rfl
    | cons z l ih =>
      intro t h
      by_cases hz : (s.effective z).level < (before.effective z).level
      · simp only [List.filter_cons, Mode.stricter, hz, decide_true, if_true, List.foldl_cons]
        have hd : ∀ c, (t.handOnZone z).defn c = s.defn c := fun c =>
          ((BlockFrame.handOnZone t z).toFrame.defn c).trans (h c)
        have := ih _ hd
        simp only [Mode.stricter] at this
        rw [this, handOnZone_eq]
        simp only [h]
      · simp only [List.filter_cons, Mode.stricter, hz, decide_false, List.foldl_cons,
          Bool.false_eq_true, if_false, List.foldl_nil]
        exact ih t h
  rw [foldl_flatMap]
  exact key _ s fun _ => rfl

/-- A revoke of a pending revoke does nothing (03, R66). -/
theorem revoke_pending {s : State} {c : Nat} {g : Grant} (cause : RevokeCause)
    (h : (s.col c).grant = some g) (hr : g.revoke ≠ none) : s.revoke c cause = s := by
  unfold revoke
  rw [h]
  simp [Option.isSome_iff_ne_none.mpr hr]

/-- A revoke changes the one column. -/
theorem revoke_col_ne {s : State} {c e : Nat} (h : e ≠ c) (cause : RevokeCause) :
    (s.revoke c cause).col e = s.col e := by
  unfold revoke
  split
  · rfl
  · split
    · rfl
    · simp only [col, send_columns]
      exact s.col_modCol_ne h _

theorem revoke_zones (s : State) (c : Nat) (cause : RevokeCause) :
    (s.revoke c cause).zones = s.zones := by
  unfold revoke
  split
  · rfl
  · split <;> simp

theorem revoke_handovers (s : State) (c : Nat) (cause : RevokeCause) :
    (s.revoke c cause).handovers = s.handovers := by
  unfold revoke
  split
  · rfl
  · split <;> simp

/-! ### Remaps -/

/-- A remap changes the map and the audit unit alone. -/
theorem examineRemap_rest (s : State) (c : Nat) :
    (s.examineRemap c).1 =
      { s with xpMap := (s.examineRemap c).1.xpMap, audit := (s.examineRemap c).1.audit } := by
  unfold examineRemap
  split
  · rfl
  · split
    · unfold completeRemap
      dsimp only
      split <;> rfl
    · rfl

/-- A column that no XP maps has no remap. -/
theorem examineRemap_unmapped {s : State} {c : Nat} (h : s.mappedBy c = none) :
    s.examineRemap c = (s, []) := by
  unfold examineRemap
  rw [h]

/-- The remap condition fails (01, R19). -/
theorem examineRemap_waits {s : State} {c : Nat} (h : s.remapReady c = false) :
    s.examineRemap c = (s, []) := by
  unfold examineRemap
  split
  · rfl
  · simp [h]

/-! ### Deadlines -/

/-- Judging deadlines changes no field of a record but the deadline. -/
theorem judged_eq (s : State) (h : Handover) :
    s.judged h = { h with deadline := (s.judged h).deadline } := by
  unfold judged
  split <;> rfl

/-- A stopped deadline stays as it is (02, R47). -/
theorem judge_stopped {d : Deadline} (b : Bool) (h : d.cond = .stopped) : d.judge b = d := by
  unfold Deadline.judge
  rw [h]

/-- Judging a deadline keeps its kind and remaining time (02, R43). -/
theorem judge_remaining (d : Deadline) (b : Bool) :
    (d.judge b).remaining = d.remaining ∧ (d.judge b).kind = d.kind := by
  unfold Deadline.judge
  split <;> exact ⟨rfl, rfl⟩

/-! ### Custody -/

/-- Freeing an OPEN record changes the table and its giver's slot alone (02, R37, R44). -/
theorem freeOpen_rest (s : State) (h : Handover) :
    s.freeOpen h =
      { s with handovers := (s.freeOpen h).handovers, roster := (s.freeOpen h).roster } := by
  unfold freeOpen setSlot modRobot
  split
  · split <;> rfl
  · rfl

theorem freeOpen_gone (s : State) (h : Handover) : (s.freeOpen h).handover h.number = none := by
  unfold freeOpen
  split <;> exact handover_freeHandover_same _ _

end State

/-! ### Every command has a next state -/

theorem event_next (f : State → State) (s : State) : ∃ t, event f s = .next t := ⟨_, rfl⟩

/-- The part never stops: every command has a next state in every state. -/
theorem exec_next (i : Instr) (s : State) : ∃ t, exec i s = .next t := by
  cases i <;> simp only [exec]
  case requestRejected =>
    unfold execRequestRejected
    split
    · exact ⟨_, rfl⟩
    · exact hostRequest_next ..
  case requestOverflow =>
    unfold execRequestOverflow
    split
    · exact ⟨_, rfl⟩
    · split <;> exact ⟨_, rfl⟩
  case controlFrameDiscard => exact ⟨_, rfl⟩
  case frameTimeout link => unfold execFrameTimeout; split <;> exact ⟨_, rfl⟩
  case controlFrameSent =>
    unfold execControlFrameSent
    split <;> exact ⟨_, rfl⟩
  case fleetFrameDiscard => exact ⟨_, rfl⟩
  case fleetUnknownKind =>
    unfold execFleetUnknownKind
    split
    · exact ⟨_, rfl⟩
    · exact robotFrame_next ..
  case fleetFrameSent => exact ⟨_, rfl⟩
  case announce =>
    unfold execAnnounce
    split <;> exact ⟨_, rfl⟩
  case stageExpired =>
    unfold execStageExpired
    split
    · split <;> exact ⟨_, rfl⟩
    · exact ⟨_, rfl⟩
  case relocationOverdue =>
    unfold execRelocationOverdue
    split
    · split <;> exact ⟨_, rfl⟩
    · exact ⟨_, rfl⟩
  case collectExpired =>
    unfold execCollectExpired
    split
    · split <;> exact ⟨_, rfl⟩
    · exact ⟨_, rfl⟩
  case holdLimitExpiry =>
    unfold execHoldLimitExpiry
    split
    · split <;> exact ⟨_, rfl⟩
    · exact ⟨_, rfl⟩
  case releaseGraceExpiry =>
    unfold execReleaseGraceExpiry
    split
    · split <;> exact ⟨_, rfl⟩
    · exact ⟨_, rfl⟩
  case operationLimitExpiry =>
    unfold execOperationLimitExpiry
    split
    · split <;> exact ⟨_, rfl⟩
    · exact ⟨_, rfl⟩
  case readyLimitExpiry =>
    unfold execReadyLimitExpiry
    split
    · split <;> exact ⟨_, rfl⟩
    · exact ⟨_, rfl⟩
  case auditTick =>
    unfold execAuditTick
    split <;> exact ⟨_, rfl⟩
  case callLimitExpiry =>
    unfold execCallLimitExpiry
    split
    · split <;> exact ⟨_, rfl⟩
    · exact ⟨_, rfl⟩
  case zoneAckChange =>
    unfold execZoneAckChange
    split <;> exact ⟨_, rfl⟩
  case interlockLimitExpiry =>
    unfold execInterlockLimitExpiry
    split
    · exact ⟨_, rfl⟩
    · split <;> exact ⟨_, rfl⟩
  case gridHoldAsserted =>
    unfold execGridHoldAsserted
    split <;> exact ⟨_, rfl⟩
  case gridHoldReleased =>
    unfold execGridHoldReleased
    split <;> exact ⟨_, rfl⟩
  case hardwareReset cause pins =>
    cases cause
    · exact ⟨_, rfl⟩
    · exact ⟨_, rfl⟩
    · unfold execHardwareReset
      dsimp only
      split <;> exact ⟨_, rfl⟩
  case ready => exact robotFrame_next ..
  case loadReport => exact robotFrame_next ..
  case dropOff => exact robotFrame_next ..
  case grantReq => exact robotFrame_next ..
  case withdraw => exact robotFrame_next ..
  case release => exact robotFrame_next ..
  case opStart => exact robotFrame_next ..
  case opEnd => exact robotFrame_next ..
  case faultReport => exact robotFrame_next ..
  all_goals exact hostRequest_next ..

end Sys2Proof.Machine
end

