-- ==== Sys2Proof/Tests/Slice0.lean ====
section
/-! SUPPORT. The model's own tests: the ill-formed commands the check refuses, every command once on a
small section, and for each statement with hypotheses a state and operands that meet them, with what
the command answers there (test_witness_…). -/

namespace Sys2Proof.Tests
open Sys2Proof Sys2Proof.Machine

set_option Elab.async false

/-! ### Reading an outcome -/

/-- The state a command leaves. -/
def after (c : Instr) (s : State) : State :=
  match exec c s with
  | .next t => t
  | _ => s

/-- The next state a command answers, if it answers one. -/
def ran (c : Instr) (s : State) : Option State :=
  match exec c s with
  | .next t => some t
  | _ => none

/-- The next state a step answers, if it answers one. -/
def stepped (s : State) : Option State :=
  match step s with
  | .next t => some t
  | _ => none

/-- The last reply a command leaves waiting. -/
def answer (c : Instr) (s : State) : Option (Status × ReplyBody) :=
  (after c s).link.replies.getLast?.map fun r => (r.status, r.body)

/-- The status of the last reply. -/
def code (c : Instr) (s : State) : Option Status := (answer c s).map (·.1)

/-- The frames a command queues for robots. -/
def frames (c : Instr) (s : State) : List FleetFrame :=
  (after c s).link.fleet.drop s.link.fleet.length

/-- The notices a command queues. -/
def told (c : Instr) (s : State) : List NoticeBody :=
  ((after c s).link.notices.drop s.link.notices.length).map (·.body)

/-- The answer to a robot's frame: REFUSED with its reason, or none for another answer. -/
def refusal (c : Instr) (s : State) : Option Status :=
  (frames c s).findSome? fun f =>
    match f.msg with
    | .refused r _ => some r
    | _ => none

/-- The plain lines 2 ms later. -/
def settled (s : State) : State := { s with lines := s.lines.count.count }

/-- So many milliseconds. -/
def ms (n : Nat) (s : State) : State := n.repeat State.countDown s

/-- What the last of so many milliseconds puts in the queue. -/
def due (n : Nat) (s : State) : List Instr := (ms n s).expiries

/-! ### A small section -/

/-- A robot in a state, with what it carries. -/
def bot (n : Nat) (st : RobotState) (k : Option Cls) (sl : Slot) : Robot :=
  ⟨BitVec.ofNat 48 n, 1, 0, 0, st, k, false, sl, false, none, none⟩

/-- A column of a zone with a stack. -/
def shelf (x z g cap : Nat) (v : Verification) (st : List Entry) : Column :=
  { Column.blank with defn := some ⟨x, 1, z, g, cap, 300⟩, verification := v, stack := st }

/-- A section in RUNNING: columns 0 to 2 and 95, XPs 0, 1 and 79, robots 1 to 6 in the five states,
and a handover in each state of rest. -/
def demo : State :=
  { State.reset with
    sectionState := .running
    columns :=
      [shelf 1 0 0 3 .fresh [], shelf 2 0 1 1 .fresh [.tracked 6],
        shelf 3 0 11 4 .unverified [.foreign 9]] ++ List.replicate 92 Column.blank ++
      [shelf 0 3 11 4 .fresh [.tracked 8]]
    xpMap := [some ⟨0, false⟩, some ⟨1, false⟩] ++ List.replicate 77 none ++ [some ⟨95, false⟩]
    handovers :=
      [⟨5, 55, 2, .any, .openState, some 0, .robot 2, some ⟨.stage, 0, .running⟩, false, 0, 0⟩,
        ⟨6, 66, 1, .any, .staged, some 1, .column 1 0, some ⟨.collect, 0, .running⟩, false, 0, 0⟩,
        ⟨7, 77, 1, .addr 1, .carried, none, .robot 5, some ⟨.stage, 0, .running⟩, true, 255, 0⟩,
        ⟨8, 88, 1, .none, .parked, some 95, .column 95 0, none, false, 0, 0⟩,
        ⟨9, 99, 1, .addr 4, .unlocated, none, .unlocated, none, false, 0, 0⟩]
    lastNumber := 9
    roster :=
      [some (bot 1 .active (some .service) .empty),
        some (bot 2 .active (some .transfer) (.tracked 5)),
        some { bot 3 .announced none .empty with readyTimer := some 0 },
        some (bot 4 .ready none (.untracked 1)),
        some (bot 5 .lost (some .recovery) (.tracked 7)),
        some (bot 6 .inactive none .empty)] ++ List.replicate 42 none
    zones := ⟨Quad.same .openMode, Quad.same .openMode, Quad.same .openMode, none, false, false⟩ }

/-- The section before COMMIT: its columns and map, nothing else. -/
def plan : State :=
  { State.reset with
    columns := demo.columns
    xpMap := demo.xpMap }

/-- A grant of a class held on a column. -/
def held (c a : Nat) (k : Cls) (s : State) : State :=
  s.modCol c fun q => { q with grant := some ⟨a, k, some 30000, none, none⟩ }

/-- An operation in flight on a column. -/
def busy (c a : Nat) (k : OpKind) (st : Option SetHalf) (l : Option LiftHalf)
    (ps : List (Nat × HandoverState)) (s : State) : State :=
  s.modCol c fun q => { q with op := some ⟨k, a, st, l, ps, false, 0, 0⟩ }

/-- A transition under way. -/
def moving (st : TransState) (k : TransKind) (q : Quad Mode) (s : State) : State :=
  { s with zones := { s.zones with
      trans := some ⟨st, k, q, Quad.same 0, .request 4, false, some 0⟩
      driven := if st = .changing then q else s.zones.current } }

/-! ### Well-formed commands -/

/-- Every check refuses a command that breaks it. -/
theorem test_wellFormed_refuses :
    (Instr.setParameters 0 []).wellFormed = false ∧
    (Instr.status 1 (List.replicate 510 0)).wellFormed = false ∧
    (Instr.requestRejected 25 1 []).wellFormed = false ∧
    (Instr.requestRejected 26 0 []).wellFormed = false ∧
    (Instr.requestOverflow 1 0).wellFormed = false ∧
    (Instr.fleetUnknownKind 1 10).wellFormed = false ∧
    (Instr.ready 1 (List.replicate 47 0)).wellFormed = false ∧
    (Instr.stageExpired 0).wellFormed = false ∧
    (Instr.collectExpired 65536).wellFormed = false ∧
    (Instr.relocationOverdue 0).wellFormed = false ∧
    (Instr.holdLimitExpiry 96).wellFormed = false ∧
    (Instr.releaseGraceExpiry 96).wellFormed = false ∧
    (Instr.operationLimitExpiry 96).wellFormed = false ∧
    (Instr.readyLimitExpiry 0).wellFormed = false ∧
    (Instr.readyLimitExpiry 49).wellFormed = false := by decide +kernel

/-- The bounds themselves are accepted. -/
theorem test_wellFormed_accepts :
    (Instr.status 1 (List.replicate 509 0)).wellFormed = true ∧
    (Instr.requestRejected 26 1 []).wellFormed = true ∧
    (Instr.fleetUnknownKind 0 11).wellFormed = true ∧
    (Instr.announce 0 (List.replicate 46 0)).wellFormed = true ∧
    (Instr.stageExpired 65535).wellFormed = true ∧
    (Instr.holdLimitExpiry 95).wellFormed = true ∧
    (Instr.readyLimitExpiry 48).wellFormed = true := by decide +kernel

/-! ### The queue, the time base and the links -/

theorem test_step_takes_the_front :
    stepped { demo with pending := [.auditTick, .callLimitExpiry] } =
      some { demo with pending := [.callLimitExpiry] } := by decide +kernel

theorem test_idle_step_counts :
    stepped State.reset = some { State.reset with time := 1 } := by decide +kernel

theorem test_timer_queues_its_expiry :
    let s : State := { State.reset with audit := { State.reset.audit with tick := some 1 } }
    s.countDown.expiries = [.auditTick] ∧ s.countDown.audit.tick = some 0 := by decide +kernel

theorem test_witness_links :
    (after (.controlFrameDiscard .tagZero) demo).link.controlDiscards = 1 ∧
    ran (.frameTimeout .control) demo = some demo ∧ ran (.frameTimeout .fleet) demo = some demo ∧
    (after (.fleetFrameDiscard .badCrc) demo).link.fleetDiscards = 1 ∧
    demo.robot 0 = none ∧ demo.robot 7 = none ∧
    (after (.ready 0 []) demo).link.fleetDiscards = 1 ∧
    (after (.ready 7 []) demo).link.fleetDiscards = 1 ∧
    (after (.fleetUnknownKind 48 0) demo).link.fleetDiscards = 1 ∧
    code (.requestRejected 26 1 []) demo = some .unknownKind ∧
    refusal (.fleetUnknownKind 1 11) demo = some .unknownKind ∧
    code (.queryXp 1 []) demo = some .badBody ∧
    refusal (.opEnd 1 []) demo = some .badBody ∧
    refusal (.faultReport 1 [0, 3]) demo = some .outOfRange ∧
    (after (.announce 0 [1]) demo).link.fleetDiscards = 1 := by decide +kernel

/-- A part with a full receive buffer, 4 requests answered and the first reply being sent. -/
def full : State :=
  ([1, 2, 3, 4] : List Word16).foldl (fun s t => after (.status t []) s) demo

theorem test_witness_full_buffer :
    full.link.received.length = 4 ∧ full.link.tx = .reply ∧
    full.overflows = 0 ∧
    answer (.status 5 []) full = some (.overflow, .overflow 4) ∧
    answer (.requestOverflow 1 5) full = some (.overflow, .overflow 4) ∧
    answer (.requestRejected 26 5 []) full = some (.overflow, .overflow 4) ∧
    ((List.replicate 5 (Instr.requestOverflow 1 5)).foldl (fun s c => after c s) full).overflows = 4 ∧
    ((List.replicate 5 (Instr.requestOverflow 1 5)).foldl (fun s c => after c s)
      full).link.controlDiscards = 1 ∧
    (after .controlFrameSent full).link.received.length = 3 ∧
    (after .controlFrameSent full).link.tx = .reply := by decide +kernel

theorem test_witness_queues :
    (demo.notify (.holdAsserted .none)).startTx.link.tx = .notice ∧
    (after .controlFrameSent (demo.notify (.holdAsserted .none)).startTx).link.notices = [] ∧
    (demo.notify (.holdAsserted .none)).attention = true ∧ demo.attention = false ∧
    ((List.replicate 33 (NoticeBody.holdAsserted .none)).foldl State.notify demo).link.notices.length =
      32 ∧
    ((List.replicate 33 (NoticeBody.holdAsserted .none)).foldl State.notify demo).link.lost = 1 ∧
    ((List.replicate 65 FleetMsg.dismissed).foldl (fun s m => s.send 1 m) demo).link.fleet.length =
      64 ∧
    ((List.replicate 65 FleetMsg.dismissed).foldl (fun s m => s.send 1 m) demo).link.fleetDrops = 1 ∧
    (after .fleetFrameSent (demo.send 1 .dismissed)).link.fleet = [] ∧
    ran .controlFrameSent demo = some demo := by decide +kernel

theorem test_witness_status :
    code (.status 1 []) demo = some .ok ∧ code (.status 1 []) State.reset = some .ok ∧
    (after (.status 1 []) { demo with link := { demo.link with overrun := true, lost := 7 } }).link.lost =
      0 := by decide +kernel

/-! ### Configuration -/

theorem test_witness_section_state :
    plan.sectionState = .unconfigured ∧ demo.sectionState = .running ∧
    (∀ c ∈ [Instr.resetSection 1 [], .admitRobot 1 [0, 1, 0], .dismiss 1 [0, 1],
      .openHandover 1 [0, 0, 0, 1, 1, 255, 0, 0], .assignTaker 1 [0, 5, 255], .cancelHandover 1 [0, 5],
      .releaseTracking 1 [0, 5], .lockGroup 1 [0], .unlockGroup 1 [0], .retireColumn 1 [0],
      .reconcileColumn 1 [0, 0], .releaseFreeze 1 [0, 0], .modeRequest 1 [0, 0, 0, 0],
      .modeCancel 1 []], c.request.isSome ∧ c.bodyProblem = none ∧ code c plan = some .notRunning) ∧
    (∀ c ∈ [Instr.setParameters 1 (List.replicate 12 0), .defineColumn 1 [0, 0, 0, 0, 0, 1, 0],
      .commit 1 []], c.request.isSome ∧ c.bodyProblem = none ∧ code c demo = some .lockedConfig) := by decide +kernel

/-- SET_PARAMETERS with the stage limit given, all else kept. -/
def stageLimit (hi lo : Byte) : List Byte := [1, hi, lo] ++ List.replicate 11 0

theorem test_witness_setParameters :
    Body.setParameters (stageLimit 2 88) = .ok (some 600 :: List.replicate 11 none) ∧
    code (.setParameters 1 (stageLimit 2 88)) plan = some .ok ∧
    (after (.setParameters 1 (stageLimit 2 88)) plan).params.stageLimit = 600 ∧
    answer (.setParameters 1 (stageLimit 2 89)) plan =
      some (.outOfRange, .paramOutOfRange 0 601) ∧
    code (.setParameters 1 (stageLimit 0 10)) plan = some .ok ∧
    answer (.setParameters 1 (stageLimit 0 9)) plan = some (.outOfRange, .paramOutOfRange 0 9) ∧
    answer (.setParameters 1 (List.replicate 11 0 ++ [1, 16])) plan =
      some (.outOfRange, .paramOutOfRange 11 16) := by decide +kernel

theorem test_witness_defineColumn :
    Body.defineColumn [95, 255, 255, 3, 11, 4, 1, 0, 0, 7, 208] =
      .ok ⟨95, 255, 255, 3, 11, 4, some 2000⟩ ∧
    code (.defineColumn 1 [95, 255, 255, 3, 11, 4, 1, 0, 0, 7, 208]) plan = some .ok ∧
    (after (.defineColumn 1 [3, 5, 6, 3, 11, 1, 0]) plan).defn 3 = some ⟨5, 6, 3, 11, 1, 300⟩ ∧
    answer (.defineColumn 1 [96, 0, 0, 0, 0, 1, 0]) plan = some (.unknownColumn, .none) ∧
    answer (.defineColumn 1 [3, 0, 0, 4, 0, 1, 0]) plan = some (.outOfRange, .fieldOutOfRange 2) ∧
    answer (.defineColumn 1 [3, 0, 0, 0, 12, 1, 0]) plan = some (.outOfRange, .fieldOutOfRange 3) ∧
    answer (.defineColumn 1 [3, 0, 0, 0, 0, 0, 0]) plan = some (.outOfRange, .fieldOutOfRange 4) ∧
    answer (.defineColumn 1 [3, 0, 0, 0, 0, 5, 0]) plan = some (.outOfRange, .fieldOutOfRange 4) ∧
    answer (.defineColumn 1 [3, 0, 0, 0, 0, 1, 1, 0, 0, 7, 209]) plan =
      some (.outOfRange, .fieldOutOfRange 5) := by decide +kernel

theorem test_witness_mapXp :
    answer (.mapXp 1 [80, 1]) plan = some (.unknownXp, .none) ∧
    (after (.mapXp 1 [79, 1]) plan).xp 79 = none ∧
    answer (.mapXp 1 [78, 0, 96]) plan = some (.unknownColumn, .none) ∧
    answer (.mapXp 1 [79, 0, 95]) plan = some (.ok, .mapped 79 (some ⟨95, false⟩)) ∧
    answer (.mapXp 1 [78, 0, 95]) plan = some (.inUse, .none) ∧
    (after (.mapXp 1 [78, 0, 3]) plan).xp 78 = some ⟨3, false⟩ ∧
    answer (.mapXp 1 [79, 1]) demo = some (.wrongState, .none) ∧
    answer (.mapXp 1 [78, 0, 3]) demo = some (.unknownColumn, .none) ∧
    answer (.mapXp 1 [79, 0, 2]) demo = some (.wrongState, .none) ∧
    answer (.mapXp 1 [78, 0, 95]) demo = some (.inUse, .none) ∧
    answer (.mapXp 1 [78, 0, 2]) (demo.modCol 2 fun k => { k with retired := true }) =
      some (.retired, .none) ∧
    answer (.mapXp 1 [78, 0, 2]) demo = some (.ok, .mappedSpare 78 2 0 .unverified) := by
  decide +kernel

theorem test_witness_commit_refused :
    answer (.commit 1 []) State.reset = some (.badConfig, .badConfig .noMappedXp) ∧
    answer (.commit 1 []) (plan.setXp 78 (some ⟨3, false⟩)) =
      some (.badConfig, .badConfig (.undefinedColumn 78 3)) ∧
    answer (.commit 1 []) (plan.modCol 2 fun k => { k with defn := some ⟨1, 1, 0, 0, 1, 0⟩ }) =
      some (.badConfig, .badConfig (.coordinateClash 1 1 0 2)) ∧
    answer (.commit 1 []) { plan with params := { plan.params with acceptedClasses := 0 } } =
      some (.badConfig, .badConfig .noGripperClass) := by decide +kernel

theorem test_witness_commit :
    plan.xpMap.any Option.isSome = true ∧ plan.params.acceptedClasses ≠ 0 ∧
    (∀ x < 80, ∀ e ∈ (plan.xp x).toList, (plan.defn e.column).isSome) ∧
    (∀ c < 96, ∀ d < 96, c ≠ d → ∀ j ∈ (plan.defn c).toList, ∀ k ∈ (plan.defn d).toList, ¬(j.x = k.x ∧ j.y = k.y)) ∧
    answer (.commit 1 []) plan = some (.ok, .committed 4 3 ⟨1, 0, 0, 0⟩ 300000) ∧
    (after (.commit 1 []) plan).col 0 =
      { Column.blank with defn := plan.defn 0, causes := ⟨false, false, true⟩ } ∧
    (after (.commit 1 []) plan).audit.tick = some 300000 := by decide +kernel

/-- Column 0 retired with its remap pending. -/
def waning : State :=
  (demo.modCol 0 fun k => { k with retired := true }).setXp 0 (some ⟨0, true⟩)

theorem test_witness_reset_section :
    answer (.resetSection 1 []) waning =
      some (.ok, .sectionReset 5 6 0 0 none [(0, 0, some 2)]) ∧
    (after (.resetSection 1 []) waning).xp 0 = some ⟨2, false⟩ ∧
    (after (.resetSection 1 []) waning).handovers = [] ∧
    (∀ x < 80, ∀ e ∈ (waning.xp x).toList, e.remapPending = true → (waning.col e.column).retired = true) ∧
    (∀ x < 80, ∀ y < 80, ∀ e ∈ (waning.xp x).toList, ∀ f ∈ (waning.xp y).toList, e.column = f.column → x = y) ∧
    waning.columns.length = 96 ∧ waning.xpMap.length = 80 ∧ waning.roster.length = 48 := by
  decide +kernel

/-- Two remaps pending, a notice being sent and one behind it, and notices lost before. -/
def crossing : State :=
  let s := (((waning.modCol 1 fun k => { k with retired := true }).setXp 1 (some ⟨1, true⟩)).notify
    (.holdAsserted .none)).notify (.holdAsserted .waiting)
  { s with link := { s.link with tx := .notice, overrun := true, lost := 7 } }

/-- The lower XP takes the one spare of the zone, the higher is left without; the frame being sent
stays, and the REMAP_DONE notices follow it. -/
theorem test_witness_reset_section_queues :
    answer (.resetSection 1 []) crossing =
      some (.ok, .sectionReset 5 6 0 0 none [(0, 0, some 2), (1, 1, none)]) ∧
    (after (.resetSection 1 []) crossing).xp 1 = none ∧
    (after (.resetSection 1 []) crossing).link.notices =
      [⟨0, 0, .holdAsserted .none⟩, ⟨2, 0, .remapDone 0 0 (some 2)⟩, ⟨3, 0, .remapDone 1 1 none⟩] ∧
    (after (.resetSection 1 []) crossing).link.overrun = false ∧
    (after (.resetSection 1 []) crossing).link.lost = 0 ∧
    (after (.resetSection 1 []) crossing).link.nextSeq = 4 := by decide +kernel

theorem test_witness_hardware_reset :
    ran (.hardwareReset .powerOn PinLevels.pulledDown) demo = some State.reset ∧
    ran (.hardwareReset .resetLow ⟨true, true, true, Quad.same .closed⟩) demo =
      some { State.reset with
        zones := ⟨Quad.same .closed, Quad.same .closed, Quad.same .closed, none, true, false⟩
        lines := ⟨⟨true, 2⟩, Quad.same ⟨.closed, 2⟩⟩
        link := { State.reset.link with rate := .r230400 } } := by decide +kernel

/-- Every clause of the parameters' reset values, and the part's tables as the first reset leaves
them. -/
theorem test_reset_values :
    State.reset.params = ⟨120, 300, 30, 4, 20, 30, 900, 120, 1000, 3, 255, 0⟩ ∧
    State.reset.columns.length = 96 ∧ State.reset.link.rate = .r19200 := by decide +kernel

/-! ### Columns and the map -/

theorem test_witness_locks :
    answer (.lockGroup 1 [11]) demo = some (.ok, .lockFlag 11 true 2) ∧
    (after (.lockGroup 1 [11]) demo).lockFlags.getD 11 false = true ∧
    answer (.lockGroup 1 [12]) demo = some (.outOfRange, .none) ∧
    answer (.unlockGroup 1 [11]) (after (.lockGroup 1 [11]) demo) = some (.ok, .lockFlag 11 false 2) ∧
    (after (.unlockGroup 1 [11]) (after (.lockGroup 1 [11]) demo)).lockFlags = demo.lockFlags := by
  decide +kernel

theorem test_witness_remap :
    waning.mappedBy 0 = some 0 ∧ waning.remapReady 0 = false ∧
    (waning.freeHandover 5).remapReady 0 = true ∧
    ((waning.freeHandover 5).examineRemap 0).1.xp 0 = some ⟨2, false⟩ ∧
    ((waning.freeHandover 5).examineRemap 0).2 = [.remapDone 0 0 (some 2)] ∧
    (((waning.freeHandover 5).modCol 2 fun k => { k with retired := true }).examineRemap 0).2 =
      [.remapDone 0 0 none] := by decide +kernel

theorem test_witness_retire :
    answer (.retireColumn 1 [3]) demo = some (.unknownColumn, .none) ∧
    answer (.retireColumn 1 [0]) waning = some (.already, .none) ∧
    answer (.retireColumn 1 [0]) demo = some (.ok, .columnRetired 0 (some 0) false) ∧
    answer (.retireColumn 1 [0]) (demo.freeHandover 5) = some (.ok, .columnRetired 0 (some 0) true) ∧
    (told (.retireColumn 1 [0]) (demo.freeHandover 5)).length = 2 := by decide +kernel

theorem test_witness_faultReport :
    refusal (.faultReport 1 [96, 0]) demo = some .unknownColumn ∧
    refusal (.faultReport 4 [0, 0]) demo = some .notActive ∧
    ((after (.faultReport 1 [0, 2]) demo).col 0).lastFault = some (.report .sensor 1) ∧
    ((after (.faultReport 1 [0, 2]) demo).col 0).faultCount = 1 ∧
    ((after (.faultReport 1 [0, 0]) waning).col 0).faultCount = 0 ∧
    ((after (.faultReport 1 [0, 0]) (demo.modCol 0 fun k => { k with faultCount := 2 })).col
      0).retired = true := by decide +kernel

theorem test_witness_column_queries :
    code (.queryColumn 1 [3]) demo = some .unknownColumn ∧
    code (.queryColumn 1 [95]) demo = some .ok ∧
    code (.queryXp 1 [80]) demo = some .unknownXp ∧
    answer (.queryXp 1 [78]) demo = some (.ok, .xp ⟨78, none⟩) ∧
    code (.queryXp 1 [79]) demo = some .ok := by decide +kernel

/-! ### Handovers -/

theorem test_witness_numbers :
    demo.nextNumber = 10 ∧ { demo with lastNumber := 65535 }.nextNumber = 1 ∧
    { demo with lastNumber := 4 }.nextNumber = 10 := by decide +kernel

theorem test_witness_eligibility :
    demo.obstacle 0 = none ∧ demo.obstacle 2 = some .unmapped ∧ waning.obstacle 0 = some .retired ∧
    { demo with lockFlags := List.replicate 12 true }.obstacle 0 = some .locked ∧
    (demo.addSuspect 0).obstacle 0 = some .frozen ∧
    (demo.setAudit 0 .unverified false).obstacle 0 = some .unverified ∧
    (moving .waiting .normal (Quad.same .drain) demo).obstacle 0 = some .zoneMode ∧
    demo.obstacle 1 = some .full ∧
    demo.chooseInZone 0 = some (0, 0) ∧ demo.chooseInZone 1 = none := by decide +kernel

/-- OPEN_HANDOVER of a tag for a giver and a taker on XP 0. -/
def opening (t g k sel x : Byte) : Instr := .openHandover 1 [0, 0, 0, t, g, k, sel, x]

theorem test_witness_open_refused :
    code (opening 0 1 255 0 0) demo = some .badTag ∧
    code (opening 99 1 255 0 0) demo = some .duplicateBin ∧
    code (opening 3 1 255 0 0)
      { demo with handovers := List.replicate 192 ⟨1, 1, 1, .any, .parked, none, .unlocated, none,
        false, 0, 0⟩ } = some .tableFull ∧
    answer (opening 3 48 255 0 0) demo = some (.unknownRobot, .unknownRobot .giver) ∧
    code (opening 3 3 255 0 0) demo = some .notActive ∧
    code (opening 3 2 255 0 0) demo = some .giverLoaded ∧
    code (opening 3 1 0 0 0) demo = some .outOfRange ∧
    answer (opening 3 1 48 0 0) demo = some (.unknownRobot, .unknownRobot .taker) ∧
    code (opening 3 1 6 0 0) demo = some .inactive ∧
    code (opening 3 1 255 0 80) demo = some .unknownXp ∧
    answer (opening 3 1 255 0 78) demo =
      some (.notEligible, .notEligible (some 78) none .unmapped) ∧
    answer (opening 3 1 255 0 1) demo =
      some (.notEligible, .notEligible (some 1) (some 1) .full) ∧
    code (opening 3 1 255 1 4) demo = some .outOfRange ∧
    answer (opening 3 1 255 1 1) demo = some (.notEligible, .notEligible none none .noColumn) := by
  decide +kernel

theorem test_witness_open :
    answer (opening 3 1 255 0 0) demo = some (.ok, .opened 10 0 0) ∧
    answer (opening 3 1 5 1 3) demo = some (.ok, .opened 10 95 79) ∧
    ((after (opening 3 1 5 1 3) demo).robot 1).map (·.slot) = some (.tracked 10) ∧
    ((after (opening 3 1 5 1 3) demo).handover 10).map (·.custody) = some (.robot 1) := by
  decide +kernel

theorem test_witness_assignTaker :
    code (.assignTaker 1 [0, 4, 255]) demo = some .unknownHandover ∧
    code (.assignTaker 1 [0, 9, 255]) demo = some .wrongState ∧
    code (.assignTaker 1 [0, 8, 0]) demo = some .outOfRange ∧
    answer (.assignTaker 1 [0, 8, 7]) demo = some (.unknownRobot, .unknownRobot .taker) ∧
    code (.assignTaker 1 [0, 8, 6]) demo = some .inactive ∧
    answer (.assignTaker 1 [0, 8, 5]) demo =
      some (.ok, .takerAssigned 8 (.addr 5) .staged (some ⟨.collect, 300000, .running⟩)) ∧
    code (.assignTaker 1 [0, 7, 255]) demo = some .ok ∧
    code (.assignTaker 1 [0, 5, 255]) demo = some .ok := by decide +kernel

theorem test_witness_cancel_and_release :
    code (.cancelHandover 1 [0, 4]) demo = some .unknownHandover ∧
    code (.releaseTracking 1 [0, 4]) demo = some .unknownHandover ∧
    answer (.cancelHandover 1 [0, 5]) demo = some (.ok, .cancelled 5 .empty) ∧
    answer (.releaseTracking 1 [0, 5]) (demo.setSlot 2 (.tracked 5) true) =
      some (.ok, .cancelled 5 (.untracked 55)) ∧
    answer (.cancelHandover 1 [0, 6]) demo = some (.ok, .nowParked 6) ∧
    code (.releaseTracking 1 [0, 6]) demo = some .wrongState ∧
    answer (.cancelHandover 1 [0, 6])
      (demo.modHandover 6 fun h => { h with state := .lifting }) = some (.wrongState, .inState .lifting) ∧
    answer (.releaseTracking 1 [0, 8]) demo = some (.ok, .released 8 88 (.column 95 0)) ∧
    ((after (.releaseTracking 1 [0, 8]) demo).col 95).stack = [.foreign 88] ∧
    code (.cancelHandover 1 [0, 7]) demo = some .wrongState ∧
    answer (.releaseTracking 1 [0, 7]) demo = some (.ok, .released 7 77 (.robot 5)) ∧
    code (.releaseTracking 1 [0, 7]) (busy 0 5 .set (some (.relocation 7)) none [] demo) =
      some .inFlight ∧
    answer (.releaseTracking 1 [0, 9]) demo = some (.ok, .released 9 99 .unlocated) := by
  decide +kernel

theorem test_witness_handover_queries :
    code (.queryHandover 1 [1, 0, 0, 0, 0]) demo = some .badTag ∧
    code (.queryHandover 1 [0, 0, 4]) demo = some .unknownHandover ∧
    code (.queryHandover 1 [1, 0, 0, 0, 55]) demo = some .ok ∧
    code (.queryHandover 1 [0, 0, 9]) demo = some .ok ∧
    code (.listHandovers 1 [0, 7, 1, 0, 0]) demo = some .outOfRange ∧
    code (.listHandovers 1 [1, 0, 4, 0, 0]) demo = some .outOfRange ∧
    answer (.listHandovers 1 [0, 6, 1, 0, 9]) demo =
      some (.ok, .handoverList [⟨9, 99, .unlocated, .addr 4, none, none, false⟩] 0) ∧
    (answer (.listHandovers 1 [1, 0, 3, 0, 0]) demo).map (fun p =>
      match p.2 with
      | .handoverList l n => (l.map (·.number), n)
      | _ => ([], 1)) = some ([8], 0) := by decide +kernel

theorem test_witness_deadlines :
    told (.stageExpired 5) demo = [.stageExpired 5 55 2 0 (some 0) .empty] ∧
    (after (.stageExpired 5) demo).handover 5 = none ∧
    told (.relocationOverdue 7) demo = [.relocationOverdue 7 77 5 (.addr 1) 255] ∧
    told (.collectExpired 6) demo = [.collectExpired 6 66 .any 1 (some 1) 0] ∧
    ((after (.collectExpired 6) demo).handover 6).map (·.state) = some .parked ∧
    ran (.collectExpired 5) demo = some demo ∧ ran (.stageExpired 7) demo = some demo ∧
    ran (.relocationOverdue 6) demo = some demo := by decide +kernel

/-! ### Grants -/

theorem test_witness_effective_mode :
    demo.effective 0 = .openMode ∧
    { demo with zones := { demo.zones with hold := true } }.effective 0 = .closed ∧
    (moving .changing .hold (Quad.same .closed) demo).effective 3 = .closed ∧
    (moving .waiting .normal (Quad.same .service) demo).effective 3 = .service ∧
    (moving .waiting .normal (Quad.same .service) demo).suspends 0 = false ∧
    (moving .changing .normal (Quad.same .service) demo).suspends 0 = true ∧
    (demo.addSuspect 0).suspends 0 = true := by decide +kernel

/-- Eight requests wait on column 0. -/
def crowd : State :=
  (held 0 2 .transfer demo).modCol 0 fun q =>
    { q with waits := List.replicate 8 ⟨9, .transfer⟩ }

theorem test_witness_grantReq :
    refusal (.grantReq 1 [3, 0]) demo = some .unknownColumn ∧
    refusal (.grantReq 4 [0, 0]) demo = some .notActive ∧
    refusal (.grantReq 1 [0, 0]) (held 1 1 .transfer demo) = some .already ∧
    refusal (.grantReq 1 [0, 4]) demo = some .cls ∧
    refusal (.grantReq 2 [0, 2]) demo = some .cls ∧
    refusal (.grantReq 1 [0, 2]) demo = some .notCalled ∧
    refusal (.grantReq 1 [0, 0]) (moving .waiting .normal (Quad.same .closed) demo) =
      some .zoneClosed ∧
    frames (.grantReq 1 [0, 0]) demo = [⟨1, .granted 0 .service 30000⟩] ∧
    refusal (.grantReq 1 [0, 0]) crowd = some .waitFull ∧
    frames (.grantReq 1 [0, 3]) (held 0 2 .transfer demo) = [⟨1, .queued 0 .transfer 1⟩] ∧
    frames (.grantReq 1 [0, 0]) (held 0 2 .transfer demo) =
      [⟨1, .queued 0 .service 1⟩, ⟨2, .revoke 0 .outranked 4000⟩] := by decide +kernel

/-- Robot 2 waits on column 0 behind a request that the mode forbids. -/
def waiting : State :=
  (moving .waiting .normal (Quad.same .service) demo).modCol 0 fun q =>
    { q with waits := [⟨9, .transfer⟩, ⟨1, .service⟩, ⟨2, .service⟩] }

theorem test_witness_handOn_and_revoke :
    (waiting.handOn 0).link.fleet = [⟨1, .granted 0 .service 30000⟩] ∧
    ((waiting.handOn 0).col 0).waits = [⟨9, .transfer⟩, ⟨2, .service⟩] ∧
    ((held 0 1 .audit demo).revoke 0 .holdLimit).link.fleet = [⟨1, .revoke 0 .holdLimit 4000⟩] ∧
    ((((held 0 1 .audit demo).revoke 0 .holdLimit).col 0).grant.map (·.grace)) = some (some 4000) ∧
    ((held 0 1 .audit demo).revoke 0 .holdLimit).revoke 0 .zoneMode =
      (held 0 1 .audit demo).revoke 0 .holdLimit := by decide +kernel

theorem test_witness_withdraw :
    ((after (.withdraw 1 [0]) waiting).col 0).waits = [⟨9, .transfer⟩, ⟨2, .service⟩] ∧
    refusal (.withdraw 1 [0]) demo = some .notWaiting ∧
    refusal (.withdraw 1 [255]) demo = some .notWaiting := by decide +kernel

/-- A tightening that waits for one holder in zone 0. -/
def tightening : State :=
  { held 0 1 .transfer demo with
    zones := { demo.zones with
      trans := some ⟨.waiting, .normal, ⟨.service, .openMode, .openMode, .openMode⟩, ⟨1, 0, 0, 0⟩,
        .request 4, false, none⟩ } }

theorem test_witness_release :
    refusal (.release 5 [0]) demo = some .lost ∧
    refusal (.release 1 [0]) demo = some .noGrant ∧
    refusal (.release 1 [0]) (busy 0 1 .scan none none [] (held 0 1 .transfer demo)) = some .busy ∧
    ((after (.release 1 [0]) (held 0 1 .transfer demo)).col 0).grant = none ∧
    tightening.tightens ⟨.waiting, .normal, ⟨.service, .openMode, .openMode, .openMode⟩, ⟨1, 0, 0, 0⟩,
        .request 4, false, none⟩ 0 = true ∧
    (after (.release 1 [0]) tightening).zones.trans.map (·.state) = some .changing ∧
    (after (.release 1 [0]) tightening).zones.driven.z0 = .service := by decide +kernel

/-- A holder whose hold limit has run out, and one whose grace has. -/
def timed (h g : Option Nat) (r : Option RevokeCause) : State :=
  demo.modCol 0 fun q => { q with grant := some ⟨1, .transfer, h, r, g⟩ }

theorem test_witness_grant_timers :
    frames (.holdLimitExpiry 0) (timed (some 0) none none) = [⟨1, .revoke 0 .holdLimit 4000⟩] ∧
    ran (.holdLimitExpiry 0) (timed (some 1) none none) = some (timed (some 1) none none) ∧
    told (.releaseGraceExpiry 0) (timed none (some 0) (some .outranked)) =
      [.robotLost 1 1 .grace 0 .empty, .columnSuspect 0 (some 0) .grace 1] ∧
    ((after (.releaseGraceExpiry 0) (timed none (some 0) (some .outranked))).robot 1).map (·.state) =
      some .lost ∧
    ran (.releaseGraceExpiry 0) (timed none (some 1) (some .outranked)) =
      some (timed none (some 1) (some .outranked)) := by decide +kernel

/-! ### Operations -/

theorem test_witness_opStart_checks :
    refusal (.opStart 1 [3, 0, 0, 0, 0, 1]) demo = some .unknownColumn ∧
    refusal (.opStart 4 [0, 0, 0, 0, 0, 1]) demo = some .notActive ∧
    refusal (.opStart 1 [0, 4, 0, 0, 0, 1]) demo = some .outOfRange ∧
    refusal (.opStart 1 [0, 3, 0, 0, 0, 1]) demo = some .noGrant ∧
    refusal (.opStart 1 [0, 3, 0, 0, 0, 1]) (busy 0 1 .scan none none [] (held 0 1 .transfer demo)) =
      some .busy ∧
    (frames (.opStart 1 [0, 3, 0, 0, 0, 1]) ((held 0 1 .transfer demo).revoke 0 .outranked)) =
      [⟨1, .refused .revoked (.column 0)⟩] ∧
    refusal (.opStart 1 [0, 0, 0, 0, 0, 1]) ((held 0 1 .transfer demo).addSuspect 0) =
      some .suspect ∧
    refusal (.opStart 1 [0, 0, 0, 0, 0, 1]) ((held 0 1 .transfer demo).addZoneCause 0) =
      some .frozen ∧
    refusal (.opStart 1 [2, 0, 0, 0, 0, 1]) (held 2 1 .transfer demo) = some .unmapped ∧
    frames (.opStart 1 [0, 0, 0, 0, 0, 1]) ((held 0 1 .transfer demo).markSettle 0) =
      [⟨1, .refused .settling (.settling 0 300)⟩] := by decide +kernel

theorem test_witness_opStart_judged :
    frames (.opStart 2 [0, 0, 0, 0, 0, 55]) (held 0 2 .transfer demo) =
      [⟨2, .go 0 .set 20000 (some (.reserved 5)) none⟩] ∧
    ((after (.opStart 2 [0, 0, 0, 0, 0, 55]) (held 0 2 .transfer demo)).handover 5).map (·.state) =
      some .setting ∧
    refusal (.opStart 2 [0, 0, 0, 0, 0, 54]) (held 0 2 .transfer demo) = some .tagMismatch ∧
    refusal (.opStart 2 [0, 0, 0, 0, 0, 0]) (held 0 2 .transfer demo) = some .badTag ∧
    refusal (.opStart 2 [1, 0, 0, 0, 0, 55]) (held 1 2 .transfer demo) = some .wrongColumn ∧
    refusal (.opStart 1 [1, 0, 0, 0, 0, 1]) (held 1 1 .transfer demo) = some .unloaded ∧
    frames (.opStart 1 [1, 1, 0, 0, 0, 0]) (held 1 1 .transfer demo) =
      [⟨1, .go 1 .lift 20000 none (some (.taker 6))⟩] ∧
    refusal (.opStart 1 [0, 1, 0, 0, 0, 0]) (held 0 1 .transfer demo) = some .empty ∧
    refusal (.opStart 1 [95, 1, 0, 0, 0, 0]) (held 95 1 .transfer demo) = some .notYours ∧
    frames (.opStart 1 [95, 1, 0, 0, 0, 0]) (held 95 1 .recovery demo) =
      [⟨1, .go 95 .lift 20000 none (some (.relocation 8))⟩] ∧
    frames (.opStart 2 [95, 2, 0, 0, 0, 55]) (held 95 2 .service demo) =
      [⟨2, .refused .wrongColumn (.column 95)⟩] ∧
    frames (.opStart 1 [0, 3, 0, 0, 0, 0]) (held 0 1 .transfer demo) =
      [⟨1, .go 0 .scan 20000 none none⟩] := by decide +kernel

/-- Robot 2 sets bin 5 on column 0. -/
def setting : State :=
  (busy 0 2 .set (some (.reserved 5)) none [(5, .openState)] (held 0 2 .transfer demo)).modHandover 5
    fun h => { h with state := .setting, deadline := some ⟨.stage, 9, .stopped⟩ }

theorem test_witness_opEnd_checks :
    refusal (.opEnd 5 [0, 0, 1, 0, 0, 0, 55]) demo = some .lost ∧
    refusal (.opEnd 1 [3, 0, 1, 0, 0, 0, 55]) demo = some .unknownColumn ∧
    refusal (.opEnd 1 [0, 0, 1, 0, 0, 0, 55]) setting = some .noOperation ∧
    refusal (.opEnd 2 [0, 2, 1, 0, 0, 0, 55]) setting = some .outOfRange ∧
    refusal (.opEnd 2 [0, 0, 5, 0, 0, 0, 55]) setting = some .outOfRange := by decide +kernel

theorem test_witness_opEnd_ok :
    frames (.opEnd 2 [0, 0, 1, 0, 0, 0, 55]) setting =
      [⟨2, .accepted (.compared 0 .credited)⟩] ∧
    frames (.opEnd 2 [0, 0, 1, 0, 0, 0, 0]) setting =
      [⟨2, .accepted (.compared 0 .heightOnly)⟩] ∧
    told (.opEnd 2 [0, 0, 4, 0, 0, 0, 55]) setting =
      [.discrepancy 0 (some 0) .set 2 .ok 1 (some (.tracked 5 55)) 4 55] ∧
    ((after (.opEnd 2 [0, 0, 1, 0, 0, 0, 55]) setting).handover 5).map
      (fun h => (h.state, h.custody, h.deadline)) =
      some (.staged, .column 0 0, some ⟨.collect, 300000, .running⟩) ∧
    ((after (.opEnd 2 [0, 0, 1, 0, 0, 0, 55]) setting).col 0).stack = [.tracked 5] ∧
    ((after (.opEnd 2 [0, 0, 1, 0, 0, 0, 55]) setting).robot 2).map (·.slot) = some .empty ∧
    told (.opEnd 1 [1, 0, 0, 0, 0, 0, 0])
      (busy 1 1 .lift none (some (.taker 6)) [(6, .staged)] (held 1 1 .transfer demo)) =
      [.handoverDone 6 66 1 1 0 0] ∧
    ((after (.opEnd 1 [95, 0, 0, 0, 0, 0, 0])
      (busy 95 1 .lift none (some (.relocation 8)) [(8, .parked)] (held 95 1 .recovery demo))).handover
        8).map (fun h => (h.state, h.custody)) = some (.carried, .robot 1) := by decide +kernel

/-- A column whose call is being executed. -/
def called (c : Nat) (overdue : Bool) (s : State) : State :=
  { s with audit := ⟨.executing, c, some c, none, overdue, some 5, some 300000⟩ }

/-- A column retired with its remap pending. -/
def retiring (c x : Nat) (s : State) : State :=
  (s.modCol c fun k => { k with retired := true }).setXp x (some ⟨c, true⟩)

/-- The notices of an OK end in their order, what it makes of a call, and the uncertain flag, which a
credited end clears. -/
theorem test_witness_opEnd_notices :
    let lifting := busy 1 1 .lift none (some (.taker 6)) [(6, .staged)] (held 1 1 .transfer demo)
    let doubted := setting.modHandover 5 fun h => { h with uncertain := true }
    told (.opEnd 1 [1, 0, 0, 0, 0, 0, 0]) (retiring 1 1 lifting) =
      [.handoverDone 6 66 1 1 0 0, .remapDone 1 1 (some 2)] ∧
    told (.opEnd 2 [0, 0, 1, 0, 0, 0, 0]) (called 0 true setting) =
      [.columnUnverified 0 (some 0) 0 .callExpired .fresh ⟨false, false, false⟩ 1] ∧
    (after (.opEnd 2 [0, 0, 1, 0, 0, 0, 0]) (called 0 true setting)).audit.pointer = 1 ∧
    (after (.opEnd 2 [0, 0, 1, 0, 0, 0, 0]) (called 0 false setting)).audit.state = .calling ∧
    ((after (.opEnd 2 [0, 0, 1, 0, 0, 0, 55]) doubted).handover 5).map (·.uncertain) = some false ∧
    ((after (.opEnd 2 [0, 0, 1, 0, 0, 0, 0]) doubted).handover 5).map (·.uncertain) = some true ∧
    ((after (.opEnd 2 [0, 0, 4, 0, 0, 0, 55]) doubted).handover 5).map (·.uncertain) =
      some true := by decide +kernel

/-- The notices of a FAILED end that mismatches, fails a call, retires the column and completes its
remap. -/
theorem test_witness_opEnd_failed_notices :
    told (.opEnd 2 [0, 1, 4, 0, 0, 0, 0])
      (called 0 false ((setting.freeHandover 5).modCol 0 fun k => { k with faultCount := 2 })) =
      [.discrepancy 0 (some 0) .set 2 .failed 0 none 4 0,
        .columnUnverified 0 (some 0) 0 .opFailed .fresh ⟨true, false, false⟩ 0,
        .columnRetired 0 1 1 0 .faults 3 (some (.opFailed .set 2)) (some 0) 0 0 false,
        .remapDone 0 0 (some 2)] := by decide +kernel

theorem test_witness_opEnd_failed :
    frames (.opEnd 2 [0, 1, 0, 0, 0, 0, 0]) setting = [⟨2, .accepted (.compared 0 .credited)⟩] ∧
    ((after (.opEnd 2 [0, 1, 0, 0, 0, 0, 0]) setting).handover 5).map
      (fun h => (h.state, h.deadline)) = some (.openState, some ⟨.stage, 9, .running⟩) ∧
    ((after (.opEnd 2 [0, 1, 0, 0, 0, 0, 0]) setting).col 0).lastFault = some (.opFailed .set 2) ∧
    ((after (.opEnd 2 [0, 1, 4, 0, 0, 0, 0]) setting).col 0).causes = ⟨true, false, false⟩ ∧
    ((after (.opEnd 2 [0, 1, 0, 0, 0, 0, 0])
      (setting.modCol 0 fun k => { k with faultCount := 2 })).col 0).retired = true := by
  decide +kernel

/-- A query of a record in flight, and of one whose deadline a frozen column suspends. -/
theorem test_witness_handover_reports :
    (setting.handover 5).map (fun h => (setting.handoverReport h).inFlight) =
      some (some (.set, 2)) ∧
    ((demo.addSuspect 0).handover 5).map (fun h => ((demo.addSuspect 0).handoverReport h).deadline) =
      some (some (⟨.stage, 0, .suspended⟩, ⟨true, false, false⟩)) ∧
    (demo.handover 5).map (fun h => ((demo.handoverReport h).inFlight, (demo.handoverReport h).deadline)) =
      some (none, some (⟨.stage, 0, .running⟩, ⟨false, false, false⟩)) := by decide +kernel

/-- A MISMATCH suspends the other deadlines on the column, a credited SCAN resumes them, and the
records of a failed or cut-off operation return with theirs. -/
theorem test_witness_end_deadlines :
    let beside := setting.modHandover 6 fun h => { h with column := some 0 }
    let doubtful := (busy 1 1 .scan none none [] (held 1 1 .audit demo)).addDiscrepancy 1
    ((after (.opEnd 2 [0, 0, 4, 0, 0, 0, 55]) beside).handover 6).map (·.deadline) =
      some (some ⟨.collect, 0, .suspended⟩) ∧
    (doubtful.handover 6).map (·.deadline) = some (some ⟨.collect, 0, .suspended⟩) ∧
    ((after (.opEnd 1 [1, 0, 1, 0, 0, 0, 66]) doubtful).handover 6).map (·.deadline) =
      some (some ⟨.collect, 0, .running⟩) ∧
    ((after (.opEnd 2 [0, 1, 4, 0, 0, 0, 0]) beside).handover 5).map (·.deadline) =
      some (some ⟨.stage, 9, .suspended⟩) ∧
    ((after (.operationLimitExpiry 0) beside).handovers.take 2).map (·.deadline) =
      [some ⟨.stage, 9, .suspended⟩, some ⟨.collect, 0, .suspended⟩] := by decide +kernel

theorem test_witness_operation_limit :
    told (.operationLimitExpiry 0) setting =
      [.robotLost 2 2 .opLimit 0 (.tracked 5), .columnSuspect 0 (some 0) .opLimit 2] ∧
    ((after (.operationLimitExpiry 0) setting).handover 5).map (fun h => (h.state, h.uncertain)) =
      some (.openState, true) ∧
    ran (.operationLimitExpiry 0)
      (setting.modCol 0 fun k => { k with op := k.op.map fun o => { o with limit := 1 } }) =
      some (setting.modCol 0 fun k => { k with op := k.op.map fun o => { o with limit := 1 } }) := by
  decide +kernel

/-- The notices of a cut-off at the operation limit; with a transition in WAITING the end of the grant
is counted before the column is handed on. -/
theorem test_witness_cut_off :
    let queued := { setting.modCol 0 fun k => { k with waits := [⟨9, .transfer⟩, ⟨1, .service⟩] } with
      zones := tightening.zones }
    told (.operationLimitExpiry 0) (called 0 false (retiring 0 0 (setting.freeHandover 5))) =
      [.robotLost 2 2 .opLimit 0 (.tracked 5), .columnSuspect 0 (some 0) .opLimit 2,
        .columnUnverified 0 (some 0) 0 .opCutOff .fresh ⟨false, true, false⟩ 0,
        .remapDone 0 0 (some 2)] ∧
    (after (.operationLimitExpiry 0) queued).zones.driven.z0 = .service ∧
    frames (.operationLimitExpiry 0) queued = [⟨1, .granted 0 .service 30000⟩] ∧
    frames (.operationLimitExpiry 0) { queued with zones := demo.zones } =
      [⟨9, .granted 0 .transfer 30000⟩] := by decide +kernel

/-! ### The roster -/

/-- ANNOUNCE of a serial, boot count, class, level and load tag below 256. -/
def hello (n b g l t : Byte) : Instr := .announce 0 [0, 0, 0, 0, 0, n, 0, b, g, l, 0, 0, 0, t]

theorem test_witness_announce :
    refusal (hello 7 1 0 0 0) plan = some .notRunning ∧
    refusal (hello 0 1 0 0 0) demo = some .outOfRange ∧
    refusal (hello 7 1 8 0 0) demo = some .outOfRange ∧
    refusal (hello 7 1 7 16 0) demo = some .outOfRange ∧
    refusal (hello 7 1 0 0 0)
      { demo with roster := List.replicate 48 (some (bot 1 .active none .empty)) } =
      some .rosterFull ∧
    frames (hello 7 1 7 15 0) demo = [⟨0, .address 7 7 .announced none⟩] ∧
    told (hello 7 1 7 15 55) demo =
      [.robotAnnounced 7 7 1 7 15 .announced none (.untracked 55),
        .custodyConflict .trackedElsewhere 7 7 55 (.untracked 55) 5 .openState (.robot 2)] ∧
    frames (hello 7 1 0 0 0) { demo with params := { demo.params with minLevel := 1 } } =
      [⟨0, .address 7 7 .inactive (some .level)⟩] ∧
    frames (hello 7 1 0 0 0) { demo with params := { demo.params with acceptedClasses := 2 } } =
      [⟨0, .address 7 7 .inactive (some .cls)⟩] := by decide +kernel

theorem test_witness_repeat :
    after (hello 5 1 0 0 77) demo = (demo.send 0 (.address 5 5 .lost none)).startTx := by
  decide +kernel

theorem test_witness_restart :
    told (hello 5 2 0 0 77) demo =
      [.robotRestarted 5 5 1 2 .lost .announced none none none none (.tracked 7) true] ∧
    told (hello 2 2 0 0 9) setting =
      [.robotRestarted 2 2 1 2 .active .announced none (some (0, .transfer)) none (some (.set, 0))
          (.tracked 5) false,
        .columnSuspect 0 (some 0) .restart 2,
        .custodyConflict .wrongBin 2 2 9 (.tracked 5) 5 .openState (.robot 2)] ∧
    ((after (hello 2 2 0 0 9) setting).col 0).grant = none ∧
    ((after (hello 1 2 0 0 9) waiting).col 0).waits = [⟨9, .transfer⟩, ⟨2, .service⟩] ∧
    (after (hello 1 2 0 0 0) tightening).zones.trans.map (·.state) = some .changing ∧
    ((after (hello 4 2 0 0 66) demo).robot 4).map (fun r => (r.state, r.slot)) =
      some (.announced, .untracked 66) := by decide +kernel

theorem test_witness_ready :
    frames (.ready 3 []) demo = [⟨3, .accepted (.state .ready)⟩] ∧
    frames (.ready 3 []) (demo.modRobot 3 fun r => { r with admitPending := true }) =
      [⟨3, .accepted (.state .active)⟩] ∧
    frames (.ready 1 []) demo = [⟨1, .accepted (.state .active)⟩] ∧
    frames (.ready 4 []) demo = [⟨4, .accepted (.state .ready)⟩] ∧
    refusal (.ready 5 []) demo = some .lost ∧ refusal (.ready 6 []) demo = some .inactive := by
  decide +kernel

theorem test_witness_admission :
    code (.admitRobot 1 [0, 49, 0]) demo = some .unknownRobot ∧
    code (.admitRobot 1 [1, 0, 0, 0, 0, 0, 9, 0]) demo = some .unknownRobot ∧
    code (.admitRobot 1 [0, 4, 4]) demo = some .outOfRange ∧
    code (.admitRobot 1 [0, 6, 3]) demo = some .inactive ∧
    code (.admitRobot 1 [0, 1, 3]) demo = some .wrongState ∧
    answer (.admitRobot 1 [0, 3, 3]) demo = some (.ok, .admitted 3 3 .transfer .announced) ∧
    answer (.admitRobot 1 [1, 0, 0, 0, 0, 0, 4, 0]) demo =
      some (.ok, .admitted 4 4 .service .active) ∧
    frames (.admitRobot 1 [0, 5, 0]) demo = [⟨0, .address 5 5 .active none⟩] := by decide +kernel

theorem test_witness_dismissal :
    code (.dismiss 1 [0, 0]) demo = some .unknownRobot ∧
    answer (.dismiss 1 [0, 2]) demo = some (.custodian, .custodian 5) ∧
    code (.dismiss 1 [0, 1]) (held 0 1 .transfer demo) = some .busy ∧
    answer (.dismiss 1 [0, 4]) demo = some (.ok, .dismissed 4 4 (.untracked 1) 1) ∧
    ((after (.dismiss 1 [0, 4]) demo).handover 9).map (·.taker) = some .none := by decide +kernel

theorem test_witness_ready_limit :
    told (.readyLimitExpiry 3) demo = [.robotInactive 3 3 .notReady] ∧
    ran (.readyLimitExpiry 4) demo = some demo := by decide +kernel

theorem test_witness_load :
    frames (.loadReport 2 [0, 0, 0, 55]) demo = [⟨2, .accepted (.load .confirmed)⟩] ∧
    frames (.loadReport 2 [0, 0, 0, 0]) demo = [⟨2, .accepted (.load .noted)⟩] ∧
    told (.loadReport 2 [0, 0, 0, 66]) demo =
      [.custodyConflict .wrongBin 2 2 66 (.tracked 5) 5 .openState (.robot 2)] ∧
    told (.loadReport 1 [0, 0, 0, 66]) demo =
      [.custodyConflict .trackedElsewhere 1 1 66 (.untracked 66) 6 .staged (.column 1 0)] ∧
    frames (.loadReport 1 [0, 0, 0, 1]) (busy 0 1 .scan none none [] demo) =
      [⟨1, .accepted (.load .inFlight)⟩] ∧
    frames (.loadReport 4 [0, 0, 0, 0]) demo = [⟨4, .accepted (.load .noted)⟩] ∧
    refusal (.dropOff 2 []) demo = some .trackedLoad ∧
    refusal (.dropOff 1 []) (busy 0 1 .scan none none [] demo) = some .busy ∧
    ((after (.dropOff 4 []) demo).robot 4).map (·.slot) = some .empty := by decide +kernel

theorem test_witness_robot_and_zone_queries :
    code (.queryRobot 1 [0, 48]) demo = some .unknownRobot ∧
    code (.queryRobot 1 [0, 2]) demo = some .ok ∧
    code (.queryRobot 1 [1, 0, 0, 0, 0, 0, 1]) waiting = some .ok ∧
    waiting.standing 1 = .waiting 0 .service 2 ∧
    code (.queryZones 1 []) plan = some .ok ∧
    demo.zonesReport.zones.z0.defined = 3 := by decide +kernel

/-! ### The audit walk -/

/-- The unit idle at a pointer with its tick run out. -/
def walk (p : Nat) : State :=
  { demo with audit := ⟨.idle, p, none, none, false, some 0, some 300000⟩ }

theorem test_witness_audit_tick :
    ran .auditTick demo = some demo ∧
    (after .auditTick { walk 0 with audit := { (walk 0).audit with state := .arming } }).audit.state =
      .idle ∧
    (after .auditTick { walk 0 with audit := { (walk 0).audit with state := .calling } }).audit =
      { (walk 0).audit with state := .calling, tick := some 300000 } ∧
    (after .auditTick (walk 0)).audit = ⟨.calling, 0, some 0, some 120000, false, some 300000,
      some 300000⟩ ∧
    told .auditTick (walk 95) =
      [.auditDue 95 (some 79) 3 .fresh 1 (some (.tracked 8 88)) ⟨false, false, false⟩ false false
        120000] ∧
    (after .auditTick ((walk 95).setAudit 95 .fresh true)).audit.pointer = 0 ∧
    (after .auditTick ((walk 2).setAudit 95 .unverified false)).audit.pointer = 0 ∧
    told .auditTick (moving .waiting .normal (Quad.same .closed) (walk 2)) =
      [.columnUnverified 95 (some 79) 3 .zoneClosed .fresh ⟨false, false, false⟩ 1] ∧
    (after .auditTick { walk 0 with xpMap := List.replicate 80 none }).audit.tick =
      some 900000 := by decide +kernel

/-- A call on column 0 whose limit has run out. -/
def calling (st : AuditState) : State :=
  { demo with audit := ⟨st, 0, some 0, some 0, false, some 5, some 300000⟩ }

theorem test_witness_call_limit :
    ran .callLimitExpiry demo = some demo ∧
    told .callLimitExpiry (calling .calling) =
      [.columnUnverified 0 (some 0) 0 .callExpired .fresh ⟨false, false, false⟩ 0] ∧
    (after .callLimitExpiry (calling .calling)).audit.pointer = 1 ∧
    (after .callLimitExpiry (calling .executing)).audit =
      ⟨.executing, 0, some 0, none, true, some 5, some 300000⟩ := by decide +kernel

/-! ### Zones -/

theorem test_witness_modeRequest :
    code (.modeRequest 1 [0, 0, 0, 4]) demo = some .outOfRange ∧
    code (.modeRequest 1 [0, 0, 0, 3]) { demo with zones := { demo.zones with hold := true } } =
      some .holdActive ∧
    code (.modeRequest 1 [0, 0, 0, 3]) (moving .changing .normal (Quad.same .openMode) demo) =
      some .modeBusy ∧
    (after (.modeRequest 1 [0, 0, 0, 0]) waiting).zones.trans = none ∧
    (after (.modeRequest 1 [0, 0, 0, 3]) demo).zones.trans.map (·.state) = some .changing ∧
    (after (.modeRequest 1 [3, 0, 0, 0]) (held 0 1 .service demo)).zones.trans.map
      (fun t => (t.state, t.forbidden)) = some (.waiting, ⟨1, 0, 0, 0⟩) ∧
    code (.modeRequest 1 [0, 0, 0, 3])
      { demo with zones := { demo.zones with current := ⟨.drain, .openMode, .openMode, .openMode⟩ } } =
      some .partialOk := by decide +kernel

theorem test_witness_modeCancel :
    code (.modeCancel 1 []) demo = some .wrongState ∧
    code (.modeCancel 1 []) (moving .changing .normal (Quad.same .drain) demo) = some .modeBusy ∧
    answer (.modeCancel 1 []) waiting =
      some (.ok, .modeCancelled (Quad.same .openMode) (Quad.same .service)) ∧
    frames (.modeCancel 1 []) waiting = [⟨9, .granted 0 .transfer 30000⟩] := by decide +kernel

/-- Zone 3 is going to CLOSED, its echo alone missing. -/
def closing : State := moving .changing .normal ⟨.openMode, .openMode, .openMode, .closed⟩ demo

theorem test_witness_transitions :
    ran (.zoneAckChange 3 .openMode) closing = some closing ∧
    (after (.zoneAckChange 3 .drain) closing).zones.trans = closing.zones.trans ∧
    told (.zoneAckChange 3 .closed) closing =
      [.modeChanged (.request 4) (Quad.same .openMode) ⟨.openMode, .openMode, .openMode, .closed⟩ [3]
        false] ∧
    ((after (.zoneAckChange 3 .closed) closing).col 95).causes = ⟨false, false, true⟩ ∧
    told .interlockLimitExpiry closing =
      [.modeFailed (.request 4) false ⟨.openMode, .openMode, .openMode, .closed⟩
        (Quad.same .openMode) (Quad.same .openMode)] ∧
    (after .interlockLimitExpiry closing).zones.driven = Quad.same .openMode ∧
    ran .interlockLimitExpiry demo = some demo ∧
    told (.zoneAckChange 3 .closed)
      { moving .changing .hold (Quad.same .closed) demo with
        zones := { (moving .changing .hold (Quad.same .closed) demo).zones with
          ack := ⟨.closed, .closed, .closed, .openMode⟩ } } =
      [.modeChanged .hold (Quad.same .openMode) (Quad.same .closed) [0, 1, 2, 3] false] := by
  decide +kernel

theorem test_witness_grid_hold :
    told .gridHoldAsserted plan = [.holdAsserted .unconfigured] ∧
    told .gridHoldAsserted setting =
      [.holdAsserted .none, .columnSuspect 0 (some 0) .hold 2] ∧
    ((after .gridHoldAsserted setting).col 0).grant = none ∧
    (after .gridHoldAsserted setting).zones.driven = Quad.same .closed ∧
    told .gridHoldAsserted waiting =
      [.holdAsserted .waiting, .requestOvertaken (.request 4) (Quad.same .service)] ∧
    (after .gridHoldAsserted closing).zones.holdPending = true ∧
    told .gridHoldAsserted (moving .changing .hold (Quad.same .closed) demo) =
      [.holdAsserted .changingHold] ∧
    (after .gridHoldAsserted
      { demo with zones := { demo.zones with ack := Quad.same .closed } }).zones.current =
      Quad.same .closed ∧
    ran .gridHoldReleased demo = some demo ∧
    frames .gridHoldReleased { waiting with zones := { demo.zones with hold := true } } =
      [⟨9, .granted 0 .transfer 30000⟩] ∧
    told .gridHoldReleased (settled (after .gridHoldAsserted demo)) =
      [.holdReleased (some .changing) (Quad.same .openMode)] ∧
    ran .gridHoldAsserted (after .gridHoldAsserted demo) =
      some (after .gridHoldAsserted demo) := by decide +kernel

/-- The filtered lines of a part whose timers all stand still. -/
def still : State := { State.reset with zones := demo.zones }

/-- A level is taken at the second millisecond after its line moved to it; one that changes again or
goes back before that is not, and a pair whose lines change apart is taken once, at its new level. -/
theorem test_line_filter :
    due 1 (still.gridHoldMoves true) = [] ∧
    due 2 (still.gridHoldMoves true) = [.gridHoldAsserted] ∧
    due 1 (still.ackMoves 3 .closed) = [] ∧
    due 2 (still.ackMoves 3 .closed) = [.zoneAckChange 3 .closed] ∧
    due 1 ((still.ackMoves 3 .service).countDown.ackMoves 3 .closed) = [] ∧
    due 2 ((still.ackMoves 3 .service).countDown.ackMoves 3 .closed) =
      [.zoneAckChange 3 .closed] ∧
    due 2 ((still.ackMoves 3 .closed).countDown.ackMoves 3 .openMode) = [] ∧
    due 2 ((after .gridHoldAsserted still).gridHoldMoves false) = [.gridHoldReleased] ∧
    (stepped (still.gridHoldMoves true)).map (·.pending) = some [] := by decide +kernel

/-- Opposite changes of a line less than 2 ms apart: the second has no effect. -/
theorem test_witness_line_not_steady :
    ran .gridHoldReleased (after .gridHoldAsserted demo) = some (after .gridHoldAsserted demo) ∧
    (after .gridHoldReleased (settled (after .gridHoldAsserted demo))).zones.hold = false ∧
    ran .gridHoldAsserted (demo.gridHoldMoves true) = some (demo.gridHoldMoves true) ∧
    (after .gridHoldAsserted (settled (demo.gridHoldMoves true))).zones.hold = true ∧
    (let t := after (.zoneAckChange 3 .drain) demo
     ran (.zoneAckChange 3 .openMode) t = some t ∧
     (after (.zoneAckChange 3 .openMode) (settled t)).zones.ack = Quad.same .openMode) ∧
    ran (.zoneAckChange 3 .closed) (settled (closing.ackMoves 3 .drain)) =
      some (settled (closing.ackMoves 3 .drain)) ∧
    (after (.zoneAckChange 3 .closed) (settled (closing.ackMoves 3 .closed))).zones.trans = none ∧
    demo.gridHoldMoves false = demo ∧ demo.ackMoves 3 .openMode = demo := by decide +kernel

/-- Robots 1 and 2 wait on the column that an operation holds, a call on it is executed and its remap
is pending; robot 1 carries nothing and bin 5 is on its way. -/
def holding : State :=
  called 0 false ((retiring 0 0 setting).modCol 0 fun q =>
    { q with waits := [⟨1, .service⟩, ⟨2, .transfer⟩], inbound := true })

/-- What the beginning of the hold does to a column with an operation and to one without. -/
theorem test_witness_hold_column :
    ((setting.col 0).op.map fun o => o.priors.map Prod.fst) = some [5] ∧
    (holding.holdColumn 0).link.fleet.map (fun f => (f.address, f.msg)) =
      [(1, .refused .holdActive (.column 0)), (2, .refused .holdActive (.column 0))] ∧
    (holding.holdColumn 0).link.notices.map (·.body) =
      [.columnSuspect 0 (some 0) .hold 2,
        .columnUnverified 0 (some 0) 0 .opCutOff .fresh ⟨false, true, false⟩ 0] ∧
    ((holding.holdColumn 0).handover 5).map (fun h => (h.state, h.uncertain, h.deadline)) =
      some (.openState, true, some ⟨.stage, 9, .suspended⟩) ∧
    (demo.col 1).op = none ∧ (holding.holdColumn 1).link = holding.link := by decide +kernel

/-- The hold begins, and is completed at once where all zones echo; a hold that was pending begins at
the end of a NORMAL transition, be it success or failure. -/
theorem test_witness_hold_begins :
    let pending : State := { closing with zones := { closing.zones with hold := true, holdPending := true } }
    setting.zones.trans = none ∧ waiting.zones.trans.map (·.state) = some .waiting ∧
    (setting.beginHold.handovers.map fun h => h.deadline.map (·.cond)) =
      [some .suspended, some .suspended, some .running, none, none] ∧
    told (.zoneAckChange 3 .closed) pending =
      [.modeChanged (.request 4) (Quad.same .openMode) ⟨.openMode, .openMode, .openMode, .closed⟩ [3]
        false] ∧
    (after (.zoneAckChange 3 .closed) pending).zones.trans.map (·.kind) = some .hold ∧
    (after .interlockLimitExpiry pending).zones.trans.map (·.kind) = some .hold ∧
    (after .interlockLimitExpiry pending).zones.driven = Quad.same .closed ∧
    (demo.completeHold.handovers.map fun h => h.deadline.map (·.cond)) =
      [some .suspended, some .suspended, some .running, none, none] := by decide +kernel

/-- The closure of a zone refuses its waiting robots. -/
theorem test_witness_closure_refuses :
    frames (.zoneAckChange 3 .closed)
      (closing.modCol 95 fun q => { q with waits := [⟨1, .service⟩, ⟨2, .audit⟩] }) =
      [⟨1, .refused .zoneClosed (.column 95)⟩, ⟨2, .refused .zoneClosed (.column 95)⟩] := by
  decide +kernel

/-! ### Recovery -/

theorem test_witness_reconcile_checks :
    code (.reconcileColumn 1 [3, 0]) demo = some .unknownColumn ∧
    answer (.reconcileColumn 1 [1, 2, 0, 0, 0, 1, 0, 0, 0, 2]) demo =
      some (.overCapacity, .overCapacity 0 1) ∧
    code (.reconcileColumn 1 [0, 1, 0, 0, 0, 0]) demo = some .badTag ∧
    code (.reconcileColumn 1 [0, 2, 0, 0, 0, 1, 0, 0, 0, 1]) demo = some .duplicateBin ∧
    answer (.reconcileColumn 1 [0, 0]) setting = some (.inFlight, .columnInFlight 0) ∧
    code (.reconcileColumn 1 [2, 1, 0, 0, 0, 1]) demo = some .unmapped ∧
    answer (.reconcileColumn 1 [95, 1, 0, 0, 0, 55]) setting =
      some (.inFlight, .recordInFlight 5 0) ∧
    answer (.reconcileColumn 1 [0, 3, 0, 0, 0, 1, 0, 0, 0, 2, 0, 0, 0, 3]) demo =
      some (.overCapacity, .overCapacity 1 3) ∧
    code (.reconcileColumn 1 [0, 3, 0, 0, 0, 1, 0, 0, 0, 2, 0, 0, 0, 55]) demo = some .ok := by
  decide +kernel

theorem test_witness_reconcile :
    let t := after (.reconcileColumn 1 [95, 2, 0, 0, 0, 66, 0, 0, 0, 77])
      { demo with audit := ⟨.calling, 0, some 95, some 5, false, some 5, some 5⟩ }
    (demo.handovers.map (·.number)).Nodup ∧ (demo.handovers.map (·.tag)).Nodup ∧
    (t.col 95).stack = [.tracked 6, .tracked 7] ∧ (t.col 1).stack = [] ∧
    (t.col 1).causes = ⟨true, false, false⟩ ∧
    (t.handover 8).map (·.state) = some .unlocated ∧
    (t.handover 7).map (fun h => (h.custody, h.state, h.uncertain)) =
      some (.column 95 1, .staged, false) ∧
    (t.robot 5).map (·.slot) = some .empty ∧ t.audit.pointer = 0 ∧ t.audit.called = none ∧
    t.handover 5 = demo.handover 5 := by decide +kernel

/-- Records 8 and 9 on column 95. -/
def pile : State :=
  (demo.modCol 95 fun k => { k with stack := [.tracked 8, .tracked 9] }).modHandover 9 fun h =>
    { h with
      state := .staged, column := some 95, custody := .column 95 1,
      deadline := some ⟨.collect, 9, .running⟩ }

/-- An entry above one that is taken out moves down, its deadline suspended; a remap that waited on a
reservation the list releases completes; and the reply to each. -/
theorem test_witness_reconcile_others :
    (answer (.reconcileColumn 1 [0, 1, 0, 0, 0, 88]) pile).map (·.2) =
      some (.reconciled ⟨0, [.tracked 8 88], 1, [(8, .column 95 0, .parked)], [],
        [(95, ⟨true, false, false⟩)], ⟨false, false, false⟩, []⟩) ∧
    ((after (.reconcileColumn 1 [0, 1, 0, 0, 0, 88]) pile).handover 9).map
      (fun h => (h.custody, h.deadline)) =
      some (.column 95 0, some ⟨.collect, 9, .suspended⟩) ∧
    (answer (.reconcileColumn 1 [95, 1, 0, 0, 0, 55]) waning).map (·.2) =
      some (.reconciled ⟨95, [.tracked 5 55], 3, [(5, .openOn 2 0, .staged)], [8], [],
        ⟨false, false, false⟩, [0]⟩) ∧
    told (.reconcileColumn 1 [95, 1, 0, 0, 0, 55]) waning = [.remapDone 0 0 (some 2)] := by
  decide +kernel

theorem test_witness_releaseFreeze :
    code (.releaseFreeze 1 [0, 3]) demo = some .unknownColumn ∧
    code (.releaseFreeze 1 [1, 4]) demo = some .outOfRange ∧
    code (.releaseFreeze 1 [1, 3]) (moving .waiting .normal (Quad.same .closed) demo) =
      some .zoneClosed ∧
    answer (.releaseFreeze 1 [0, 95]) (demo.addZoneCause 95) = some (.ok, .freezeReleased 1) ∧
    answer (.releaseFreeze 1 [1, 0]) ((demo.addZoneCause 0).addSuspect 0) =
      some (.needsReconcile, .stillFrozen 1 1 [(0, ⟨false, true, false⟩)]) := by decide +kernel

/-! ### The premises of the statements -/

/-- The link takes a request while the receive buffer has room, the section in either state. -/
theorem test_witness_takes :
    Takes 1 demo ∧ Takes 0xFFFF plan ∧ Takes 1 State.reset ∧
    Takes 1 (([1, 2, 3] : List Word16).foldl (fun s t => after (.status t []) s) demo) ∧
    ¬Takes 1 full ∧ ¬Takes 0 demo := by
  unfold Takes; decide +kernel

/-- The bodies the tests use, as they decode. -/
theorem test_witness_bodies :
    Body.mapXp [79, 0, 95] = .ok (79, some 95) ∧ Body.mapXp [79, 1] = .ok (79, none) ∧
    Body.openHandover [0, 0, 0, 3, 1, 5, 1, 3] = .ok ⟨3, 1, .addr 5, .zone 3⟩ ∧
    Body.openHandover [0, 0, 0, 3, 1, 255, 0, 0] = .ok ⟨3, 1, .any, .xp 0⟩ ∧
    Body.openHandover [0, 0, 0, 3, 1, 0, 0, 0] = .ok ⟨3, 1, .none, .xp 0⟩ ∧
    Body.assignTaker [0, 8, 5] = .ok (8, .addr 5) ∧ Body.assignTaker [0, 8, 0] = .ok (8, .none) ∧
    Body.queryHandover [1, 0, 0, 0, 55] = .ok (.tag 55) ∧
    Body.queryHandover [0, 0, 9] = .ok (.number 9) ∧
    Body.listHandovers [0, 6, 1, 0, 9] = .ok ⟨some 6, none, 9⟩ ∧
    Body.admission [0, 3, 3] = .ok (.address 3, 3) ∧ Body.robot [1, 0, 0, 0, 0, 0, 1] = .ok (.serial 1) ∧
    Body.reconcile [95, 2, 0, 0, 0, 66, 0, 0, 0, 77] = .ok (95, [66, 77]) ∧
    Body.releaseFreeze [0, 95] = .ok (.column 95) ∧ Body.releaseFreeze [1, 0] = .ok (.zone 0) ∧
    Body.announce [0, 0, 0, 0, 0, 7, 0, 1, 7, 15, 0, 0, 0, 55] = .ok ⟨7, 1, 7, 15, 55⟩ ∧
    (Instr.status 7 []).request = some (25, 7, []) ∧ (Instr.ready 9 []).sender = some 9 ∧
    (Instr.opEnd 1 []).frameProblem = some .badBody ∧
    (Instr.queryXp 1 []).bodyProblem = some .badBody := by decide +kernel

/-- Both invariants hold of the small sections, and a step runs from them. -/
theorem test_witness_invariants :
    (∀ s ∈ [demo, plan, waning, setting, full, crossing],
      s.columns.length = 96 ∧ s.lockFlags.length = 12 ∧ s.xpMap.length = 80 ∧
      s.roster.length = 48 ∧ s.handovers.length ≤ 192 ∧
      s.handovers.Pairwise (fun h k => h.number < k.number) ∧ s.lastNumber ≤ 65535 ∧
      (∀ k ∈ s.columns, k.waits.length ≤ 8) ∧ s.link.received.length ≤ 4 ∧ s.overflows ≤ 4 ∧
      s.link.received.length = s.link.replies.countP (!·.overflow) ∧
      s.link.notices.length ≤ 32 ∧ s.link.lost ≤ 255 ∧ s.link.fleet.length ≤ 64 ∧
      s.link.fleetDrops ≤ 65535 ∧ s.link.controlDiscards ≤ 65535 ∧
      s.link.fleetDiscards ≤ 65535 ∧ s.lines = LineFilter.reset PinLevels.pulledDown ∧
      s.link.controlHeld = [] ∧ s.link.controlGap = none ∧ s.link.fleetHeld = [] ∧
      s.link.fleetGap = none ∧ s.lines.gridHold.steady ≤ 2 ∧ (∀ z < 4, (s.lines.ack.get z).steady ≤ 2) ∧
      s.zones.trans = none ∧ s.zones.driven = s.zones.current ∧ s.zones.holdPending = false) ∧
    (stepped { demo with pending := [.gridHoldAsserted] }).isSome = true := by decide +kernel

theorem test_witness_modes_agree :
    tightening.zones.trans.map (fun t => (t.state, t.kind, t.limit)) =
      some (.waiting, .normal, none) ∧
    tightening.zones.driven = tightening.zones.current ∧
    closing.zones.trans.map (fun t => (t.state, t.kind, t.limit.isSome)) =
      some (.changing, .normal, true) ∧
    closing.zones.driven = ⟨.openMode, .openMode, .openMode, .closed⟩ ∧
    closing.zones.holdPending = false := by decide +kernel

/-- A NORMAL transition that enters WAITING with a holder its target forbids, without one, and one
that enters CHANGING with the echo there already. -/
theorem test_witness_enter :
    (tightening.zones.trans.map fun t =>
      ((tightening.enterWaiting t).zones.trans.map (·.forbidden),
        ((tightening.enterWaiting t).col 0).grant)) =
      some (some ⟨1, 0, 0, 0⟩, some ⟨1, .transfer, none, some .zoneMode, some 4000⟩) ∧
    (waiting.zones.trans.map fun t => (waiting.enterWaiting t).zones.trans.map (·.state)) =
      some (some .changing) ∧
    (closing.enterChanging ⟨.waiting, .normal, Quad.same .openMode, Quad.same 0, .request 4, false,
      none⟩).zones.trans = none := by decide +kernel

/-- The deadlines of a tightened zone are suspended at the entry to CHANGING and resume when the
transition fails. -/
theorem test_witness_deadlines_of_a_transition :
    let slowed := moving .changing .normal ⟨.service, .openMode, .openMode, .openMode⟩
      (demo.modHandover 6 fun h => { h with deadline := some ⟨.collect, 7, .suspended⟩ })
    (waiting.zones.trans.map fun t => (waiting.enterChanging t).handovers.map (·.deadline)) =
      some [some ⟨.stage, 0, .suspended⟩, some ⟨.collect, 0, .suspended⟩, some ⟨.stage, 0, .running⟩,
        none, none] ∧
    ((after .interlockLimitExpiry slowed).handover 6).map (·.deadline) =
      some (some ⟨.collect, 7, .running⟩) := by decide +kernel

/-! ### Bytes -/

/-- CRC-16 of the nine digits, from the polynomial and start value of 10.2. -/
theorem test_crc : Wire.crc [0x31, 0x32, 0x33, 0x34, 0x35, 0x36, 0x37, 0x38, 0x39] = 0x29B1 := by
  decide +kernel

theorem test_frames_are_received :
    FrontEnd.commands .control
      (([0xC3, 0x55] ++ Wire.controlFrame 25 7 []).map RxByte.ok) =
      ([], [.controlFrameDiscard .badLength, .status 7 []]) ∧
    FrontEnd.commands .fleet ((Wire.fleetFrame 3 2 []).map RxByte.ok) =
      ([], [.ready 3 []]) := by decide +kernel

/-- Bytes arriving one after another. -/
def arriving (l : LinkId) (bs : List RxByte) (s : State) : State :=
  bs.foldl (fun s b => s.byteArrives l b) s

/-- A whole frame is one command; a stop-bit error in the sync byte breaks it; a partial frame ends 20
ms after its last byte, in UNCONFIGURED too, and a hardware reset loses it. -/
theorem test_bytes_arrive :
    let frame := (Wire.controlFrame 25 7 []).map RxByte.ok
    let half := arriving .fleet (((Wire.fleetFrame 3 2 []).map RxByte.ok).take 3) State.reset
    (arriving .control frame demo).pending = [.status 7 []] ∧
    (arriving .control frame demo).link.controlHeld = [] ∧
    (arriving .control frame demo).link.controlGap = none ∧
    (arriving .control (⟨0xC3, false⟩ :: frame.tail) demo).pending =
      [.controlFrameDiscard .badCrc] ∧
    half.link.fleetHeld.length = 3 ∧ half.link.fleetGap = some 20 ∧
    due 19 half = [] ∧ due 20 half = [.frameTimeout .fleet] ∧
    due 20 (arriving .fleet [.ok 2] (ms 19 half)) = [.frameTimeout .fleet] ∧
    due 19 (arriving .fleet [.ok 2] (ms 19 half)) = [] ∧
    ran (.frameTimeout .fleet) (ms 19 half) = some (ms 19 half) ∧
    (after (.frameTimeout .fleet) (ms 20 half)).link.fleetHeld = [] ∧
    (after (.frameTimeout .fleet) (ms 20 half)).link.fleetGap = none ∧
    (after (.frameTimeout .fleet) (ms 20 half)).link.fleetDiscards = 1 ∧
    (after (.frameTimeout .fleet) (ms 20 half)).pending = [] ∧
    (after (.hardwareReset .resetLow PinLevels.pulledDown) half).link.fleetHeld = [] ∧
    (after (.hardwareReset .resetLow PinLevels.pulledDown) half).link.fleetGap = none := by
  decide +kernel

/-- After a timeout the hunt resumes behind the sync byte: the frame inside is a command, and the
partial frame behind that times out in turn. -/
theorem test_timeout_resumes_the_hunt :
    let inner := (Wire.controlFrame 25 7 []).map RxByte.ok
    let broken := arriving .control ([0xC3, 0, 40].map RxByte.ok ++ inner ++ [.ok 0xC3]) State.reset
    let late := after (.frameTimeout .control) (ms 20 broken)
    broken.pending = [] ∧ due 19 broken = [] ∧ due 20 broken = [.frameTimeout .control] ∧
    late.pending = [.status 7 [], .frameTimeout .control] ∧
    late.link.controlHeld = [.ok 0xC3] ∧ late.link.controlGap = some 0 ∧
    late.link.controlDiscards = 1 ∧
    (after (.frameTimeout .control) late).link.controlHeld = [] ∧
    (after (.frameTimeout .control) late).link.controlDiscards = 2 := by decide +kernel

/-- A byte that comes once the 20 ms have passed begins anew: what was held is discarded, and the
timeout that waits has no effect. -/
theorem test_late_byte :
    let inner := (Wire.controlFrame 25 7 []).map RxByte.ok
    let broken := arriving .control ([0xC3, 0, 40].map RxByte.ok ++ inner ++ [.ok 0xC3]) State.reset
    let late := (ms 20 broken).byteArrives .control (.ok 0xC3)
    let half := (ms 20 (arriving .fleet [.ok 0x69] State.reset)).byteArrives .fleet (.ok 7)
    late.pending = [.status 7 []] ∧ late.link.controlDiscards = 2 ∧
    late.link.controlHeld = [.ok 0xC3] ∧ late.link.controlGap = some 20 ∧
    ran (.frameTimeout .control) late = some late ∧
    half.link.fleetDiscards = 1 ∧ half.link.fleetHeld = [] ∧ half.link.fleetGap = none := by
  decide +kernel

/-- The XP of a notice about a mapped column is one byte. -/
theorem test_mapping_is_one_byte :
    Wire.noticeFields (.stageExpired 5 55 2 0 (some 79) .empty) = [0, 5, 0, 0, 0, 55, 2, 0, 79, 0] ∧
    Wire.noticeFields (.collectExpired 6 66 .any 1 (some 1) 0) = [0, 6, 0, 0, 0, 66, 255, 1, 1, 0] := by
  decide +kernel

/-- Bodies at the ends of their fields' ranges decode to what they were written from. -/
theorem test_bodies_are_read_back :
    FrontEnd.look .control ((Wire.controlFrame 25 0xFFFF [1, 2]).map RxByte.ok) =
      .take (.status 0xFFFF [1, 2]) 10 ∧
    FrontEnd.look .fleet ((Wire.fleetFrame 255 255 []).map RxByte.ok) =
      .take (.fleetUnknownKind 255 255) 6 ∧
    Body.setParameters (Body.encSetParameters (some 65535 :: List.replicate 11 none)) =
      .ok (some 65535 :: List.replicate 11 none) ∧
    Body.defineColumn (Body.encDefineColumn ⟨255, 255, 255, 255, 255, 255, some 4294967295⟩) =
      .ok ⟨255, 255, 255, 255, 255, 255, some 4294967295⟩ ∧
    Body.mapXp (Body.encMapXp 255 (some 255)) = .ok (255, some 255) ∧
    Body.robot (Body.encRobotRef (.serial 0xFFFFFFFFFFFF)) = .ok (.serial 0xFFFFFFFFFFFF) ∧
    Body.openHandover (Body.encOpenHandover ⟨0xFFFFFFFF, 255, .addr 254, .zone 255⟩) =
      .ok ⟨0xFFFFFFFF, 255, .addr 254, .zone 255⟩ ∧
    Body.assignTaker (Body.encAssignTaker 65535 .any) = .ok (65535, .any) ∧
    Body.queryHandover (Body.encHandoverRef (.number 65535)) = .ok (.number 65535) ∧
    Body.listHandovers (Body.encListHandovers ⟨some 255, none, 65535⟩) =
      .ok ⟨some 255, none, 65535⟩ ∧
    Body.reconcile (Body.encReconcile 255 [1, 2, 3, 0xFFFFFFFF]) =
      .ok (255, [1, 2, 3, 0xFFFFFFFF]) ∧
    Body.releaseFreeze (Body.encReleaseFreeze (.column 255)) = .ok (.column 255) ∧
    Body.announce (Body.encAnnounce ⟨1, 65535, 255, 255, 0⟩) = .ok ⟨1, 65535, 255, 255, 0⟩ ∧
    Body.opStart (Body.encOpStart ⟨255, 255, 7⟩) = .ok ⟨255, 255, 7⟩ ∧
    Body.opEnd (Body.encOpEnd ⟨255, 0, 255, 7⟩) = .ok ⟨255, 0, 255, 7⟩ := by decide +kernel

end Sys2Proof.Tests
end

section
/-! PROOFS. The exchange columns: lock groups (01, R9). -/

namespace Sys2Proof.Machine

/-! ### Entries by their places, columns by their definitions -/

/-- Replacing the entry at one place, said entry by entry. -/
theorem updateAt_const_eq_map_zipIdx {α : Type} (l : List α) (i : Nat) (a : α) :
    (updateAt l i fun _ => a) = l.zipIdx.map fun p => if p.2 = i then a else p.1 := by
  apply List.ext_getElem?
  intro j
  rw [updateAt_getElem?, List.getElem?_map, List.getElem?_zipIdx]
  cases l[j]? with
  | none => simp
  | some b => by_cases hj : j = i <;> simp [hj]

/-- The length of a list of defined columns counts them. -/
theorem State.length_definedWhere (s : State) (p : Nat → Defn → Bool) :
    (s.definedWhere p).length = (List.range Config.columnCount).countP fun c =>
      match s.defn c with
      | some d => p c d
      | none => false :=
  List.countP_eq_length_filter.symm

/-- A request in the receive buffer defines no column. -/
@[simp] theorem intake_definedWhere (s : State) (k : Byte) (tag : Word16) (body : List Byte)
    (p : Nat → Defn → Bool) : (s.intake k tag body).definedWhere p = s.definedWhere p := rfl

/-! ### The lock-group requests -/

/-- A group above 11 is refused (01, R9). -/
theorem takeLock_outOfRange (set : Bool) {g : Nat} (s : State) (h : 11 < g) :
    takeLock set g s = refuse s .outOfRange :=
  if_pos (Nat.succ_le_of_lt h)

/-- For one of the twelve groups the flag takes the asked state (01, R9). -/
theorem takeLock_ok (set : Bool) {g : Nat} (s : State) (h : ¬ 11 < g) :
    takeLock set g s =
      ⟨{ s with lockFlags := updateAt s.lockFlags g fun _ => set }, .ok,
        .lockFlag g set (s.definedWhere fun _ d => d.group == g).length⟩ :=
  if_neg fun hle => h (Nat.lt_of_succ_le hle)

theorem exec_lockGroup (tag : Word16) (body : List Byte) (s : State) :
    exec (.lockGroup tag body) s = execLockGroup tag body s := rfl

theorem exec_unlockGroup (tag : Word16) (body : List Byte) (s : State) :
    exec (.unlockGroup tag body) s = execUnlockGroup tag body s := rfl

/-- Settles O17. Both requests are one host request with another kind and flag, so the outcome is
shown once for every kind and flag, by section state and by the range of the group. -/
theorem lockGroupSetsTheFlag : Obligations.LockGroupSetsTheFlag := by
  unfold Obligations.LockGroupSetsTheFlag
  intro tag g s h result
  rw [exec_lockGroup, exec_unlockGroup]
  suffices key : ∀ k set,
      hostRequest k tag [g] (withBody (Body.one [g]) fun g => inRunning (takeLock set g)) s =
        .next (result k set) from ⟨key 15 true, key 16 false⟩
  intro k set
  have one_ok : Body.one [g] = .ok g.toNat := rfl
  rw [hostRequest_taken h, one_ok, withBody_ok]
  cases hs : s.sectionState with
  | unconfigured =>
    have hu : (s.intake k tag [g]).sectionState = .unconfigured := hs
    simp only [inRunning_unconfigured hu, refuse, result, hs, if_true]
  | running =>
    have hu : (s.intake k tag [g]).sectionState = .running := hs
    rw [inRunning_running hu]
    by_cases hg : 11 < g.toNat
    · simp [takeLock_outOfRange set _ hg, refuse, result, hs, hg]
    · rw [takeLock_ok set _ hg, intake_definedWhere, State.length_definedWhere,
        updateAt_const_eq_map_zipIdx]
      simp only [result, hs, hg, reduceCtorEq, if_false]
      rfl

end Sys2Proof.Machine
end

section
/-! PROOFS. Column grants: leaving a wait list (03, R62). -/

namespace Sys2Proof.Machine

/-! ### Withdrawing a request -/

/-- A request leaves a list by its robot alone; the others keep their order (03, R57). -/
theorem State.removeWait_eq (s : State) (c a : Nat) :
    s.removeWait c a =
      s.modCol c fun q => { q with waits := q.waits.filter fun w => w.robot ≠ a } := by
  simp only [State.removeWait, bne, decide_not, Bool.beq_eq_decide_eq]

/-- A robot that waits in the column's list leaves it and is answered ACCEPTED (03, R62). -/
theorem takeWithdraw_waiting {a : Nat} {r : Robot} {c : Nat} {s : State}
    (h : ∃ w ∈ (s.col c).waits, w.robot = a) :
    takeWithdraw a r c s = (s.removeWait c a).send a (.accepted (.column c)) :=
  if_pos (by simpa using h)

/-- A robot that does not wait in the column's list is answered REFUSED NOT_WAITING (03, R62). -/
theorem takeWithdraw_notWaiting {a : Nat} {r : Robot} {c : Nat} {s : State}
    (h : ¬∃ w ∈ (s.col c).waits, w.robot = a) :
    takeWithdraw a r c s = s.send a (.refused .notWaiting (.column c)) :=
  if_neg (by simpa using h)

/-- WITHDRAW from a robot of the roster is taken by the arbiter (10, R194). -/
theorem exec_withdraw_one {addr : Byte} {r : Robot} {s : State} (b : Byte)
    (h : s.robot addr.toNat = some r) :
    exec (.withdraw addr [b]) s = .next (takeWithdraw addr.toNat r b.toNat s).startTx :=
  robotFrame_ok h

/-- Settles O32, by whether the robot's request waits in the column's list. -/
theorem withdrawLeavesTheList : Obligations.WithdrawLeavesTheList := by
  unfold Obligations.WithdrawLeavesTheList
  intro addr b r s hr a c
  rw [exec_withdraw_one b hr]
  constructor
  · intro hwaits
    rw [takeWithdraw_waiting hwaits, State.removeWait_eq]
  · intro habsent
    rw [takeWithdraw_notWaiting habsent]

end Sys2Proof.Machine
end

section
/-! PROOFS. The fleet roster: a repeat announcement (05, R110) and READY (05, R111). -/

namespace Sys2Proof.Machine

/-! ### Records and serials by their addresses -/

/-- The record at an address is the roster's entry one place below it (05, R106). -/
theorem State.robot_eq_some {s : State} {a : Nat} {r : Robot} :
    s.robot a = some r ↔ ∃ k, a = k + 1 ∧ s.roster[k]? = some (some r) := by
  cases a with
  | zero => simp [State.robot]
  | succ k =>
    cases hk : s.roster[k]? <;> simp [State.robot, List.getD_eq_getElem?_getD, hk]

/-- The address of a serial holds a record with that serial. -/
theorem State.robot_of_addressOf {s : State} {n : Serial} {a : Nat} (h : s.addressOf n = some a) :
    ∃ r, s.robot a = some r ∧ r.serial = n := by
  obtain ⟨k, e, rfl, hk, he, -⟩ := (indexFrom_eq_some _ _ _ _).mp h
  obtain ⟨r, rfl, hr⟩ : ∃ r, e = some r ∧ r.serial = n := by simpa using he
  exact ⟨r, State.robot_eq_some.mpr ⟨k, Nat.add_comm 1 k, hk⟩, hr⟩

/-- A serial has no address exactly when no record has it. -/
theorem State.addressOf_eq_none {s : State} {n : Serial} :
    s.addressOf n = none ↔ ∀ a r, s.robot a = some r → r.serial ≠ n := by
  unfold State.addressOf
  rw [indexFrom_eq_none]
  constructor
  · intro h a r hr
    obtain ⟨k, -, hk⟩ := State.robot_eq_some.mp hr
    simpa using h _ (List.mem_of_getElem? hk)
  · intro h e he
    obtain ⟨k, hk⟩ := List.mem_iff_getElem?.mp he
    cases e with
    | none => rfl
    | some r => simpa using h (k + 1) r (State.robot_eq_some.mpr ⟨k, rfl, hk⟩)

/-- A serial that one record alone has is found at that record's address. -/
theorem State.addressOf_of_unique {s : State} {n : Serial} {a : Nat} {r : Robot}
    (hr : s.robot a = some r) (hn : r.serial = n)
    (unique : ∀ b k, s.robot b = some k → k.serial = n → b = a) : s.addressOf n = some a := by
  cases hb : s.addressOf n with
  | none => exact absurd hn (State.addressOf_eq_none.mp hb a r hr)
  | some b =>
    obtain ⟨k, hk, hkn⟩ := State.robot_of_addressOf hb
    rw [unique b k hk hkn]

/-! ### Announcements of a known serial -/

/-- ANNOUNCE whose body decodes is taken by the roster, whatever its address (05, R108). -/
theorem exec_announce_ok {addr : Byte} {body : List Byte} {q : Body.Announce} {s : State}
    (h : Body.announce body = .ok q) :
    exec (.announce addr body) s = .next (takeAnnounce q s).startTx := by
  change execAnnounce addr body s = _
  simp only [execAnnounce, h, event]

/-- In RUNNING, an announcement in range whose serial a record holds is judged by that record
(05, R108). -/
theorem takeAnnounce_known {q : Body.Announce} {a : Nat} {r : Robot} {s : State}
    (running : s.sectionState = .running) (serial : q.serial ≠ 0) (gripper : q.gripper ≤ 7)
    (level : q.level ≤ 15) (address : s.addressOf q.serial = some a) (hr : s.robot a = some r) :
    takeAnnounce q s = s.knownAnnouncement a r q := by
  have inRange : ¬(q.serial = 0 ∨ 7 < q.gripper ∨ 15 < q.level) := by
    rintro (h | h | h)
    · exact serial h
    · omega
    · omega
  simp only [takeAnnounce, State.running, running, beq_self_eq_true, Bool.not_true, inRange,
    address, hr, Bool.false_eq_true, if_false]

/-- The record's own boot count makes the announcement a repeat (05, R110). -/
theorem State.knownAnnouncement_repeat {s : State} {a : Nat} {r : Robot} {q : Body.Announce}
    (h : r.boot = q.boot) : s.knownAnnouncement a r q = s.sendAddress a r :=
  if_pos h

/-- Settles O44: the announced serial leads to the one record that has it, whose boot count makes the
announcement a repeat, and a repeat does nothing but send ADDRESS. -/
theorem repeatAnnouncementIsAnsweredAgain : Obligations.RepeatAnnouncementIsAnsweredAgain := by
  unfold Obligations.RepeatAnnouncementIsAnsweredAgain
  intro addr body q a r s decoded running serial gripper level hr hserial hboot unique
  have address : s.addressOf q.serial = some a := State.addressOf_of_unique hr hserial unique
  rw [exec_announce_ok decoded, takeAnnounce_known running serial gripper level address hr,
    State.knownAnnouncement_repeat hboot, State.sendAddress]

/-! ### READY -/

/-- READY of an ANNOUNCED robot ends its ready limit: it is ACTIVE if it was admitted already, else
READY (05, R111). -/
theorem takeReady_announced {a : Nat} {r : Robot} {s : State} (h : r.state = .announced) :
    takeReady a r () s =
      (s.modRobot a fun k =>
        { k with
          state := if r.admitPending then .active else .ready
          admitPending := false
          readyTimer := none }).send a
        (.accepted (.state (if r.admitPending then .active else .ready))) := by
  simp only [takeReady, h]

/-- READY of a READY or ACTIVE robot is answered with the state it has (05, R111). -/
theorem takeReady_stays {a : Nat} {r : Robot} {s : State} (h : r.state = .ready ∨ r.state = .active) :
    takeReady a r () s = s.send a (.accepted (.state r.state)) := by
  rcases h with h | h <;> simp only [takeReady, h]

/-- READY of a LOST robot is refused (05, R111). -/
theorem takeReady_lost {a : Nat} {r : Robot} {s : State} (h : r.state = .lost) :
    takeReady a r () s = s.send a (.refused .lost .none) := by
  simp only [takeReady, h, State.sendRefused]

/-- READY of an INACTIVE robot is refused (05, R111). -/
theorem takeReady_inactive {a : Nat} {r : Robot} {s : State} (h : r.state = .inactive) :
    takeReady a r () s = s.send a (.refused .inactive .none) := by
  simp only [takeReady, h, State.sendRefused]

/-- READY from a robot of the roster is taken by the roster (10, R194). -/
theorem exec_ready_nil {addr : Byte} {r : Robot} {s : State} (h : s.robot addr.toNat = some r) :
    exec (.ready addr []) s = .next (takeReady addr.toNat r () s).startTx :=
  robotFrame_ok h

/-- Settles O46, by the robot's state. -/
theorem readyIsTakenByState : Obligations.ReadyIsTakenByState := by
  unfold Obligations.ReadyIsTakenByState
  intro addr r s hr a gives
  simp only [gives, exec_ready_nil hr]
  refine ⟨fun announced => ?_, fun stays => ?_, fun lost => ?_, fun inactive => ?_⟩
  · rw [takeReady_announced announced, State.modRobot_eq_setRobot s hr]
  · rw [takeReady_stays stays]
  · rw [takeReady_lost lost]
  · rw [takeReady_inactive inactive]

end Sys2Proof.Machine
end

section
/-! PROOFS. The handover table: the number a new record gets (02, R26). -/

namespace Sys2Proof.Machine

/-! ### Counting on from 65535 to 1 -/

/-- The handover number after `n`, counted on from 65535 to 1 (02, R26). -/
def followingNumber (n : Nat) : Nat := if n < 65535 then n + 1 else 1

/-- Counting on is counting in a circle of 65535 numbers. -/
theorem iterate_followingNumber {n : Nat} (h : n ≤ 65535) (k : Nat) :
    followingNumber^[k + 1] n = (n + k) % 65535 + 1 := by
  induction k with
  | zero =>
    simp only [Function.iterate_succ, Function.iterate_zero, Function.comp, id, followingNumber]
    split <;> omega
  | succ k ih =>
    rw [Function.iterate_succ_apply', ih, followingNumber]
    split <;> omega

/-- The first 65535 numbers counted on are different ones. -/
theorem iterate_followingNumber_inj {n i j : Nat} (h : n ≤ 65535) (hi : i < 65535) (hj : j < 65535)
    (e : followingNumber^[i + 1] n = followingNumber^[j + 1] n) : i = j := by
  rw [iterate_followingNumber h, iterate_followingNumber h] at e
  omega

namespace State

/-- A number a search for a free one answers: the numbers before it are held, and it is free unless
it is the last one tried. -/
theorem numberAfter_spec (s : State) (tries n : Nat) :
    ∃ k ≤ tries, s.numberAfter tries n = followingNumber^[k + 1] n ∧
      (∀ j < k, (s.handover (followingNumber^[j + 1] n)).isSome) ∧
      (k < tries → s.handover (followingNumber^[k + 1] n) = none) := by
  induction tries generalizing n with
  | zero => exact ⟨0, Nat.le_refl 0, rfl, by simp, by simp⟩
  | succ tries ih =>
    by_cases held : (s.handover (followingNumber n)).isSome
    · obtain ⟨k, hk, e, before, free⟩ := ih (followingNumber n)
      refine ⟨k + 1, by omega, ?_, ?_, ?_⟩
      · rw [Function.iterate_succ_apply, ← e]
        exact if_pos held
      · intro j hj
        cases j with
        | zero => exact held
        | succ j => exact before j (by omega)
      · intro hlt
        exact free (by omega)
    · refine ⟨0, by omega, if_neg held, by simp, fun _ => ?_⟩
      simpa using held

/-- As many different numbers as there are records, and one more, are not all held. -/
theorem exists_free_number (s : State) {n : Nat} (hn : n ≤ 65535) (size : s.handovers.length < 65535)
    (held : ∀ j ≤ s.handovers.length, (s.handover (followingNumber^[j + 1] n)).isSome) : False := by
  let numbers := (List.range (s.handovers.length + 1)).map fun j => followingNumber^[j + 1] n
  have nodup : numbers.Nodup := by
    refine List.Nodup.map_on ?_ List.nodup_range
    intro i hi j hj e
    rw [List.mem_range] at hi hj
    exact iterate_followingNumber_inj hn (by omega) (by omega) e
  have among : numbers ⊆ s.handovers.map (·.number) := by
    intro m hm
    obtain ⟨j, hj, rfl⟩ := List.mem_map.mp hm
    obtain ⟨h, e⟩ := Option.isSome_iff_exists.mp (held j (by rw [List.mem_range] at hj; omega))
    exact List.mem_map.mpr ⟨h, mem_of_handover s e, number_of_handover s e⟩
  have : numbers.length ≤ (s.handovers.map (·.number)).length :=
    (nodup.subperm among).length_le
  simp [numbers] at this

/-- OPEN_HANDOVER assigns the first free number above the last one assigned (02, R26). -/
theorem nextNumber_spec (s : State) (size : s.handovers.length ≤ 192) (last : s.lastNumber ≤ 65535) :
    s.handover s.nextNumber = none ∧ ∃ k, s.nextNumber = followingNumber^[k + 1] s.lastNumber ∧
      ∀ j < k, (s.handover (followingNumber^[j + 1] s.lastNumber)).isSome := by
  obtain ⟨k, hk, e, before, free⟩ := s.numberAfter_spec s.handovers.length s.lastNumber
  refine ⟨?_, k, e, before⟩
  rw [nextNumber, e]
  by_cases hlt : k < s.handovers.length
  · exact free hlt
  · by_contra held
    refine s.exists_free_number last (by omega) fun j hj => ?_
    by_cases hjk : j < k
    · exact before j hjk
    · obtain rfl : j = k := by omega
      exact Option.isSome_iff_ne_none.mpr held

theorem nextNumber_bounds (s : State) (size : s.handovers.length ≤ 192)
    (last : s.lastNumber ≤ 65535) : 1 ≤ s.nextNumber ∧ s.nextNumber ≤ 65535 := by
  obtain ⟨-, k, e, -⟩ := s.nextNumber_spec size last
  rw [e, iterate_followingNumber last]
  omega

end State

end Sys2Proof.Machine
end

section
/-! PROOFS. What every shared operation of the blocks keeps: a property of the state that the single
writes of the tables and queues keep, whole operations keep. -/

namespace Sys2Proof.Machine

/-- `P` is kept by every single write that the blocks make, but for those of the zone controller: no
write lengthens a wait list or renumbers a record. -/
structure BlockKept (P : State → Prop) : Prop where
  modCol : ∀ {s : State} (c : Nat) (f : Column → Column),
    (f (s.col c)).waits.length ≤ (s.col c).waits.length → P s → P (s.modCol c f)
  modHandovers : ∀ {s : State} (p : Handover → Bool) (f : Handover → Handover),
    (∀ h, p h = true → (f h).number = h.number) → P s → P (s.modHandovers p f)
  freeHandover : ∀ {s : State} (n : Nat), P s → P (s.freeHandover n)
  setXp : ∀ {s : State} (x : Nat) (e : Option XpEntry), P s → P (s.setXp x e)
  modRobot : ∀ {s : State} (a : Nat) (f : Robot → Robot), P s → P (s.modRobot a f)
  setRobot : ∀ {s : State} (a : Nat) (r : Option Robot), P s → P (s.setRobot a r)
  audit : ∀ {s : State} (a : AuditUnit), P s → P { s with audit := a }
  notify : ∀ {s : State} (b : NoticeBody), P s → P (s.notify b)
  send : ∀ {s : State} (a : Nat) (m : FleetMsg), P s → P (s.send a m)

/-- `P` is kept by every single write that the blocks make, the zone controller's among them. -/
structure ZoneKept (P : State → Prop) : Prop extends BlockKept P where
  modZones : ∀ {s : State} (f : ZoneCtl → ZoneCtl), P s → P (s.modZones f)

/-! ### Records keep their numbers -/

theorem Handover.number_of_fixed {h k : Handover} (e : h.fixed = k.fixed) : h.number = k.number :=
  congrArg Prod.fst e

@[simp] theorem Handover.number_judged (s : State) (h : Handover) : (s.judged h).number = h.number :=
  Handover.number_of_fixed (Handover.fixed_judged s h)

@[simp] theorem Handover.number_resumed (s : State) (h : Handover) :
    (s.resumed h).number = h.number :=
  Handover.number_of_fixed (Handover.fixed_resumed s h)

/-- A column's entries are placed by writing records (02, R29). -/
theorem State.placeEntries_eq (s : State) (c : Nat) :
    s.placeEntries c = s.modHandovers (fun _ => true) fun h =>
      match indexFrom (fun e => e == Entry.tracked h.number) (s.col c).stack 0 with
      | some i => { h with custody := .column c i }
      | none => h := rfl

namespace BlockKept
variable {P : State → Prop} (K : BlockKept P) {s : State}
include K

theorem modHandover (n : Nat) (f : Handover → Handover)
    (hf : ∀ h, h.number = n → (f h).number = n) (h : P s) : P (s.modHandover n f) :=
  K.modHandovers (·.number == n) f (fun k hk => by
    have hk : k.number = n := by simpa using hk
    rw [hf k hk, hk]) h

theorem notifyAll (bs : List NoticeBody) (h : P s) : P (s.notifyAll bs) :=
  foldl_keeps P State.notify bs s h fun _ b _ ht => K.notify b ht

theorem emit {p : Noted} (h : P p.1) : P p.emit := K.notifyAll p.2 h

theorem setSlot (a : Nat) (sl : Slot) (b : Bool) (h : P s) : P (s.setSlot a sl b) := K.modRobot a _ h

/-! ### Deadlines and freeze causes -/

theorem judgeColumn (c : Nat) (h : P s) : P (s.judgeColumn c) :=
  K.modHandovers _ _ (fun k _ => Handover.number_judged s k) h

theorem judgeZone (z : Nat) (h : P s) : P (s.judgeZone z) :=
  K.modHandovers _ _ (fun k _ => Handover.number_judged s k) h

theorem judgeAll (h : P s) : P s.judgeAll :=
  K.modHandovers _ _ (fun k _ => Handover.number_judged s k) h

theorem addDiscrepancy (c : Nat) (h : P s) : P (s.addDiscrepancy c) :=
  K.judgeColumn c (K.modCol c _ le_rfl h)

theorem addSuspect (c : Nat) (h : P s) : P (s.addSuspect c) :=
  K.judgeColumn c (K.modCol c _ le_rfl h)

theorem addZoneCause (c : Nat) (h : P s) : P (s.addZoneCause c) :=
  K.judgeColumn c (K.modCol c _ le_rfl h)

theorem removeZoneCause (c : Nat) (h : P s) : P (s.removeZoneCause c) :=
  K.judgeColumn c (K.modCol c _ le_rfl h)

theorem confirmStack (c : Nat) (h : P s) : P (s.confirmStack c) :=
  K.judgeColumn c (K.modCol c _ le_rfl h)

theorem markSettle (c : Nat) (h : P s) : P (s.markSettle c) := K.modCol c _ le_rfl h

/-! ### Audit unit -/

theorem startTick (h : P s) : P s.startTick := K.audit _ h

theorem endCall (c : Nat) (h : P s) : P (s.endCall c) := K.audit _ h

theorem setAudit (c : Nat) (v : Verification) (b : Bool) (h : P s) : P (s.setAudit c v b) :=
  K.modCol c _ le_rfl h

theorem failCall (c : Nat) (cause : UnverifiedCause) (h : P s) : P (s.failCall c cause).1 :=
  K.endCall c (K.setAudit c _ _ h)

theorem creditColumn (c : Nat) (h : P s) : P (s.creditColumn c) := K.modCol c _ le_rfl h

theorem auditStart (c : Nat) (h : P s) : P (s.auditStart c) := by
  unfold State.auditStart
  split
  · exact K.audit _ h
  · exact h

theorem auditEnd (c : Nat) (o : EndOutcome) (h : P s) : P (s.auditEnd c o).1 := by
  unfold State.auditEnd
  split
  · cases o with
    | credited => exact K.endCall c (K.setAudit c _ _ h)
    | mismatch => exact K.endCall c (K.setAudit c _ _ h)
    | heightOnly =>
      dsimp only
      split
      · exact K.failCall c _ h
      · exact K.audit _ h
    | failed => exact K.failCall c _ h
    | cutOff => exact K.failCall c _ h
  · cases o
    case credited => exact K.creditColumn c h
    all_goals exact h

/-! ### Retirement and remap -/

theorem completeRemap (x c : Nat) (h : P s) : P (s.completeRemap x c).1 := by
  unfold State.completeRemap
  dsimp only
  split
  · exact K.endCall c (K.setXp x _ h)
  · exact K.setXp x _ h

theorem examineRemap (c : Nat) (h : P s) : P (s.examineRemap c).1 := by
  unfold State.examineRemap
  split
  · exact h
  · split
    · exact K.completeRemap _ c h
    · exact h

theorem examineRemaps (p : Nat → Bool) (h : P s) : P (s.examineRemaps p).1 := by
  unfold State.examineRemaps
  refine foldl_keeps (fun q : Noted => P q.1) _ _ _ h fun q x _ hq => ?_
  split
  · split
    · exact K.examineRemap _ hq
    · exact hq
  · exact hq

theorem retire (c : Nat) (cause : RetireCause) (h : P s) : P (s.retire c cause) := by
  have marked : P (s.modCol c fun k => { k with retired := true }) := K.modCol c _ le_rfl h
  unfold State.retire
  refine K.emit (K.examineRemap c (K.notify _ ?_))
  split
  · exact K.setXp _ _ marked
  · exact marked

theorem countFault (c : Nat) (f : LastFault) (h : P s) : P (s.countFault c f) := by
  have counted : P (s.modCol c fun k =>
      { k with faultCount := k.faultCount + 1, lastFault := some f }) := K.modCol c _ le_rfl h
  unfold State.countFault
  split
  · exact h
  · dsimp only
    split
    · exact K.retire c _ counted
    · exact counted

/-! ### Records of an operation -/

theorem returnRecord (u : Bool) (p : Nat × HandoverState) (h : P s) :
    P (State.returnRecord u s p) := by
  refine K.modHandover p.1 _ (fun k hk => ?_) h
  split
  · exact hk
  · rw [Handover.number_resumed]
    exact hk

theorem returnRecords (u : Bool) (o : Operation) (h : P s) : P (s.returnRecords u o) :=
  foldl_keeps P _ o.priors s h fun _ p _ ht => K.returnRecord u p ht

theorem clearOp (c : Nat) (o : Operation) (h : P s) : P (s.clearOp c o) := K.modCol c _ le_rfl h

theorem cutOff (c : Nat) (cause : SuspectCause) (h : P s) : P (s.cutOff c cause).1 := by
  unfold State.cutOff
  split
  · exact h
  · exact K.examineRemap c
      (K.auditEnd c .cutOff (K.addSuspect c (K.clearOp c _ (K.returnRecords true _ h))))

/-! ### Grant arbiter -/

theorem makeGrant (c a : Nat) (k : Cls) (h : P s) : P (s.makeGrant c a k) :=
  K.send _ _ (K.modCol c _ le_rfl h)

theorem handOn (c : Nat) (h : P s) : P (s.handOn c) := by
  unfold State.handOn
  split
  · exact h
  · split
    · exact h
    · rename_i w rest taken
      have shorter := takeFirst_length _ _ _ _ taken
      exact K.makeGrant c _ _ (K.modCol c _ (by dsimp only; omega) h)

theorem handOnZone (z : Nat) (h : P s) : P (s.handOnZone z) :=
  foldl_keeps P State.handOn _ s h fun _ c _ ht => K.handOn c ht

theorem handOnLoosened (before : State) (h : P s) : P (s.handOnLoosened before) :=
  foldl_keeps P State.handOnZone _ s h fun _ z _ ht => K.handOnZone z ht

theorem revoke (c : Nat) (cause : RevokeCause) (h : P s) : P (s.revoke c cause) := by
  unfold State.revoke
  split
  · exact h
  · split
    · exact h
    · exact K.send _ _ (K.modCol c _ le_rfl h)

theorem startGrace (c : Nat) (h : P s) : P (s.startGrace c) := K.modCol c _ le_rfl h

theorem sendRefused (a : Nat) (r : Status) (d : RefusedDetail) (h : P s) :
    P (s.sendRefused a r d) := K.send a _ h

theorem refuseWaits (c : Nat) (r : Status) (h : P s) : P (s.refuseWaits c r) :=
  foldl_keeps P _ _ _ (K.modCol c _ (Nat.zero_le _) h) fun _ _ _ ht => K.sendRefused _ _ _ ht

theorem holdColumn (c : Nat) (h : P s) : P (s.holdColumn c) :=
  K.refuseWaits c _ (K.modCol c _ le_rfl (K.emit (K.cutOff c .hold h)))

theorem closeZone (z : Nat) (h : P s) : P (s.closeZone z) :=
  foldl_keeps P State.addZoneCause _ _
    (foldl_keeps P _ _ s h fun _ c _ ht => K.refuseWaits c _ ht) fun _ c _ ht => K.addZoneCause c ht

/-! ### Custody -/

theorem placeEntries (c : Nat) (h : P s) : P (s.placeEntries c) := by
  rw [State.placeEntries_eq]
  refine K.modHandovers _ _ (fun k _ => ?_) h
  split <;> rfl

theorem freeOpen (k : Handover) (h : P s) : P (s.freeOpen k) := by
  unfold State.freeOpen
  split
  · exact K.freeHandover _ (K.setSlot _ _ _ h)
  · exact K.freeHandover _ h

theorem examineColumnOf (k : Handover) (h : P s) : P (s.examineColumnOf k) := by
  unfold State.examineColumnOf
  split
  · exact K.emit (K.examineRemap _ h)
  · exact h

end BlockKept

namespace ZoneKept
variable {P : State → Prop} (K : ZoneKept P) {s : State}
include K

/-! ### Zone controller -/

theorem completeHold (h : P s) : P s.completeHold :=
  K.notify _ (K.modZones _ (foldl_keeps P State.addZoneCause _ _ (K.modZones _ h) fun _ c _ ht =>
    K.addZoneCause c ht))

theorem beginHold (h : P s) : P s.beginHold := by
  have begun : ∀ f g, P (((forUpTo Config.columnCount State.holdColumn (s.modZones f)).modZones
      g).judgeAll) := fun f g =>
    K.judgeAll (K.modZones g (foldl_keeps P State.holdColumn _ _ (K.modZones f h) fun _ c _ ht =>
      K.holdColumn c ht))
  unfold State.beginHold
  dsimp only
  split
  · exact K.completeHold (begun _ _)
  · exact begun _ _

theorem afterNormal (h : P s) : P s.afterNormal := by
  unfold State.afterNormal
  split
  · exact K.beginHold h
  · exact h

theorem succeed (t : Transition) (h : P s) : P (s.succeed t) := by
  refine K.afterNormal (K.notify _ (foldl_keeps P State.handOnZone _ _ ?_ fun _ z _ ht =>
    K.handOnZone z ht))
  refine foldl_keeps P State.judgeZone _ _ (K.modZones _ ?_) fun _ z _ ht => K.judgeZone z ht
  exact foldl_keeps P State.closeZone _ _ (K.modZones _ h) fun _ z _ ht => K.closeZone z ht

theorem failTransition (t : Transition) (h : P s) : P (s.failTransition t) := by
  refine K.afterNormal (K.notify _ (foldl_keeps P State.handOnZone _ _ ?_ fun _ z _ ht =>
    K.handOnZone z ht))
  exact foldl_keeps P State.judgeZone _ _ (K.modZones _ h) fun _ z _ ht => K.judgeZone z ht

theorem judgeEcho (h : P s) : P s.judgeEcho := by
  unfold State.judgeEcho
  split
  · exact h
  · split
    · split
      · exact K.succeed _ h
      · exact K.completeHold h
    · exact h

theorem enterChanging (t : Transition) (h : P s) : P (s.enterChanging t) :=
  K.judgeEcho (foldl_keeps P State.judgeZone _ _ (K.modZones _ h) fun _ z _ ht => K.judgeZone z ht)

theorem checkWaiting (t : Transition) (h : P s) : P (s.checkWaiting t) := by
  unfold State.checkWaiting
  split
  · exact K.enterChanging t h
  · exact h

theorem enterWaiting (t : Transition) (h : P s) : P (s.enterWaiting t) :=
  K.checkWaiting _ (foldl_keeps P _ _ _ (K.modZones _ h) fun _ c _ ht => K.revoke c _ ht)

theorem reportGrantEnd (c : Nat) (k : Cls) (h : P s) : P (s.reportGrantEnd c k) := by
  unfold State.reportGrantEnd
  split
  · exact h
  · split
    · exact K.checkWaiting _ (K.modZones _ h)
    · exact h

theorem endGrant (c : Nat) (h : P s) : P (s.endGrant c) := by
  unfold State.endGrant
  split
  · exact h
  · exact K.reportGrantEnd c _ (K.modCol c _ le_rfl h)

end ZoneKept

end Sys2Proof.Machine
end

section
/-! PROOFS. What the commands' own parts keep: the taking of requests and of robot frames, and the
expiries, each by the operations of the blocks it is made of. -/

namespace Sys2Proof.Machine

/-! ### Records keep their numbers -/

@[simp] theorem Handover.number_withTaker (s : State) (h : Handover) (k : Taker) :
    (s.withTaker h k).number = h.number := by
  unfold State.withTaker
  split <;> rfl

@[simp] theorem Handover.number_takerGone (h : Handover) : h.takerGone.number = h.number := by
  unfold Handover.takerGone
  split <;> rfl

/-! ### Reading an answer -/

/-- What taking a request keeps, when it keeps it for every decoded body. -/
theorem withBody_keeps {P : State → Prop} {α : Type} {take : α → State → Answer}
    (ht : ∀ a u, P u → P (take a u).state) (d : Decoded α) {s : State} (h : P s) :
    P (withBody d take s).state := by
  unfold withBody
  split
  · exact h
  · exact ht _ _ h

theorem inRunning_keeps {P : State → Prop} {take : State → Answer}
    (ht : ∀ u, P u → P (take u).state) {s : State} (h : P s) : P (inRunning take s).state := by
  unfold inRunning
  split
  · exact ht _ h
  · exact h

/-- Taking a request in RUNNING with a body that decodes. -/
theorem withBody_inRunning_keeps {P : State → Prop} {α : Type} {take : α → State → Answer}
    (ht : ∀ a u, P u → P (take a u).state) (d : Decoded α) {s : State} (h : P s) :
    P (withBody d (fun a => inRunning (take a)) s).state :=
  withBody_keeps (fun a _ hu => inRunning_keeps (ht a) hu) d h

theorem onHandover_keeps {P : State → Prop} {take : Handover → State → Answer} (n : Nat)
    (ht : ∀ k u, u.handover n = some k → P u → P (take k u).state) {s : State} (h : P s) :
    P (onHandover n take s).state := by
  unfold onHandover
  split
  · exact h
  · exact ht _ _ ‹_› h

theorem onRobot_keeps {P : State → Prop} {take : Nat → Robot → State → Answer} (q : RobotRef)
    (ht : ∀ a r u, P u → P (take a r u).state) {s : State} (h : P s) :
    P (onRobot q take s).state := by
  unfold onRobot
  split
  · exact h
  · exact ht _ _ _ h

namespace BlockKept
variable {P : State → Prop} (K : BlockKept P) {s : State}
include K

/-! ### Configuration and the map -/

theorem takeDefineColumn (q : Body.DefineColumn) (h : P s) : P (takeDefineColumn q s).state := by
  unfold Machine.takeDefineColumn
  split
  · exact h
  · split
    · exact h
    · split
      · exact h
      · exact K.modCol q.index _ le_rfl h

theorem mapUnconfigured (x : Nat) (c : Option Nat) (h : P s) :
    P (mapUnconfigured x c s).state := by
  unfold Machine.mapUnconfigured
  split
  · exact K.setXp x _ h
  · split
    · exact h
    · split
      · exact h
      · split
        · exact h
        · exact K.setXp x _ h

theorem mapRunning (x : Nat) (c : Option Nat) (h : P s) : P (mapRunning x c s).state := by
  unfold Machine.mapRunning
  split
  · exact h
  · split
    · exact h
    · split
      · exact h
      · split
        · exact h
        · split
          · exact h
          · exact K.setXp x _ h

theorem takeMapXp (q : Nat × Option Nat) (h : P s) : P (takeMapXp q s).state := by
  unfold Machine.takeMapXp
  split
  · exact h
  · split
    · exact K.mapRunning _ _ h
    · exact K.mapUnconfigured _ _ h

theorem takeRetireColumn (c : Nat) (h : P s) : P (takeRetireColumn c s).state := by
  unfold Machine.takeRetireColumn
  split
  · exact h
  · split
    · exact h
    · exact K.retire c _ h

theorem takeFaultReport (a : Nat) (r : Robot) (q : Nat × FaultKind) (h : P s) :
    P (takeFaultReport a r q s) := by
  unfold Machine.takeFaultReport
  split
  · exact K.send _ _ h
  · split
    · exact K.send _ _ h
    · exact K.send _ _ (K.countFault _ _ h)

/-! ### Handovers -/

theorem takeAssignTaker (t : Taker) (k : Handover) (h : P s) : P (takeAssignTaker t k s).state := by
  unfold Machine.takeAssignTaker
  split
  · exact h
  · split
    · exact h
    · exact K.modHandover _ _ (fun _ _ => Handover.number_withTaker s k t) h

theorem freeOpenRequest (k : Handover) (h : P s) : P (freeOpenRequest k s).state :=
  K.examineColumnOf k (K.freeOpen k h)

theorem takeCancelHandover (k : Handover) (h : P s) : P (takeCancelHandover k s).state := by
  unfold Machine.takeCancelHandover
  split
  · exact K.freeOpenRequest k h
  · exact K.modHandover _ _ (fun _ _ => rfl) h
  · exact h

theorem untrackEntry (k : Handover) (h : P s) : P (s.untrackEntry k) := by
  unfold State.untrackEntry
  split
  · exact K.modCol _ _ le_rfl h
  · exact h

theorem untrackSlot (k : Handover) (h : P s) : P (s.untrackSlot k) := by
  unfold State.untrackSlot
  split
  · exact K.setSlot _ _ _ h
  · exact h

theorem takeReleaseTracking (k : Handover) (h : P s) : P (takeReleaseTracking k s).state := by
  unfold Machine.takeReleaseTracking
  split
  · exact K.freeOpenRequest k h
  · exact K.freeHandover _ (K.untrackEntry k h)
  · split
    · exact h
    · exact K.freeHandover _ (K.untrackSlot k h)
  · exact K.freeHandover _ h
  · exact h

theorem expireStage (k : Handover) (h : P s) : P (s.expireStage k) :=
  K.notify _ (K.examineColumnOf k (K.freeOpen k h))

theorem expireRelocation (k : Handover) (h : P s) : P (s.expireRelocation k) :=
  K.notify _ (K.modHandover _ _ (fun _ _ => rfl) h)

theorem expireCollect (k : Handover) (h : P s) : P (s.expireCollect k) :=
  K.notify _ (K.modHandover _ _ (fun _ _ => rfl) h)

/-! ### Grants -/

theorem removeWait (c a : Nat) (h : P s) : P (s.removeWait c a) :=
  K.modCol c _ (List.length_filter_le _ _) h

theorem takeWithdraw (a : Nat) (r : Robot) (c : Nat) (h : P s) : P (takeWithdraw a r c s) := by
  unfold Machine.takeWithdraw
  split
  · exact K.send _ _ (K.removeWait c a h)
  · exact K.send _ _ h

theorem loseRobot (a : Nat) (h : P s) : P (s.loseRobot a) := K.modRobot a _ h

/-! ### Operations -/

theorem startSet (hs : Option SetHalf) (h : P s) : P (s.startSet hs) := by
  unfold State.startSet
  split
  · exact K.modHandover _ _ (fun _ e => e) h
  · exact K.modHandover _ _ (fun _ e => e) h
  · exact h

theorem startLift (hl : Option LiftHalf) (h : P s) : P (s.startLift hl) := by
  unfold State.startLift
  split
  · exact K.modHandover _ _ (fun _ e => e) h
  · exact K.modHandover _ _ (fun _ e => e) h
  · exact h

theorem startOperation (c a : Nat) (kind : OpKind) (hs : State.Halves) (h : P s) :
    P (s.startOperation c a kind hs) :=
  K.send _ _ (K.auditStart c (K.modCol c _ le_rfl (K.startLift _ (K.startSet _ h))))

theorem startChecked (a : Nat) (r : Robot) (c : Nat) (kind : OpKind) (k : Cls) (tag : BinTag)
    (h : P s) : P (startChecked a r c kind k tag s) := by
  unfold Machine.startChecked
  split
  · exact K.send _ _ h
  · split
    · exact K.send _ _ h
    · exact K.startOperation c a kind _ h

theorem takeOpStart (a : Nat) (r : Robot) (q : Body.OpStart) (h : P s) :
    P (takeOpStart a r q s) := by
  unfold Machine.takeOpStart
  split
  · exact K.send _ _ h
  · split
    · exact K.send _ _ h
    · split
      · exact K.send _ _ h
      · split
        · exact K.send _ _ h
        · split
          · exact K.send _ _ h
          · split
            · exact K.send _ _ h
            · exact K.startChecked a r _ _ _ _ h

theorem finishSet (c a i : Nat) (hs : Option SetHalf) (h : P s) : P (s.finishSet c a i hs) := by
  unfold State.finishSet
  split
  · exact h
  · exact K.setSlot _ _ _ (K.modHandover _ _ (fun _ e => e) h)
  · exact K.setSlot _ _ _ (K.modHandover _ _ (fun _ e => e) h)
  · exact K.setSlot _ _ _ h

theorem complete (a : Nat) (k : Handover) (h : P s) : P (s.complete a k) :=
  K.notify _ (K.setSlot _ _ _ (K.freeHandover _ h))

theorem finishLift (a : Nat) (hl : Option LiftHalf) (h : P s) : P (s.finishLift a hl) := by
  unfold State.finishLift
  split
  · exact h
  · split
    · exact K.complete a _ h
    · exact h
  · exact K.setSlot _ _ _ (K.modHandover _ _ (fun _ e => e) h)
  · exact K.setSlot _ _ _ h

theorem applyOperation (c : Nat) (o : Operation) (h : P s) : P (s.applyOperation c o) :=
  K.finishLift _ _ (K.finishSet _ _ _ _ (K.modCol c _ le_rfl h))

theorem closeOk (c : Nat) (o : Operation) (h : P s) : P (s.closeOk c o) := by
  unfold State.closeOk
  dsimp only
  split
  · exact K.clearOp c o h
  · exact K.markSettle c (K.clearOp c o h)

theorem mismatched (c : Nat) (o : Operation) (r : OpResult) (height : Nat) (tag : BinTag)
    (h : P s) : P (s.mismatched c o r height tag) := K.notify _ (K.addDiscrepancy c h)

theorem credited (c : Nat) (o : Operation) (h : P s) : P (s.credited c o) := by
  unfold State.credited
  dsimp only
  split
  · exact K.confirmStack c (K.modHandovers _ _ (fun _ _ => rfl) h)
  · exact K.modHandovers _ _ (fun _ _ => rfl) h

theorem actOn (c : Nat) (o : Operation) (height : Nat) (tag : BinTag) (r : Compare) (h : P s) :
    P (s.actOn c o height tag r) := by
  cases r with
  | credited => exact K.credited c o h
  | heightOnly => exact h
  | mismatch => exact K.mismatched c o _ _ _ h

/-- What closes both ends of an operation: the remap, the grace and the answer (04, R94, R99). -/
theorem operationEnded (c a : Nat) (m : FleetMsg) (h : P s) :
    P (((s.examineRemap c).emit.startGrace c).send a m) :=
  K.send _ _ (K.startGrace c (K.emit (K.examineRemap c h)))

theorem endOk (c : Nat) (o : Operation) (height : Nat) (tag : BinTag) (h : P s) :
    P (s.endOk c o height tag) :=
  K.operationEnded c _ _ (K.emit (K.auditEnd c _ (K.actOn c o _ _ _
    (K.closeOk c o (K.applyOperation c o h)))))

theorem endFailed (c : Nat) (o : Operation) (height : Nat) (tag : BinTag) (h : P s) :
    P (s.endFailed c o height tag) := by
  have closed : P (s.closeFailed c o) := K.clearOp c o (K.returnRecords false o h)
  refine K.operationEnded c _ _ (K.countFault c _ (K.emit (K.auditEnd c .failed ?_)))
  split
  · exact K.mismatched c o _ _ _ closed
  · exact closed

theorem takeOpEnd (a : Nat) (r : Robot) (q : Body.OpEnd) (h : P s) : P (takeOpEnd a r q s) := by
  unfold Machine.takeOpEnd
  split
  · exact K.send _ _ h
  · split
    · exact K.send _ _ h
    · split
      · exact K.send _ _ h
      · split
        · exact K.send _ _ h
        · split
          · exact K.send _ _ h
          · split
            · exact K.endOk _ _ _ _ h
            · exact K.endFailed _ _ _ _ h

/-! ### The roster -/

theorem sendAddress (a : Nat) (r : Robot) (h : P s) : P (s.sendAddress a r) := K.send _ _ h

theorem judgeElsewhere (a : Nat) (r : Robot) (t : BinTag) (h : P s) :
    P (s.judgeElsewhere a r t) := by
  unfold State.judgeElsewhere
  split
  · exact K.notify _ h
  · exact h

theorem firstAnnouncement (a : Nat) (q : Body.Announce) (h : P s) : P (s.firstAnnouncement a q) :=
  K.judgeElsewhere _ _ _ (K.notify _ (K.sendAddress _ _ (K.setRobot _ _ h)))

theorem restartCut (a : Nat) (h : P s) : P (s.restartCut a).1 := by
  unfold State.restartCut
  split
  · exact K.cutOff _ _ h
  · exact h

theorem restartCustody (r : Robot) (h : P s) : P (s.restartCustody r) := by
  unfold State.restartCustody
  split
  · exact K.modHandover _ _ (fun _ e => e) h
  · exact h

theorem restartConflict (a : Nat) (r : Robot) (t : BinTag) (h : P s) :
    P (s.restartConflict a r t) := by
  unfold State.restartConflict
  split
  · split
    · exact h
    · split
      · exact K.notify _ h
      · exact h
  · exact K.judgeElsewhere _ _ _ h

theorem takeReady (a : Nat) (r : Robot) (h : P s) : P (takeReady a r () s) := by
  unfold Machine.takeReady
  split
  · exact K.send _ _ (K.modRobot _ _ h)
  · exact K.send _ _ h
  · exact K.send _ _ h
  · exact K.send _ _ h

theorem takeAdmit (k : Byte) (a : Nat) (r : Robot) (h : P s) : P (takeAdmit k a r s).state := by
  unfold Machine.takeAdmit
  split
  · exact h
  · split
    · exact h
    · exact h
    · exact K.modRobot _ _ h
    · exact K.send _ _ (K.modRobot _ _ h)

theorem readyExpired (a : Nat) (r : Robot) (h : P s) : P (s.readyExpired a r) :=
  K.notify _ (K.sendAddress _ _ (K.setRobot _ _ h))

theorem takeLoadReport (a : Nat) (r : Robot) (t : BinTag) (h : P s) :
    P (takeLoadReport a r t s) := by
  unfold Machine.takeLoadReport
  split
  · unfold reportTracked
    split
    · exact K.send _ _ h
    · split
      · exact K.send _ _ (K.modRobot _ _ h)
      · split
        · exact K.send _ _ (K.notify _ h)
        · exact K.send _ _ h
  · unfold reportUntracked
    split
    · exact K.send _ _ h
    · exact K.send _ _ (K.judgeElsewhere _ _ _ (K.setSlot _ _ _ h))

theorem takeDropOff (a : Nat) (r : Robot) (h : P s) : P (takeDropOff a r () s) := by
  unfold Machine.takeDropOff
  split
  · exact K.send _ _ h
  · split
    · exact K.send _ _ h
    · exact K.send _ _ (K.setSlot _ _ _ h)

theorem takeDismiss (a : Nat) (r : Robot) (h : P s) : P (takeDismiss a r s).state := by
  unfold Machine.takeDismiss
  split
  · exact h
  · split
    · exact h
    · exact K.setRobot _ _ (K.modHandovers _ _ (fun k _ => Handover.number_takerGone k)
        (K.send _ _ h))

/-! ### The audit unit -/

theorem advance (c : Nat) (h : P s) : P (s.advance c) := K.audit _ h

theorem makeCall (c : Nat) (h : P s) : P (s.makeCall c) :=
  K.notify _ (K.audit _ (K.setAudit c _ _ h))

theorem examine (c : Nat) (h : P s) : P (s.examine c) := by
  unfold State.examine
  split
  · exact K.advance c (K.setAudit c _ _ h)
  · split
    · exact K.advance c h
    · split
      · exact K.advance c (K.notify _ (K.setAudit c _ _ h))
      · exact K.makeCall c h

theorem tickExpired (h : P s) : P s.tickExpired := by
  refine K.startTick ?_
  unfold State.tickByState
  split
  · exact K.audit _ h
  · split
    · exact K.examine _ h
    · exact h
  · exact h
  · exact h

theorem callExpired (c : Nat) (h : P s) : P (s.callExpired c) := by
  unfold State.callExpired
  split
  · exact K.emit (K.failCall c _ h)
  · exact K.audit _ h

/-! ### Recovery -/

theorem takeOut (c : Nat) (k : Handover) (h : P s) : P (State.takeOut c s k) := by
  unfold Machine.State.takeOut
  split
  · split
    · exact h
    · exact K.addDiscrepancy _ (K.placeEntries _ (K.modCol _ _ le_rfl h))
  · exact K.setSlot _ _ _ h
  · exact h

theorem reconcileAudit (c : Nat) (h : P s) : P (s.reconcileAudit c) := by
  unfold State.reconcileAudit
  dsimp only
  split
  · exact K.endCall c (K.setAudit c _ _ h)
  · exact K.setAudit c _ _ h

theorem writeList (c : Nat) (ts : List BinTag) (h : P s) : P (s.writeList c ts) :=
  K.modHandovers _ _ (fun _ _ => rfl) (K.modCol c _ le_rfl h)

theorem rewritten (c : Nat) (ts : List BinTag) (h : P s) : P (s.rewritten c ts) := by
  refine K.judgeColumn c (K.markSettle c (K.reconcileAudit c (K.confirmStack c (K.writeList c ts
    (foldl_keeps P _ _ _ (K.modHandovers _ _ (fun _ _ => rfl) h) fun _ k _ ht => ?_)))))
  exact K.takeOut c k ht

theorem takeReconcile (q : Nat × List BinTag) (h : P s) : P (takeReconcile q s).state := by
  unfold Machine.takeReconcile
  split
  · exact h
  · split
    · exact h
    · have remapped : P (s.reconcileNoted q.1 q.2).1 := K.examineRemaps _ (K.rewritten _ _ h)
      dsimp only
      exact K.emit remapped

theorem releaseFreeze (z : Nat) (cs : List Nat) (h : P s) : P (s.releaseFreeze z cs).state := by
  have removed : P (cs.foldl State.removeZoneCause s) :=
    foldl_keeps P _ _ _ h fun _ c _ ht => K.removeZoneCause c ht
  unfold State.releaseFreeze
  dsimp only
  split
  · exact h
  · split
    · exact removed
    · exact removed

theorem takeReleaseFreeze (q : Body.FreezeTarget) (h : P s) : P (takeReleaseFreeze q s).state := by
  unfold Machine.takeReleaseFreeze
  split
  · split
    · exact h
    · exact K.releaseFreeze _ _ h
  · split
    · exact h
    · exact K.releaseFreeze _ _ h

end BlockKept

end Sys2Proof.Machine
end

section
/-! PROOFS. An invariant of the steps: what the parts of the commands keep, every step keeps. -/

namespace Sys2Proof.Machine

/-- `P` holds between commands and `Q` while a request is taken, its reply not yet made: what their
parts must keep for every step to keep `P`. The single writes of the blocks and the operations of the
zone controller stand beside the parts that write fields of their own. -/
structure StepInvariant (P Q : State → Prop) : Prop where
  blocks : BlockKept P
  taken : BlockKept Q
  -- the link unit
  startTx : ∀ {s : State}, P s → P s.startTx
  discardControl : ∀ {s : State}, P s → P s.discardControl
  discardFleet : ∀ {s : State}, P s → P s.discardFleet
  overflowed : ∀ {s : State} (k : Byte) (tag : Word16), P s → P (s.overflowed k tag)
  receive : ∀ {s : State} (r : HostRequest),
    s.link.received.length < Config.receiveCap → P s → Q (s.receive r)
  reply : ∀ {s : State} (r : Reply), r.overflow = false → Q s → P (s.reply r)
  rehunt : ∀ {s : State} (l : LinkId), P s → P ((s.rehunt l).discards l 1)
  controlFrameSent : ∀ {s t : State}, P s → execControlFrameSent s = .next t → P t
  fleetFrameSent : ∀ {s : State}, P s → P (s.modLink fun l => { l with fleet := l.fleet.drop 1 })
  status : ∀ {s : State}, Q s → Q (s.modLink fun l => { l with overrun := false, lost := 0 })
  -- configuration and the resets
  params : ∀ {s : State} (p : Params), Q s → Q { s with params := p }
  lockFlag : ∀ {s : State} (g : Nat) (set : Bool),
    Q s → Q { s with lockFlags := updateAt s.lockFlags g fun _ => set }
  committed : ∀ {s : State}, Q s → Q s.committed
  sectionReset : ∀ {s : State}, Q s → Q s.sectionReset
  afterReset : ∀ (pins : PinLevels) (p : List Instr) (k : Nat), P (State.afterReset pins p k)
  -- handovers, grants and zones
  openOn : ∀ {s : State} (q : Body.OpenHandover) (c : Nat),
    s.handovers.length < Config.handoverCap → Q s → Q (s.openOn q c)
  queueRequest : ∀ {s : State} (c a : Nat) (k : Cls),
    (s.col c).waits.length < Config.waitCap → P s → P (s.queueRequest c a k)
  endGrant : ∀ {s : State} (c : Nat), P s → P (s.endGrant c)
  modeRequest : ∀ {s : State} (tag : Word16) (b : Quad Byte),
    Q s → Q (takeModeRequest tag b s).state
  modeCancel : ∀ {s : State}, Q s → Q (takeModeCancel s).state
  takeAck : ∀ {s : State} (z : Fin 4) (m : Mode), P s → P (s.takeAck z m)
  judgeEcho : ∀ {s : State}, P s → P s.judgeEcho
  failTransition : ∀ {s : State} (t : Transition), P s → P (s.failTransition t)
  takeGridHold : ∀ {s : State} (b : Bool), P s → P (s.takeGridHold b)
  assertHold : ∀ {s : State}, P s → P s.assertHold
  releaseHold : ∀ {s : State}, P s → P s.releaseHold
  -- the model's own fields and the time base
  pending : ∀ {s : State} (p : List Instr), P s → P { s with pending := p }
  choices : ∀ {s : State} (k : Nat), P s → P { s with choices := k }
  tick : ∀ {s : State}, P s → P s.tick

/-- A step whose effect is given: the next state is that one. -/
theorem eq_of_next {s t : State} (e : (.next s : Result) = .next t) : s = t := by
  cases e
  rfl

/-! ### Queries change nothing of their own -/

section
variable {P : State → Prop} {s : State}

theorem takeQueryHandover_keeps (q : Body.HandoverRef) (h : P s) :
    P (takeQueryHandover q s).state := by
  unfold takeQueryHandover
  split
  · exact h
  · split <;> exact h

theorem takeListHandovers_keeps (q : Body.ListHandovers) (h : P s) :
    P (takeListHandovers q s).state := by
  unfold takeListHandovers
  split
  · exact h
  · split <;> exact h

theorem takeQueryColumn_keeps (c : Nat) (h : P s) :
    P (takeQueryColumn c s).state := by
  unfold takeQueryColumn
  split <;> exact h

theorem takeQueryXp_keeps (x : Nat) (h : P s) :
    P (takeQueryXp x s).state := by
  unfold takeQueryXp
  split <;> exact h

end

namespace StepInvariant
variable {P Q : State → Prop} (I : StepInvariant P Q) {s t : State}
include I

/-! ### The shapes of commands -/

theorem hostRequest {k : Byte} {tag : Word16} {body : List Byte} {take : State → Answer}
    (h : P s) (e : hostRequest k tag body take s = .next t)
    (ht : ∀ u, Q u → Q (take u).state) : P t := by
  unfold Machine.hostRequest at e
  split at e
  · exact eq_of_next e ▸ I.startTx (I.discardControl h)
  · split at e
    · exact eq_of_next e ▸ I.startTx (I.overflowed k tag h)
    · rename_i room
      exact eq_of_next e ▸
        I.startTx (I.reply _ rfl (ht _ (I.receive _ (Nat.lt_of_not_le room) h)))

/-- A request whose body is decoded before it is taken. -/
theorem bodyRequest {α : Type} {d : Decoded α} {k : Byte} {tag : Word16} {body : List Byte}
    {take : α → State → Answer} (h : P s)
    (e : Machine.hostRequest k tag body (withBody d take) s = .next t)
    (ht : ∀ a u, Q u → Q (take a u).state) : P t :=
  I.hostRequest h e fun _ hu => withBody_keeps ht d hu

/-- A request that is taken in RUNNING alone. -/
theorem runningRequest {α : Type} {d : Decoded α} {k : Byte} {tag : Word16} {body : List Byte}
    {take : α → State → Answer} (h : P s)
    (e : Machine.hostRequest k tag body (withBody d fun a => inRunning (take a)) s = .next t)
    (ht : ∀ a u, Q u → Q (take a u).state) : P t :=
  I.hostRequest h e fun _ hu => withBody_inRunning_keeps ht d hu

theorem robotFrame {α : Type} {addr : Byte} {d : Decoded α}
    {take : Nat → Robot → α → State → State} (h : P s)
    (e : robotFrame addr d take s = .next t) (ht : ∀ a r q, P (take a r q s)) : P t := by
  unfold Machine.robotFrame at e
  split at e
  · exact eq_of_next e ▸ I.startTx (I.discardFleet h)
  · split at e
    · exact eq_of_next e ▸ I.startTx (I.blocks.send _ _ h)
    · exact eq_of_next e ▸ I.startTx (ht _ _ _)

theorem event {f : State → State} (e : event f s = .next t) (hf : P (f s)) : P t :=
  eq_of_next e ▸ I.startTx hf

/-- An event that happens where a condition holds, nothing happening elsewhere. -/
theorem eventIf {p : Prop} [Decidable p] {f : State → State} (h : P s)
    (e : (if p then Machine.event f s else .next s) = .next t) (hf : P (f s)) : P t := by
  split at e
  · exact I.event e hf
  · exact eq_of_next e ▸ h

/-! ### Robot frames -/

theorem takeGrantReq (a : Nat) (r : Robot) (q : Nat × Byte) (h : P s) :
    P (takeGrantReq a r q s) := by
  have refused : ∀ m, P (s.send a m) := fun m => I.blocks.send a m h
  unfold Machine.takeGrantReq
  split
  · exact refused _
  · split
    · exact refused _
    · split
      · exact refused _
      · split
        · exact refused _
        · split
          · exact refused _
          · split
            · exact refused _
            · unfold State.decideGrant
              split
              · exact I.blocks.makeGrant _ _ _ h
              · split
                · exact refused _
                · exact I.queueRequest _ _ _ (Nat.lt_of_not_le ‹_›) h

theorem takeRelease (a : Nat) (r : Robot) (c : Nat) (h : P s) : P (takeRelease a r c s) := by
  have refused : ∀ m, P (s.send a m) := fun m => I.blocks.send a m h
  unfold Machine.takeRelease
  split
  · exact refused _
  · split
    · exact refused _
    · split
      · exact refused _
      · exact I.blocks.handOn c (I.endGrant c (refused _))

theorem restartGrant (a : Nat) (h : P s) : P (s.restartGrant a) := by
  unfold State.restartGrant
  split
  · exact I.blocks.handOn _ (I.endGrant _ h)
  · split
    · exact I.blocks.removeWait _ a h
    · exact h

theorem restart (a : Nat) (r : Robot) (q : Body.Announce) (h : P s) : P (s.restart a r q) := by
  have K := I.blocks
  have told := K.notifyAll (s.restartNotice a r q :: (s.restartCut a).2) (K.restartCut a h)
  exact K.sendAddress _ _ (K.restartConflict _ _ _ (K.setRobot _ _ (K.restartCustody r
    (I.restartGrant a told))))

theorem takeAnnounce (q : Body.Announce) (h : P s) : P (takeAnnounce q s) := by
  unfold Machine.takeAnnounce
  split
  · exact I.blocks.send _ _ h
  · split
    · exact I.blocks.send _ _ h
    · split
      · split
        · unfold State.knownAnnouncement
          split
          · exact I.blocks.sendAddress _ _ h
          · exact I.restart _ _ _ h
        · exact h
      · split
        · exact I.blocks.firstAnnouncement _ q h
        · exact I.blocks.send _ _ h

theorem execAnnounce {addr : Byte} {body : List Byte} (h : P s)
    (e : execAnnounce addr body s = .next t) : P t := by
  unfold Machine.execAnnounce at e
  split at e
  · exact I.event e (I.discardFleet h)
  · exact I.event e (I.takeAnnounce _ h)

/-! ### Requests -/

theorem takeSetParameters (vs : List (Option Nat)) (h : Q s) : Q (takeSetParameters vs s).state := by
  unfold Machine.takeSetParameters
  split
  · exact h
  · split
    · exact h
    · exact I.params _ h

theorem takeCommit (h : Q s) : Q (takeCommit () s).state := by
  unfold Machine.takeCommit
  split
  · exact h
  · split
    · exact h
    · exact I.committed h

theorem takeLock (set : Bool) (g : Nat) (h : Q s) : Q (takeLock set g s).state := by
  unfold Machine.takeLock
  split
  · exact h
  · exact I.lockFlag g set h

theorem takeOpenHandover (q : Body.OpenHandover) (h : Q s) : Q (takeOpenHandover q s).state := by
  unfold Machine.takeOpenHandover
  split
  · exact h
  · rename_i noProblem
    have room : s.handovers.length < Config.handoverCap := by
      unfold State.openProblem at noProblem
      split at noProblem
      · contradiction
      · split at noProblem
        · contradiction
        · split at noProblem
          · contradiction
          · exact Nat.lt_of_not_le ‹_›
    split
    · exact h
    · exact I.openOn q _ room h

theorem execRequestRejected {kind : Byte} {tag : Word16} {body : List Byte} (h : P s)
    (e : execRequestRejected kind tag body s = .next t) : P t := by
  unfold Machine.execRequestRejected at e
  split at e
  · exact eq_of_next e ▸ h
  · exact I.hostRequest h e (fun _ hu => hu)

theorem execRequestOverflow {kind : Byte} {tag : Word16} (h : P s)
    (e : execRequestOverflow kind tag s = .next t) : P t := by
  unfold Machine.execRequestOverflow at e
  split at e
  · exact eq_of_next e ▸ I.startTx (I.discardControl h)
  · split at e
    · exact eq_of_next e ▸ I.startTx (I.overflowed _ _ h)
    · exact eq_of_next e ▸ h

theorem execFleetUnknownKind {addr kind : Byte} (h : P s)
    (e : execFleetUnknownKind addr kind s = .next t) : P t := by
  unfold Machine.execFleetUnknownKind at e
  split at e
  · exact eq_of_next e ▸ h
  · exact I.robotFrame h e (fun _ _ _ => I.blocks.send _ _ h)

/-! ### Expiries and pins -/

theorem graceExpired (c : Nat) (g : Grant) (h : P s) : P (s.graceExpired c g) := by
  have K := I.blocks
  exact K.handOn c (K.notify _ (K.notify _ (K.addSuspect c (I.endGrant c (K.loseRobot _ h)))))

theorem limitExpired (c : Nat) (o : Operation) (h : P s) : P (s.limitExpired c o) := by
  have K := I.blocks
  exact K.handOn c (K.notifyAll _ (I.endGrant c (K.loseRobot _ (K.cutOff c _ h))))

theorem execStageExpired {n : Nat} (h : P s) (e : execStageExpired n s = .next t) : P t := by
  unfold Machine.execStageExpired at e
  split at e
  · exact I.eventIf h e (I.blocks.expireStage _ h)
  · exact eq_of_next e ▸ h

theorem execRelocationOverdue {n : Nat} (h : P s) (e : execRelocationOverdue n s = .next t) :
    P t := by
  unfold Machine.execRelocationOverdue at e
  split at e
  · exact I.eventIf h e (I.blocks.expireRelocation _ h)
  · exact eq_of_next e ▸ h

theorem execCollectExpired {n : Nat} (h : P s) (e : execCollectExpired n s = .next t) : P t := by
  unfold Machine.execCollectExpired at e
  split at e
  · exact I.eventIf h e (I.blocks.expireCollect _ h)
  · exact eq_of_next e ▸ h

theorem execHoldLimitExpiry {c : Nat} (h : P s) (e : execHoldLimitExpiry c s = .next t) : P t := by
  unfold Machine.execHoldLimitExpiry at e
  split at e
  · exact I.eventIf h e (I.blocks.revoke c _ h)
  · exact eq_of_next e ▸ h

theorem execReleaseGraceExpiry {c : Nat} (h : P s) (e : execReleaseGraceExpiry c s = .next t) :
    P t := by
  unfold Machine.execReleaseGraceExpiry at e
  split at e
  · exact I.eventIf h e (I.graceExpired c _ h)
  · exact eq_of_next e ▸ h

theorem execOperationLimitExpiry {c : Nat} (h : P s)
    (e : execOperationLimitExpiry c s = .next t) : P t := by
  unfold Machine.execOperationLimitExpiry at e
  split at e
  · exact I.eventIf h e (I.limitExpired c _ h)
  · exact eq_of_next e ▸ h

theorem execReadyLimitExpiry {a : Nat} (h : P s) (e : execReadyLimitExpiry a s = .next t) :
    P t := by
  unfold Machine.execReadyLimitExpiry at e
  split at e
  · exact I.eventIf h e (I.blocks.readyExpired a _ h)
  · exact eq_of_next e ▸ h

theorem execCallLimitExpiry (h : P s) (e : execCallLimitExpiry s = .next t) : P t := by
  unfold Machine.execCallLimitExpiry at e
  split at e
  · split at e
    · exact I.event e (I.blocks.callExpired _ h)
    · exact eq_of_next e ▸ h
  · exact eq_of_next e ▸ h

theorem execInterlockLimitExpiry (h : P s) (e : execInterlockLimitExpiry s = .next t) : P t := by
  unfold Machine.execInterlockLimitExpiry at e
  split at e
  · exact eq_of_next e ▸ h
  · exact I.eventIf h e (I.failTransition _ h)

theorem execHardwareReset {cause : ResetCause} {pins : PinLevels} (h : P s)
    (e : execHardwareReset cause pins s = .next t) : P t := by
  unfold Machine.execHardwareReset at e
  split at e
  · exact eq_of_next e ▸ I.afterReset _ _ _
  · exact eq_of_next e ▸ I.afterReset _ _ _
  · split at e
    · exact eq_of_next e ▸ I.afterReset _ _ _
    · exact eq_of_next e ▸ I.choices _ h

/-! ### Every command and every step -/

theorem exec (i : Instr) (h : P s) (e : exec i s = .next t) : P t := by
  have K := I.blocks
  have T := I.taken
  cases i <;> simp only [Machine.exec] at e
  -- host requests
  case setParameters => exact I.bodyRequest h e (fun vs _ hu => I.takeSetParameters vs hu)
  case defineColumn => exact I.bodyRequest h e (fun q _ hu => T.takeDefineColumn q hu)
  case mapXp => exact I.bodyRequest h e (fun q _ hu => T.takeMapXp q hu)
  case commit => exact I.bodyRequest h e (fun _ _ hu => I.takeCommit hu)
  case resetSection =>
    refine I.runningRequest h e fun _ u hu => ?_
    dsimp only
    exact I.sectionReset hu
  case admitRobot =>
    exact I.runningRequest h e
      (fun q _ hu => onRobot_keeps (P := Q) q.1 (fun a r _ hv => T.takeAdmit q.2 a r hv) hu)
  case dismiss =>
    exact I.runningRequest h e
      (fun q _ hu => onRobot_keeps (P := Q) q (fun a r _ hv => T.takeDismiss a r hv) hu)
  case queryRobot =>
    exact I.bodyRequest h e (fun q _ hu => onRobot_keeps (P := Q) q (fun _ _ _ hv => hv) hu)
  case openHandover => exact I.runningRequest h e (fun q _ hu => I.takeOpenHandover q hu)
  case assignTaker =>
    exact I.runningRequest h e
      (fun q _ hu => onHandover_keeps (P := Q) q.1 (fun k _ _ hv => T.takeAssignTaker q.2 k hv) hu)
  case cancelHandover =>
    exact I.runningRequest h e
      (fun n _ hu => onHandover_keeps (P := Q) n (fun k _ _ hv => T.takeCancelHandover k hv) hu)
  case releaseTracking =>
    exact I.runningRequest h e
      (fun n _ hu => onHandover_keeps (P := Q) n (fun k _ _ hv => T.takeReleaseTracking k hv) hu)
  case queryHandover => exact I.bodyRequest h e (fun q _ hu => takeQueryHandover_keeps q hu)
  case listHandovers => exact I.bodyRequest h e (fun q _ hu => takeListHandovers_keeps q hu)
  case lockGroup => exact I.runningRequest h e (fun g _ hu => I.takeLock true g hu)
  case unlockGroup => exact I.runningRequest h e (fun g _ hu => I.takeLock false g hu)
  case retireColumn => exact I.runningRequest h e (fun c _ hu => T.takeRetireColumn c hu)
  case reconcileColumn => exact I.runningRequest h e (fun q _ hu => T.takeReconcile q hu)
  case releaseFreeze => exact I.runningRequest h e (fun q _ hu => T.takeReleaseFreeze q hu)
  case queryColumn => exact I.bodyRequest h e (fun c _ hu => takeQueryColumn_keeps c hu)
  case queryXp => exact I.bodyRequest h e (fun x _ hu => takeQueryXp_keeps x hu)
  case modeRequest tag _ => exact I.runningRequest h e (fun b _ hu => I.modeRequest tag b hu)
  case modeCancel => exact I.runningRequest h e (fun _ _ hu => I.modeCancel hu)
  case queryZones => exact I.bodyRequest h e (fun _ _ hu => hu)
  case status => exact I.bodyRequest h e (fun _ _ hu => I.status hu)
  -- link events
  case requestRejected => exact I.execRequestRejected h e
  case requestOverflow => exact I.execRequestOverflow h e
  case controlFrameDiscard => exact I.event e (I.discardControl h)
  case frameTimeout link => exact I.eventIf h e (I.rehunt link h)
  case controlFrameSent => exact I.controlFrameSent h e
  case fleetFrameDiscard => exact I.event e (I.discardFleet h)
  case fleetUnknownKind => exact I.execFleetUnknownKind h e
  case fleetFrameSent => exact I.event e (I.fleetFrameSent h)
  -- robot frames
  case announce => exact I.execAnnounce h e
  case ready => exact I.robotFrame h e (fun a r _ => K.takeReady a r h)
  case loadReport => exact I.robotFrame h e (fun a r t => K.takeLoadReport a r t h)
  case dropOff => exact I.robotFrame h e (fun a r _ => K.takeDropOff a r h)
  case grantReq => exact I.robotFrame h e (fun a r q => I.takeGrantReq a r q h)
  case withdraw => exact I.robotFrame h e (fun a r c => K.takeWithdraw a r c h)
  case release => exact I.robotFrame h e (fun a r c => I.takeRelease a r c h)
  case opStart => exact I.robotFrame h e (fun a r q => K.takeOpStart a r q h)
  case opEnd => exact I.robotFrame h e (fun a r q => K.takeOpEnd a r q h)
  case faultReport => exact I.robotFrame h e (fun a r q => K.takeFaultReport a r q h)
  -- timers and pins
  case stageExpired => exact I.execStageExpired h e
  case relocationOverdue => exact I.execRelocationOverdue h e
  case collectExpired => exact I.execCollectExpired h e
  case holdLimitExpiry => exact I.execHoldLimitExpiry h e
  case releaseGraceExpiry => exact I.execReleaseGraceExpiry h e
  case operationLimitExpiry => exact I.execOperationLimitExpiry h e
  case readyLimitExpiry => exact I.execReadyLimitExpiry h e
  case auditTick => exact I.eventIf h e (K.tickExpired h)
  case callLimitExpiry => exact I.execCallLimitExpiry h e
  case zoneAckChange => exact I.eventIf h e (I.judgeEcho (I.takeAck _ _ h))
  case interlockLimitExpiry => exact I.execInterlockLimitExpiry h e
  case gridHoldAsserted => exact I.eventIf h e (I.assertHold (I.takeGridHold true h))
  case gridHoldReleased => exact I.eventIf h e (I.releaseHold (I.takeGridHold false h))
  case hardwareReset => exact I.execHardwareReset h e

/-- Every step keeps an invariant of the steps. -/
theorem step (h : P s) (e : step s = .next t) : P t := by
  unfold Machine.step at e
  split at e
  · exact eq_of_next e ▸ I.tick h
  · exact I.exec _ (I.pending _ h) e

end StepInvariant

end Sys2Proof.Machine
end

section
/-! PROOFS. The driven modes agree with the current modes and the transition at every step
(08, R155). -/

namespace Sys2Proof.Machine

/-! ### The agreement rests on the zone controller alone -/

/-- The agreement of the modes, closed against evaluation: `State.ModesAgree` is a match on the state's
transition, which an operation as large as the beginning of the hold must not be run to decide. -/
structure State.InAgreement (s : State) : Prop where
  agrees : s.ModesAgree

theorem State.InAgreement.of_zones {s t : State} (h : s.InAgreement) (e : t.zones = s.zones) :
    t.InAgreement := by
  have agrees := h.agrees
  refine ⟨?_⟩
  unfold State.ModesAgree at agrees ⊢
  rw [e]
  exact agrees

/-- The agreement does not rest on the levels that the lines carry. -/
theorem State.InAgreement.of_lines {s t : State} (h : s.InAgreement) (ack : Quad Mode) (hold : Bool)
    (e : t.zones = { s.zones with ack := ack, hold := hold }) : t.InAgreement := by
  have agrees := h.agrees
  refine ⟨?_⟩
  unfold State.ModesAgree at agrees ⊢
  rw [e]
  exact agrees

/-- The blocks other than the zone controller leave its record as it is. -/
theorem zones_blockKept (q : ZoneCtl) : BlockKept fun t => t.zones = q where
  modCol _ _ _ h := h
  modHandovers _ _ _ h := h
  freeHandover _ h := h
  setXp _ _ h := h
  modRobot _ _ h := by simpa using h
  setRobot _ _ h := by simpa using h
  audit _ h := h
  notify _ h := h
  send _ _ h := h

theorem inAgreement_blockKept : BlockKept State.InAgreement where
  modCol _ _ _ h := h.of_zones rfl
  modHandovers _ _ _ h := h.of_zones rfl
  freeHandover _ h := h.of_zones rfl
  setXp _ _ h := h.of_zones rfl
  modRobot _ _ h := h.of_zones (by simp)
  setRobot _ _ h := h.of_zones (by simp)
  audit _ h := h.of_zones rfl
  notify _ h := h.of_zones rfl
  send _ _ h := h.of_zones rfl

/-- With no transition and no hold pending the driven modes are the current ones (08, R155). -/
theorem State.inAgreement_of_none {s : State} (trans : s.zones.trans = none)
    (driven : s.zones.driven = s.zones.current) (pending : s.zones.holdPending = false) :
    s.InAgreement := by
  refine ⟨?_⟩
  unfold State.ModesAgree
  rw [trans]
  exact ⟨driven, pending⟩

theorem State.inAgreement_of_some {s : State} (t : Transition) (trans : s.zones.trans = some t)
    (agrees : t.agrees s.zones) : s.InAgreement := by
  refine ⟨?_⟩
  unfold State.ModesAgree
  rw [trans]
  exact agrees

theorem State.InAgreement.none {s : State} (h : s.InAgreement) (trans : s.zones.trans = .none) :
    s.zones.driven = s.zones.current ∧ s.zones.holdPending = false := by
  have agrees := h.agrees
  unfold State.ModesAgree at agrees
  rwa [trans] at agrees

theorem State.InAgreement.some {s : State} {t : Transition} (h : s.InAgreement)
    (trans : s.zones.trans = .some t) : t.agrees s.zones := by
  have agrees := h.agrees
  unfold State.ModesAgree at agrees
  rwa [trans] at agrees

/-- A transition in WAITING is a NORMAL one, and the driven modes are the current ones (08, R155). -/
theorem Transition.agrees_waiting {t : Transition} {q : ZoneCtl} (h : t.agrees q)
    (state : t.state = .waiting) :
    t.kind = .normal ∧ q.driven = q.current ∧ t.limit = none ∧ q.holdPending = false := by
  unfold Transition.agrees at h
  rw [state] at h
  cases k : t.kind <;> simp_all

/-- Outside CHANGING the driven modes are the current ones and no hold is pending (08, R155). -/
theorem State.InAgreement.settled {s : State} (h : s.InAgreement)
    (still : s.zones.trans.map (·.state) ≠ .some .changing) :
    s.zones.driven = s.zones.current ∧ s.zones.holdPending = false := by
  cases e : s.zones.trans with
  | none => exact h.none e
  | some t =>
    cases st : t.state with
    | changing => simp [e, st] at still
    | waiting =>
      obtain ⟨-, driven, -, pending⟩ := Transition.agrees_waiting (h.some e) st
      exact ⟨driven, pending⟩

namespace State
variable (s : State)

/-! ### What a transition's end leaves in the zone controller -/

theorem completeHold_zones :
    s.completeHold.zones = { s.zones with current := Quad.same .closed, trans := none } := by
  have frozen : ∀ (l : List Nat) (u : State), (l.foldl addZoneCause u).zones = u.zones := fun l u =>
    foldl_keeps (fun v : State => v.zones = u.zones) _ _ _ rfl fun _ c _ h =>
      (zones_blockKept _).addZoneCause c h
  simp only [completeHold, notify_zones, modZones_zones, frozen]

theorem completeHold_inAgreement (driven : s.zones.driven = Quad.same .closed)
    (pending : s.zones.holdPending = false) : s.completeHold.InAgreement := by
  apply inAgreement_of_none <;> rw [completeHold_zones]
  · exact driven
  · exact pending

/-- Once the hold has begun every zone is driven CLOSED (08, R168). -/
theorem beginHold_inAgreement : s.beginHold.InAgreement := by
  have cleared : ∀ u : State, (forUpTo Config.columnCount holdColumn u).zones = u.zones := fun u =>
    foldl_keeps (fun v : State => v.zones = u.zones) _ _ _ rfl fun _ c _ h =>
      (zones_blockKept _).holdColumn c h
  unfold beginHold
  dsimp only
  split
  · apply completeHold_inAgreement <;> simp [judgeAll, cleared]
  · refine inAgreement_of_some (⟨.changing, .hold, Quad.same .closed, Quad.same 0, .hold, false,
      none⟩) ?_ ?_ <;> simp [judgeAll, cleared, Transition.agrees]

/-- After a NORMAL transition has ended, a pending hold begins or nothing is left of it (08, R167). -/
theorem afterNormal_inAgreement (trans : s.zones.trans = none)
    (driven : s.zones.driven = s.zones.current) : s.afterNormal.InAgreement := by
  unfold afterNormal
  split
  · exact s.beginHold_inAgreement
  · exact inAgreement_of_none trans driven (Bool.not_eq_true _ ▸ ‹¬_›)

theorem zones_foldl_handOnZone (l : List Nat) : (l.foldl handOnZone s).zones = s.zones :=
  foldl_keeps (fun v : State => v.zones = s.zones) _ _ _ rfl fun _ z _ h => (zones_blockKept _).handOnZone z h

theorem zones_foldl_judgeZone (l : List Nat) : (l.foldl judgeZone s).zones = s.zones :=
  foldl_keeps (fun v : State => v.zones = s.zones) _ _ _ rfl fun _ z _ h => (zones_blockKept _).judgeZone z h

theorem zones_foldl_closeZone (l : List Nat) : (l.foldl closeZone s).zones = s.zones :=
  foldl_keeps (fun v : State => v.zones = s.zones) _ _ _ rfl fun _ z _ h => (zones_blockKept _).closeZone z h

theorem succeed_inAgreement (t : Transition) (driven : s.zones.driven = t.targets) :
    (s.succeed t).InAgreement := by
  apply afterNormal_inAgreement <;>
    simp only [notify_zones, modZones_zones, zones_foldl_handOnZone, zones_foldl_judgeZone,
      zones_foldl_closeZone]
  exact driven

theorem failTransition_inAgreement (t : Transition) : (s.failTransition t).InAgreement := by
  apply afterNormal_inAgreement <;>
    simp only [notify_zones, modZones_zones, zones_foldl_handOnZone, zones_foldl_judgeZone]

/-! ### The way into and out of a transition -/

theorem judgeEcho_inAgreement (h : s.InAgreement) : s.judgeEcho.InAgreement := by
  unfold judgeEcho
  split
  · exact h
  · rename_i t trans
    split
    · rename_i changing
      have state : t.state = .changing := by simpa using (Bool.and_eq_true_iff.mp changing).1
      have agrees := h.some trans
      unfold Transition.agrees at agrees
      rw [state] at agrees
      cases kind : t.kind with
      | normal =>
        rw [kind] at agrees
        exact s.succeed_inAgreement t agrees.1
      | hold =>
        rw [kind] at agrees
        obtain ⟨driven, closed, -, pending⟩ := agrees
        exact s.completeHold_inAgreement (driven.trans closed) pending
    · exact h

/-- CHANGING of a NORMAL transition drives its targets (08, R163). -/
theorem enterChanging_inAgreement (t : Transition) (normal : t.kind = .normal) :
    (s.enterChanging t).InAgreement := by
  apply judgeEcho_inAgreement
  refine inAgreement_of_some ({ t with
    state := .changing, forbidden := Quad.same 0, limit := some s.params.interlockLimit }) ?_ ?_
  · rw [zones_foldl_judgeZone, modZones_zones]
  · rw [zones_foldl_judgeZone, modZones_zones]
    simp [Transition.agrees, normal]

theorem checkWaiting_inAgreement (t : Transition) (normal : t.kind = .normal) (h : s.InAgreement) :
    (s.checkWaiting t).InAgreement := by
  unfold checkWaiting
  split
  · exact s.enterChanging_inAgreement t normal
  · exact h

theorem enterWaiting_inAgreement (t : Transition) (normal : t.kind = .normal)
    (limit : t.limit = none) (driven : s.zones.driven = s.zones.current)
    (pending : s.zones.holdPending = false) : (s.enterWaiting t).InAgreement := by
  have revoked : ∀ (l : List Nat) (u : State),
      (l.foldl (fun v c => v.revoke c .zoneMode) u).zones = u.zones := fun l u =>
    foldl_keeps (fun v : State => v.zones = u.zones) _ _ _ rfl fun _ c _ h =>
      (zones_blockKept _).revoke c _ h
  unfold enterWaiting
  refine checkWaiting_inAgreement _ _ normal (inAgreement_of_some { t with
    state := .waiting
    forbidden := Quad.ofFn fun z =>
      (if s.tightens t z then s.forbiddenHolders z (t.targets.get z) else []).length } ?_ ?_)
  · rw [revoked, modZones_zones]
  · rw [revoked, modZones_zones]
    simp [Transition.agrees, normal, limit, driven, pending]

theorem reportGrantEnd_inAgreement (c : Nat) (k : Cls) (h : s.InAgreement) :
    (s.reportGrantEnd c k).InAgreement := by
  unfold reportGrantEnd
  split
  · exact h
  · rename_i t trans
    split
    · rename_i waits
      have state : t.state = .waiting := by simpa using (Bool.and_eq_true_iff.mp waits).1
      obtain ⟨normal, driven, limit, pending⟩ := Transition.agrees_waiting (h.some trans) state
      have counted : ∀ u : Transition, u.state = .waiting → u.kind = .normal → u.limit = none →
          ((s.modZones fun q => { q with trans := some u }).checkWaiting u).InAgreement := by
        intro u hs hn hl
        refine checkWaiting_inAgreement _ u hn (inAgreement_of_some u rfl ?_)
        simp [Transition.agrees, hs, hn, hl, driven, pending]
      dsimp only
      split
      · exact counted t state normal limit
      · exact counted _ state normal limit
    · exact h

theorem endGrant_inAgreement (c : Nat) (h : s.InAgreement) : (s.endGrant c).InAgreement := by
  unfold endGrant
  split
  · exact h
  · exact reportGrantEnd_inAgreement _ c _ (h.of_zones rfl)

/-! ### Mode requests -/

theorem handOnLoosened_zones (before : State) : (s.handOnLoosened before).zones = s.zones :=
  (zones_blockKept _).handOnLoosened before rfl

theorem dropWaiting_inAgreement (driven : s.zones.driven = s.zones.current)
    (pending : s.zones.holdPending = false) : s.dropWaiting.InAgreement := by
  apply inAgreement_of_none <;> rw [dropWaiting, handOnLoosened_zones, modZones_zones]
  · exact driven
  · exact pending

theorem modeRequested_inAgreement (tag : Word16) (q : Quad Mode)
    (driven : s.zones.driven = s.zones.current) (pending : s.zones.holdPending = false) :
    (s.modeRequested tag q).InAgreement := by
  unfold modeRequested
  split
  · split
    · exact s.dropWaiting_inAgreement driven pending
    · exact enterChanging_inAgreement _ _ rfl
  · split
    · have zones : ∀ t, (s.installTransition t).zones = { s.zones with trans := some t } := fun t => by
        rw [installTransition, handOnLoosened_zones, modZones_zones]
      refine enterWaiting_inAgreement _ _ rfl rfl ?_ ?_
      · simp only [zones, driven]
      · simp only [zones, pending]
    · exact enterChanging_inAgreement _ _ rfl

end State

theorem takeModeRequest_inAgreement (tag : Word16) (b : Quad Byte) (s : State) (h : s.InAgreement) :
    (takeModeRequest tag b s).state.InAgreement := by
  unfold takeModeRequest
  split
  · exact h
  · split
    · exact h
    · split
      · exact h
      · rename_i q _ _ still
        obtain ⟨driven, pending⟩ := h.settled still
        unfold modeAnswer
        dsimp only
        split <;> exact s.modeRequested_inAgreement tag q driven pending

theorem takeModeCancel_inAgreement (s : State) (h : s.InAgreement) :
    (takeModeCancel s).state.InAgreement := by
  unfold takeModeCancel
  split
  · exact h
  · rename_i t trans
    split
    · exact h
    · rename_i still
      obtain ⟨driven, pending⟩ := h.settled (by simpa [trans] using still)
      exact s.dropWaiting_inAgreement driven pending

/-! ### The grid hold -/

theorem State.assertHold_inAgreement (s : State) (h : s.InAgreement) : s.assertHold.InAgreement := by
  unfold State.assertHold
  dsimp only
  split
  · split
    · exact beginHold_inAgreement _
    · rename_i t trans
      have agrees := h.some trans
      split
      · exact beginHold_inAgreement _
      · rename_i state kind
        refine inAgreement_of_some t trans ?_
        simp only [Transition.agrees, state, kind] at agrees ⊢
        exact agrees
      · exact h.of_lines _ true rfl
  · exact h.of_lines _ true rfl

theorem State.releaseHold_inAgreement (s : State) (h : s.InAgreement) : s.releaseHold.InAgreement := by
  have zones : s.releaseHold.zones = { s.zones with hold := false, holdPending := false } := by
    rw [State.releaseHold, handOnLoosened_zones, notify_zones, modZones_zones]
  cases trans : s.zones.trans with
  | none =>
    obtain ⟨driven, -⟩ := h.none trans
    apply inAgreement_of_none <;> rw [zones]
    · exact trans
    · exact driven
  | some t =>
    have agrees := h.some trans
    refine inAgreement_of_some t (by rw [zones]; exact trans) ?_
    rw [zones]
    unfold Transition.agrees at agrees ⊢
    split <;> simp_all

/-! ### The section's start and end -/

/-- A shut section has no transition and every zone CLOSED (08, R173). -/
theorem State.inAgreement_of_shut {s t : State} (e : t.zones = s.shutSection.zones) : t.InAgreement := by
  apply inAgreement_of_none <;> rw [e] <;> rfl

theorem State.sectionReset_inAgreement (s : State) : s.sectionReset.InAgreement := by
  have K := zones_blockKept s.shutSection.zones
  have remapped := K.examineRemaps (fun _ => true)
    (s := { s.shutSection with link := s.link.sectionReset }) rfl
  have emitted := K.startTick (K.emit remapped)
  unfold State.sectionReset State.resetRemaps
  exact inAgreement_of_shut emitted

theorem State.afterReset_inAgreement (pins : PinLevels) (p : List Instr) (k : Nat) :
    (State.afterReset pins p k).InAgreement :=
  State.inAgreement_of_none rfl rfl rfl

/-- One millisecond keeps the modes, and an interlock limit stays where it is (00, 0.6). -/
theorem State.tick_inAgreement (s : State) (h : s.InAgreement) : s.tick.InAgreement := by
  cases trans : s.zones.trans with
  | none =>
    obtain ⟨driven, pending⟩ := h.none trans
    refine inAgreement_of_none ?_ driven pending
    simp [State.tick, State.countDown, ZoneCtl.count, trans]
  | some t =>
    have agrees := h.some trans
    refine inAgreement_of_some ({ t with limit := t.limit.map (· - 1) }) ?_ ?_
    · simp [State.tick, State.countDown, ZoneCtl.count, trans]
    · unfold Transition.agrees at agrees ⊢
      simp only [State.tick, State.countDown, ZoneCtl.count]
      split <;> simp_all

/-! ### Every step -/

/-- The frames of a section's queues and the link unit's state are no part of the modes. -/
theorem execControlFrameSent_zones {s t : State} (e : execControlFrameSent s = .next t) :
    t.zones = s.zones := by
  unfold execControlFrameSent at e
  split at e <;> exact eq_of_next e ▸ rfl

/-- The agreement of the modes is an invariant of the steps (08, R155). -/
theorem inAgreement_stepInvariant : StepInvariant State.InAgreement State.InAgreement where
  blocks := inAgreement_blockKept
  taken := inAgreement_blockKept
  startTx h := h.of_zones rfl
  discardControl h := h.of_zones rfl
  discardFleet h := h.of_zones rfl
  overflowed k tag h := by
    unfold State.overflowed
    split
    · exact h.of_zones rfl
    · exact h.of_zones rfl
  receive _ _ h := h.of_zones rfl
  reply _ _ h := h.of_zones rfl
  rehunt _ h := h.of_zones rfl
  controlFrameSent h e := h.of_zones (execControlFrameSent_zones e)
  fleetFrameSent h := h.of_zones rfl
  status h := h.of_zones rfl
  params _ h := h.of_zones rfl
  lockFlag _ _ h := h.of_zones rfl
  committed {s} _ := State.inAgreement_of_shut (s := s) rfl
  sectionReset {s} _ := s.sectionReset_inAgreement
  afterReset := State.afterReset_inAgreement
  openOn q c _ h := h.of_zones (by simp [State.openOn])
  queueRequest c a k _ h := by
    unfold State.queueRequest
    dsimp only
    split
    · exact inAgreement_blockKept.revoke _ _ (h.of_zones rfl)
    · exact h.of_zones rfl
  endGrant {s} c h := s.endGrant_inAgreement c h
  modeRequest {s} tag b h := takeModeRequest_inAgreement tag b s h
  modeCancel {s} h := takeModeCancel_inAgreement s h
  takeAck _ _ h := h.of_lines _ _ rfl
  judgeEcho {s} h := s.judgeEcho_inAgreement h
  failTransition {s} t _ := s.failTransition_inAgreement t
  takeGridHold _ h := h.of_zones rfl
  assertHold {s} h := s.assertHold_inAgreement h
  releaseHold {s} h := s.releaseHold_inAgreement h
  pending _ h := h.of_zones rfl
  choices _ h := h.of_zones rfl
  tick {s} h := s.tick_inAgreement h

/-- Settles O58: the agreement is an invariant of the steps. -/
theorem everyStepKeepsTheModesInAgreement : Obligations.EveryStepKeepsTheModesInAgreement := by
  unfold Obligations.EveryStepKeepsTheModesInAgreement
  intro s t h e
  exact (inAgreement_stepInvariant.step ⟨h⟩ e).agrees

end Sys2Proof.Machine
end

section
/-! PROOFS. Every step keeps every table, queue and counter within its capacity (01, 1.1; 02, R25;
10, R188 to R196). -/

namespace Sys2Proof.Machine

/-! ### Single writes -/

theorem mem_updateAt {α : Type} {l : List α} {i : Nat} {f : α → α} {a : α}
    (h : a ∈ updateAt l i f) : a ∈ l ∨ ∃ b, l[i]? = some b ∧ a = f b := by
  obtain ⟨j, hj⟩ := List.mem_iff_getElem?.mp h
  rw [updateAt_getElem?] at hj
  split at hj
  · subst j
    obtain ⟨b, hb, rfl⟩ := Option.map_eq_some_iff.mp hj
    exact .inr ⟨b, hb, rfl⟩
  · exact .inl (List.mem_of_getElem? hj)

/-- A write of records that keeps the numbers of those it meets keeps the order (02, R41). -/
theorem ascending_modHandovers {s : State} (p : Handover → Bool) (f : Handover → Handover)
    (hf : ∀ h, p h = true → (f h).number = h.number)
    (a : s.handovers.Pairwise fun h k => h.number < k.number) :
    (s.modHandovers p f).handovers.Pairwise fun h k => h.number < k.number := by
  refine State.ascending_map _ (fun k => ?_) a
  split
  · exact hf k ‹_›
  · rfl

namespace State.Bounded
variable {s : State} (h : s.Bounded)
include h

/-- The notice and the fleet transmit queue may change within their bounds (10, R191, R195). -/
theorem of_queues {t : State} (e : t = { s with link := t.link })
    (received : t.link.received = s.link.received) (replies : t.link.replies = s.link.replies)
    (notices : t.link.notices.length ≤ Config.noticeCap) (lost : t.link.lost ≤ 255)
    (fleet : t.link.fleet.length ≤ Config.fleetCap) (drops : t.link.fleetDrops ≤ 65535)
    (controlDiscards : t.link.controlDiscards = s.link.controlDiscards)
    (fleetDiscards : t.link.fleetDiscards = s.link.fleetDiscards)
    (controlHeld : t.link.controlHeld = s.link.controlHeld)
    (fleetHeld : t.link.fleetHeld = s.link.fleetHeld)
    (controlGap : t.link.controlGap = s.link.controlGap)
    (fleetGap : t.link.fleetGap = s.link.fleetGap) : t.Bounded := by
  rw [e]
  exact { h with
    received := by simpa only [received] using h.received
    overflows := by simpa only [State.overflows, replies] using h.overflows
    answered := by simpa only [received, replies] using h.answered
    notices := notices
    lost := lost
    fleet := fleet
    fleetDrops := drops
    controlDiscards := by simpa only [controlDiscards] using h.controlDiscards
    fleetDiscards := by simpa only [fleetDiscards] using h.fleetDiscards
    controlGap := by simpa only [controlGap] using h.controlGap
    fleetGap := by simpa only [fleetGap] using h.fleetGap
    controlTimed := by simpa only [controlGap, controlHeld] using h.controlTimed
    fleetTimed := by simpa only [fleetGap, fleetHeld] using h.fleetTimed }

/-- The receive buffer and the waiting replies may change within their bounds, one waiting reply for
each request that is no overflow (10, R188, R189). -/
theorem of_answers {received : List HostRequest} {replies : List Reply} {tx : TxState}
    (entries : received.length ≤ Config.receiveCap)
    (overflows : replies.countP (·.overflow) ≤ Config.overflowCap)
    (answered : received.length = replies.countP (!·.overflow)) :
    ({ s with link := { s.link with received := received, replies := replies, tx := tx } } :
      State).Bounded :=
  { h with
    received := entries
    overflows := overflows
    answered := answered }

theorem modCol (c : Nat) (f : Column → Column)
    (hf : (f (s.col c)).waits.length ≤ Config.waitCap) : (s.modCol c f).Bounded :=
  { h with
    columns := by simpa using h.columns
    waits := by
      intro k hk
      rcases mem_updateAt hk with hk | ⟨b, hb, rfl⟩
      · exact h.waits k hk
      · have : s.col c = b := by simp [State.col, List.getD_eq_getElem?_getD, hb]
        rwa [this] at hf }

/-- No wait list is longer than 8 (03, R57). -/
theorem waits_col (c : Nat) : (s.col c).waits.length ≤ Config.waitCap := by
  by_cases hc : c < s.columns.length
  · refine h.waits _ ?_
    simp [State.col, List.getD_eq_getElem?_getD, hc]
  · rw [s.col_of_length_le (by omega)]
    exact Nat.zero_le _

theorem modHandovers (p : Handover → Bool) (f : Handover → Handover)
    (hf : ∀ k, p k = true → (f k).number = k.number) : (s.modHandovers p f).Bounded :=
  { h with
    handovers := by simpa using h.handovers
    ascending := ascending_modHandovers p f hf h.ascending }

theorem freeHandover (n : Nat) : (s.freeHandover n).Bounded :=
  { h with
    handovers := (List.length_filter_le _ _).trans h.handovers
    ascending := s.ascending_freeHandover n h.ascending }

theorem setXp (x : Nat) (e : Option XpEntry) : (s.setXp x e).Bounded :=
  { h with xps := by simpa using h.xps }

theorem of_roster {l : List (Option Robot)} (e : l.length = s.roster.length) :
    ({ s with roster := l } : State).Bounded :=
  { h with roster := e.trans h.roster }

theorem modRobot (a : Nat) (f : Robot → Robot) : (s.modRobot a f).Bounded := by
  unfold State.modRobot
  split
  · exact h
  · exact h.of_roster (by simp)

theorem setRobot (a : Nat) (r : Option Robot) : (s.setRobot a r).Bounded := by
  unfold State.setRobot
  split
  · exact h
  · exact h.of_roster (by simp)

theorem notify (b : NoticeBody) : (s.notify b).Bounded :=
  h.of_queues rfl (by simp) (by simp) (State.notify_length b h.notices) (State.notify_lost b h.lost)
    (by simpa using h.fleet) (by simpa using h.fleetDrops) (by simp) (by simp) (by simp) (by simp)
    (by simp) (by simp)

theorem send (a : Nat) (m : FleetMsg) : (s.send a m).Bounded := by
  obtain ⟨fleet, drops⟩ := State.send_bounds a m h.fleet h.fleetDrops
  exact h.of_queues rfl (by simp) (by simp) (by simpa using h.notices) (by simpa using h.lost) fleet drops
    (by simp) (by simp) (by simp) (by simp) (by simp) (by simp)

theorem startTx : s.startTx.Bounded :=
  h.of_queues rfl (by simp) (by simp) (by simpa using h.notices) (by simpa using h.lost)
    (by simpa using h.fleet) (by simpa using h.fleetDrops) (by simp) (by simp) (by simp) (by simp)
    (by simp) (by simp)

end State.Bounded

theorem bounded_zoneKept : ZoneKept State.Bounded where
  modCol c f hf h := h.modCol c f (hf.trans (h.waits_col c))
  modHandovers p f hf h := h.modHandovers p f hf
  freeHandover n h := h.freeHandover n
  setXp x e h := h.setXp x e
  modRobot a f h := h.modRobot a f
  setRobot a r h := h.setRobot a r
  audit _ h := { h with }
  notify b h := h.notify b
  send a m h := h.send a m
  modZones _ h := { h with }

/-! ### While a request is taken -/

/-- The bounds hold once the reply of the request now taken is made: the request has its entry of the
receive buffer already (10, R188). -/
def State.BoundedOnceAnswered (s : State) : Prop :=
  ∀ r : Reply, r.overflow = false → (s.reply r).Bounded

theorem State.reply_notify (s : State) (r : Reply) (b : NoticeBody) :
    (s.notify b).reply r = (s.reply r).notify b := by
  unfold State.notify State.modLink State.reply
  dsimp only [State.modLink]
  split <;> rfl

theorem State.reply_send (s : State) (r : Reply) (a : Nat) (m : FleetMsg) :
    (s.send a m).reply r = (s.reply r).send a m := by
  unfold State.send State.modLink State.reply
  dsimp only [State.modLink]
  split <;> rfl

theorem State.reply_modRobot (s : State) (r : Reply) (a : Nat) (f : Robot → Robot) :
    (s.modRobot a f).reply r = (s.reply r).modRobot a f := by
  unfold State.modRobot
  split <;> rfl

theorem State.reply_setRobot (s : State) (r : Reply) (a : Nat) (b : Option Robot) :
    (s.setRobot a b).reply r = (s.reply r).setRobot a b := by
  unfold State.setRobot
  split <;> rfl

/-- What a reply is made of does not rest on the writes of the blocks. -/
theorem boundedOnceAnswered_zoneKept : ZoneKept State.BoundedOnceAnswered where
  modCol c f hf h r hr := bounded_zoneKept.modCol (s := State.reply _ r) c f hf (h r hr)
  modHandovers p f hf h r hr := (h r hr).modHandovers p f hf
  freeHandover n h r hr := (h r hr).freeHandover n
  setXp x e h r hr := (h r hr).setXp x e
  modRobot {s} a f h r hr := s.reply_modRobot r a f ▸ (h r hr).modRobot a f
  setRobot {s} a b h r hr := s.reply_setRobot r a b ▸ (h r hr).setRobot a b
  audit _ h r hr := { h r hr with }
  notify {s} b h r hr := s.reply_notify r b ▸ (h r hr).notify b
  send {s} a m h r hr := s.reply_send r a m ▸ (h r hr).send a m
  modZones _ h r hr := { h r hr with }

/-! ### Receiving and answering -/

/-- A request takes an entry of the receive buffer, which its reply stands for (10, R188). -/
theorem State.Bounded.receive {s : State} (h : s.Bounded) (q : HostRequest)
    (room : s.link.received.length < Config.receiveCap) : (s.receive q).BoundedOnceAnswered :=
  fun r hr => h.of_answers (by simpa using room)
    (by simpa [State.overflows, hr] using h.overflows) (by simp [hr, h.answered])

/-- A request that overflows takes a place of the overflow list, or is counted (10, R189). -/
theorem State.Bounded.overflowed {s : State} (h : s.Bounded) (k : Byte) (tag : Word16) :
    (s.overflowed k tag).Bounded := by
  unfold State.overflowed
  split
  · rename_i room
    exact h.of_answers h.received (by simpa [State.overflows] using room) (by simp [h.answered])
  · exact { h with controlDiscards := countUp_le 65535 _ h.controlDiscards }

/-- The end of a control frame frees what it occupied (10, R188, R190). -/
theorem State.Bounded.controlFrameSent {s t : State} (h : s.Bounded)
    (e : execControlFrameSent s = .next t) : t.Bounded := by
  unfold execControlFrameSent at e
  split at e
  · exact eq_of_next e ▸ h
  · refine eq_of_next e ▸ startTx ?_
    have received := h.received
    have overflows := h.overflows
    have answered := h.answered
    unfold State.overflows at overflows
    unfold State.modLink
    dsimp only
    split
    · exact h.of_answers received overflows answered
    · rename_i r rest replies
      rw [replies, List.countP_cons] at overflows answered
      cases kept : r.overflow <;>
        simp only [kept, Bool.false_eq_true, if_false, if_true, Bool.not_false, Bool.not_true]
          at overflows answered ⊢
      · refine h.of_answers ?_ overflows ?_ <;> rw [List.length_drop] <;> omega
      · exact h.of_answers received (by omega) answered
  · refine eq_of_next e ▸ startTx ?_
    exact h.of_queues rfl rfl rfl (by have := h.notices; simp; omega) h.lost h.fleet h.fleetDrops rfl rfl rfl
      rfl rfl rfl

end Sys2Proof.Machine
end

section
/-! PROOFS. Every step keeps every table, queue and counter within its capacity: the parts of commands
that write fields of their own, and the invariant of the steps. -/

namespace Sys2Proof.Machine

/-! ### The zone controller's commands -/

namespace ZoneKept
variable {P : State → Prop} (K : ZoneKept P) {s : State}
include K

theorem dropWaiting (h : P s) : P s.dropWaiting :=
  K.handOnLoosened s (K.modZones _ h)

theorem startLoosening (tag : Word16) (q : Quad Mode) (mixed : Bool) (h : P s) :
    P (s.startLoosening tag q mixed) :=
  K.enterChanging _ (K.handOnLoosened s (K.modZones _ h))

theorem startTightening (tag : Word16) (q : Quad Mode) (h : P s) : P (s.startTightening tag q) :=
  K.enterWaiting _ (K.handOnLoosened s (K.modZones _ h))

theorem modeRequested (tag : Word16) (q : Quad Mode) (h : P s) : P (s.modeRequested tag q) := by
  unfold State.modeRequested
  split
  · split
    · exact K.dropWaiting h
    · exact K.startLoosening _ _ _ h
  · split
    · exact K.startTightening _ _ h
    · exact K.startLoosening _ _ _ h

theorem takeModeRequest (tag : Word16) (b : Quad Byte) (h : P s) :
    P (takeModeRequest tag b s).state := by
  unfold Machine.takeModeRequest
  split
  · exact h
  · split
    · exact h
    · split
      · exact h
      · unfold modeAnswer
        dsimp only
        split <;> exact K.modeRequested tag _ h

theorem takeModeCancel (h : P s) : P (takeModeCancel s).state := by
  unfold Machine.takeModeCancel
  split
  · exact h
  · split
    · exact h
    · exact K.dropWaiting h

theorem assertHold (h : P s) : P s.assertHold := by
  have asserted : P (s.modZones fun q => { q with hold := true }) := K.modZones _ h
  unfold State.assertHold
  dsimp only
  split
  · split
    · exact K.beginHold (K.notify _ asserted)
    · split
      · exact K.beginHold (K.notify _ (K.notify _ (K.modZones _ asserted)))
      · exact K.notify _ (K.modZones _ asserted)
      · exact K.notify _ asserted
  · exact K.notify _ asserted

theorem releaseHold (h : P s) : P s.releaseHold :=
  K.handOnLoosened s (K.notify _ (K.modZones _ h))

end ZoneKept

/-! ### The receivers -/

theorem repeat_countUp_le (bound n d : Nat) (h : d ≤ bound) : n.repeat (countUp bound) d ≤ bound := by
  rw [repeat_countUp bound n d h]
  exact Nat.min_le_left _ _

/-- A receiver's bytes and its gap timer change together (10, R185). -/
theorem State.Bounded.setHeld {s : State} (h : s.Bounded) (l : LinkId) (bs : List RxByte) {ms : Nat}
    (hms : ms ≤ Config.frameGapMs) : (s.setHeld l bs ms).Bounded := by
  cases l with
  | control =>
    exact { h with
      controlGap := fun g hg => (FrontEnd.gap_le hg).trans hms
      controlTimed := FrontEnd.gap_eq_none bs ms }
  | fleet =>
    exact { h with
      fleetGap := fun g hg => (FrontEnd.gap_le hg).trans hms
      fleetTimed := FrontEnd.gap_eq_none bs ms }

theorem State.Bounded.discards {s : State} (h : s.Bounded) (l : LinkId) (n : Nat) :
    (s.discards l n).Bounded := by
  cases l with
  | control => exact { h with controlDiscards := repeat_countUp_le _ n _ h.controlDiscards }
  | fleet => exact { h with fleetDiscards := repeat_countUp_le _ n _ h.fleetDiscards }

theorem State.Bounded.rehunt {s : State} (h : s.Bounded) (l : LinkId) : (s.rehunt l).Bounded :=
  { h.setHeld l (FrontEnd.timeout l (s.held l)).1 (Nat.zero_le _) with }

/-! ### Handovers and waiting requests -/

/-- A record put in its place makes the table longer by one. -/
theorem State.length_addHandover (s : State) (k : Handover) :
    (s.addHandover k).handovers.length = s.handovers.length + 1 := by
  have split : ∀ l : List Handover, (l.filter fun j => j.number < k.number).length +
      (l.filter fun j => k.number ≤ j.number).length = l.length := fun l => by
    have := List.length_eq_length_filter_add (l := l) fun j => decide (j.number < k.number)
    simpa [← decide_not, Nat.not_lt] using this.symm
  have := split s.handovers
  simp only [addHandover_handovers, List.length_append, List.length_cons]
  omega

/-- A new record has a number that no record holds, so that the table keeps its order (02, R26). -/
theorem State.BoundedOnceAnswered.openOn {s : State} (h : s.BoundedOnceAnswered)
    (room : s.handovers.length < Config.handoverCap) (q : Body.OpenHandover) (c : Nat) :
    (s.openOn q c).BoundedOnceAnswered := by
  intro r hr
  have b := h r hr
  have free := (s.nextNumber_spec b.handovers b.lastNumber).1
  have opened : ({ s.addHandover (s.openRecord q c) with lastNumber := s.nextNumber }.reply
      r).Bounded :=
    { b with
      handovers := by
        have := s.length_addHandover (s.openRecord q c)
        dsimp only [State.reply, State.modLink]
        omega
      ascending := s.ascending_addHandover (s.openRecord q c) free b.ascending
      lastNumber := (s.nextNumber_bounds b.handovers b.lastNumber).2 }
  unfold State.openOn State.setSlot
  rw [State.reply_modRobot]
  exact opened.modRobot _ _

theorem insertWait_length (w : WaitReq) (ws : List WaitReq) :
    (insertWait w ws).length = ws.length + 1 := by
  simp only [insertWait, List.length_append, List.length_take, List.length_cons, List.length_drop]
  omega

theorem State.Bounded.queueRequest {s : State} (h : s.Bounded) (c a : Nat) (k : Cls)
    (room : (s.col c).waits.length < Config.waitCap) : (s.queueRequest c a k).Bounded := by
  have queued := (h.modCol c (fun q => { q with waits := insertWait ⟨a, k⟩ q.waits }) (by
    dsimp only
    rw [insertWait_length]
    exact room)).send a (.queued c k (waitPlace k (s.col c).waits + 1))
  unfold State.queueRequest
  dsimp only
  split
  · exact bounded_zoneKept.revoke c _ queued
  · exact queued

/-! ### Configuration and the resets -/

theorem State.BoundedOnceAnswered.committed {s : State} (h : s.BoundedOnceAnswered) :
    s.committed.BoundedOnceAnswered := fun r hr =>
  { h r hr with
    columns := (List.length_map _).trans (h r hr).columns
    groups := List.length_replicate
    xps := (List.length_map _).trans (h r hr).xps
    roster := List.length_replicate
    handovers := Nat.zero_le _
    ascending := .nil
    lastNumber := Nat.zero_le _
    waits := by
      intro k hk
      obtain ⟨j, -, rfl⟩ := List.mem_map.mp hk
      exact Nat.zero_le _ }

/-- The blocks shut and the queues emptied but for the frame being sent (09, R181; 10, R197). -/
theorem State.BoundedOnceAnswered.shut {s : State} (h : s.BoundedOnceAnswered) :
    ({ s.shutSection with link := s.link.sectionReset } : State).BoundedOnceAnswered := fun r hr =>
  { h r hr with
    columns := (List.length_map _).trans (h r hr).columns
    groups := List.length_replicate
    roster := List.length_replicate
    handovers := Nat.zero_le _
    ascending := .nil
    lastNumber := Nat.zero_le _
    waits := by
      intro k hk
      obtain ⟨j, -, rfl⟩ := List.mem_map.mp hk
      exact Nat.zero_le _
    notices := by
      dsimp only [State.reply, State.modLink, LinkUnit.sectionReset]
      split
      · exact (List.length_take_le _ _).trans (by decide)
      · exact Nat.zero_le _
    lost := Nat.zero_le _
    fleet := (List.length_take_le _ _).trans (by decide) }

theorem State.BoundedOnceAnswered.sectionReset {s : State} (h : s.BoundedOnceAnswered) :
    s.sectionReset.BoundedOnceAnswered := by
  have K := boundedOnceAnswered_zoneKept
  unfold State.sectionReset State.resetRemaps
  exact K.startTick (K.emit (K.examineRemaps _ h.shut))

theorem State.afterReset_bounded (pins : PinLevels) (p : List Instr) (k : Nat) :
    (State.afterReset pins p k).Bounded where
  columns := List.length_replicate
  groups := List.length_replicate
  xps := List.length_replicate
  roster := List.length_replicate
  handovers := Nat.zero_le _
  ascending := .nil
  lastNumber := Nat.zero_le _
  waits := by
    intro k hk
    rw [List.eq_of_mem_replicate hk]
    exact Nat.zero_le _
  received := Nat.zero_le _
  overflows := Nat.zero_le _
  answered := rfl
  notices := Nat.zero_le _
  lost := Nat.zero_le _
  fleet := Nat.zero_le _
  fleetDrops := Nat.zero_le _
  controlDiscards := Nat.zero_le _
  fleetDiscards := Nat.zero_le _
  gridHoldSteady := Nat.le_refl _
  ackSteady z := by
    unfold Quad.get
    split <;> exact Nat.le_refl _
  controlGap _ hg := nomatch hg
  fleetGap _ hg := nomatch hg
  controlTimed := ⟨fun _ => rfl, fun _ => rfl⟩
  fleetTimed := ⟨fun _ => rfl, fun _ => rfl⟩

/-! ### The time base and the plain lines -/

/-- A gap timer counts down and stays where it is (10, R185). -/
theorem gap_count {o : Option Nat} {bound : Nat} (h : ∀ g ∈ o, g ≤ bound) :
    ∀ g ∈ o.map (· - 1), g ≤ bound := by
  intro g hg
  obtain ⟨k, hk, rfl⟩ := Option.map_eq_some_iff.mp hg
  exact (Nat.sub_le k 1).trans (h k hk)

theorem State.Bounded.tick {s : State} (h : s.Bounded) : s.tick.Bounded :=
  { h with
    columns := by simpa [State.tick, State.countDown] using h.columns
    roster := by simpa [State.tick, State.countDown] using h.roster
    handovers := by simpa [State.tick, State.countDown] using h.handovers
    ascending := State.ascending_map Handover.count (fun _ => rfl) h.ascending
    waits := by
      intro k hk
      obtain ⟨j, hj, rfl⟩ := List.mem_map.mp hk
      exact h.waits j hj
    gridHoldSteady := Line.count_steady_le _
    ackSteady := fun z => by
      show (s.lines.count.ack.get z).steady ≤ _
      rw [LineFilter.count_ack]
      exact Line.count_steady_le _
    controlGap := gap_count h.controlGap
    fleetGap := gap_count h.fleetGap
    controlTimed := Option.map_eq_none_iff.trans h.controlTimed
    fleetTimed := Option.map_eq_none_iff.trans h.fleetTimed }

theorem State.Bounded.takeAck {s : State} (h : s.Bounded) (z : Fin 4) (m : Mode) :
    (s.takeAck z m).Bounded :=
  { h with
    ackSteady := fun y => by
      have old := h.ackSteady
      show ((s.lines.ack.set z ⟨m, 0⟩).get y).steady ≤ _
      have kept : ∀ w < 4, ((s.lines.ack.set z ⟨m, 0⟩).get w).steady ≤ Config.filterMs := by
        intro w hw
        by_cases hwz : w = z
        · rw [hwz, Quad.get_set_same _ _ z.isLt]
          exact Nat.zero_le _
        · rw [Quad.get_set_ne _ z.isLt hw hwz]
          exact old w
      match y with
      | 0 => exact kept 0 (by decide)
      | 1 => exact kept 1 (by decide)
      | 2 => exact kept 2 (by decide)
      | _ + 3 => exact kept 3 (by decide) }

/-! ### Every step -/

/-- The bounds are an invariant of the steps. -/
theorem bounded_stepInvariant : StepInvariant State.Bounded State.BoundedOnceAnswered where
  blocks := bounded_zoneKept.toBlockKept
  taken := boundedOnceAnswered_zoneKept.toBlockKept
  startTx h := h.startTx
  discardControl h := { h with controlDiscards := countUp_le 65535 _ h.controlDiscards }
  discardFleet h := { h with fleetDiscards := countUp_le 65535 _ h.fleetDiscards }
  overflowed k tag h := h.overflowed k tag
  receive q room h := h.receive q room
  reply r hr h := h r hr
  rehunt l h := (h.rehunt l).discards l 1
  controlFrameSent h e := h.controlFrameSent e
  fleetFrameSent {s} h :=
    { h with
      fleet := by
        have := h.fleet
        dsimp only [State.modLink]
        rw [List.length_drop]
        omega }
  status h r hr := { h r hr with lost := Nat.zero_le _ }
  params _ h r hr := { h r hr with }
  lockFlag g set h r hr :=
    { h r hr with groups := (updateAt_length _ _ _).trans (h r hr).groups }
  committed h := h.committed
  sectionReset h := h.sectionReset
  afterReset := State.afterReset_bounded
  openOn q c room h := h.openOn room q c
  queueRequest c a k room h := h.queueRequest c a k room
  endGrant c h := bounded_zoneKept.endGrant c h
  modeRequest tag b h := boundedOnceAnswered_zoneKept.takeModeRequest tag b h
  modeCancel h := boundedOnceAnswered_zoneKept.takeModeCancel h
  takeAck z m h := h.takeAck z m
  judgeEcho h := bounded_zoneKept.judgeEcho h
  failTransition t h := bounded_zoneKept.failTransition t h
  takeGridHold b h := { h with gridHoldSteady := Nat.zero_le _ }
  assertHold h := bounded_zoneKept.assertHold h
  releaseHold h := bounded_zoneKept.releaseHold h
  pending _ h := { h with }
  choices _ h := { h with }
  tick h := h.tick

/-- Settles O57: the bounds are an invariant of the steps. -/
theorem everyStepKeepsTheBounds : Obligations.EveryStepKeepsTheBounds := by
  unfold Obligations.EveryStepKeepsTheBounds
  intro s t h e
  exact bounded_stepInvariant.step h e

end Sys2Proof.Machine
end

section
/-! PROOFS. The time base (00, 0.6) and the hardware reset (09, R183). -/

namespace Sys2Proof.Machine

/-! ### One step -/

/-- Settles O1: a step takes the front of the queue. -/
theorem stepTakesTheFrontCommand : Obligations.StepTakesTheFrontCommand := by
  unfold Obligations.StepTakesTheFrontCommand
  intro c s
  rfl

/-- With no command waiting a step is a tick (log 1). -/
theorem step_idle {s : State} (h : s.pending = []) : step s = .next s.tick := by
  simp only [step, h]

/-- A deadline counts down while RUNNING alone (02, R42). -/
theorem Deadline.count_eq (d : Deadline) :
    d.count = if d.cond = .running then { d with remaining := d.remaining - 1 } else d := by
  unfold Deadline.count
  cases h : d.cond <;> simp

/-- Settles O2: a tick is the count of every timer and filter, and queues expiries. -/
theorem idleStepIsOneMillisecond : Obligations.IdleStepIsOneMillisecond := by
  unfold Obligations.IdleStepIsOneMillisecond
  intro s idle
  refine ⟨s.tick.pending, s.tick.choices, ?_⟩
  have counted : s.handovers.map Handover.count = s.handovers.map fun h =>
      { h with deadline := h.deadline.map fun d =>
        if d.cond = .running then { d with remaining := d.remaining - 1 } else d } := by
    refine List.map_congr_left fun h _ => ?_
    simp only [Handover.count, ← Deadline.count_eq]
  rw [step_idle idle, ← counted]
  rfl

/-! ### The queue after a tick -/

theorem mem_putAt (c i : Instr) (n : Nat) (l : List Instr) : i ∈ putAt c n l ↔ i = c ∨ i ∈ l := by
  induction l generalizing n with
  | nil => cases n <;> simp [putAt]
  | cons d ds ih =>
    cases n with
    | zero => simp [putAt]
    | succ n =>
      simp only [putAt, List.mem_cons, ih]
      tauto

/-- The order of the expiries is free, the expiries are not (log 3). -/
theorem mem_arrange (k : Nat) (i : Instr) (l : List Instr) : i ∈ arrange k l ↔ i ∈ l := by
  induction l generalizing k with
  | nil => simp [arrange]
  | cons c cs ih => simp [arrange, mem_putAt, ih]

/-! ### The expiries, by what they come from -/

theorem Handover.due_iff (h : Handover) (st : HandoverState) (k : DeadlineKind) :
    h.due st k = true ↔ h.state = st ∧ h.deadline = some ⟨k, 0, .running⟩ := by
  simp [Handover.due]

theorem Handover.mem_expiry (h : Handover) (i : Instr) :
    i ∈ h.expiry ↔
      (h.due .openState .stage = true ∧ i = .stageExpired h.number) ∨
      (h.due .carried .stage = true ∧ i = .relocationOverdue h.number) ∨
      (h.due .staged .collect = true ∧ i = .collectExpired h.number) := by
  unfold Handover.expiry
  split
  · rename_i opened
    have := (h.due_iff _ _).mp opened
    simp [Handover.due, this]
  · split
    · rename_i carried
      have := (h.due_iff _ _).mp carried
      simp [Handover.due, this]
    · split <;> simp_all

theorem Grant.holdDue_iff (g : Grant) :
    g.holdDue = true ↔ g.revoke = none ∧ g.holdLimit = some 0 := by
  simp [Grant.holdDue]

theorem Grant.graceDue_iff (g : Grant) :
    g.graceDue = true ↔ g.revoke ≠ none ∧ g.grace = some 0 := by
  simp [Grant.graceDue, Option.isSome_iff_ne_none]

theorem Column.mem_expiries (c : Nat) (k : Column) (i : Instr) :
    i ∈ k.expiries c ↔
      (∃ g, k.grant = some g ∧ g.holdDue = true ∧ i = .holdLimitExpiry c) ∨
      (∃ g, k.grant = some g ∧ g.graceDue = true ∧ i = .releaseGraceExpiry c) ∨
      (∃ o, k.op = some o ∧ o.limit = 0 ∧ i = .operationLimitExpiry c) := by
  have grants : ∀ g : Grant, i ∈ (if g.holdDue = true then [Instr.holdLimitExpiry c]
      else if g.graceDue = true then [.releaseGraceExpiry c] else []) ↔
      (g.holdDue = true ∧ i = .holdLimitExpiry c) ∨
        (g.graceDue = true ∧ i = .releaseGraceExpiry c) := fun g => by
    by_cases hold : g.holdDue = true
    · have : g.graceDue = false := by
        simp [Grant.graceDue, ((g.holdDue_iff).mp hold).1]
      simp [hold, this]
    · simp [hold]
  unfold Column.expiries
  rw [List.mem_append]
  cases hg : k.grant <;> cases ho : k.op <;> simp [grants]
  tauto

/-- What a millisecond queues (00, 0.6; logs 1, 35, 37). -/
theorem State.mem_expiries (s : State) (i : Instr) :
    i ∈ s.expiries ↔
      (∃ h ∈ s.handovers, i ∈ h.expiry) ∨
      (∃ c < 96, i ∈ (s.col c).expiries c) ∨
      (∃ a ≤ 48, ∃ r, s.robot a = some r ∧ r.readyDue = true ∧ i = .readyLimitExpiry a) ∨
      (s.audit.tick = some 0 ∧ i = .auditTick) ∨
      (s.audit.callLimit = some 0 ∧ i = .callLimitExpiry) ∨
      (∃ t, s.zones.trans = some t ∧ interlockDue t = true ∧ i = .interlockLimitExpiry) ∨
      i ∈ s.frameTimeouts ∨ i ∈ s.lineChanges := by
  have robots : ∀ a, (i ∈ (match s.robot a with
      | some r => if r.readyDue then [Instr.readyLimitExpiry a] else []
      | none => [])) ↔ ∃ r, s.robot a = some r ∧ r.readyDue = true ∧ i = .readyLimitExpiry a := by
    intro a
    cases s.robot a <;> simp
  have interlock : (i ∈ (match s.zones.trans with
      | some t => if interlockDue t then [Instr.interlockLimitExpiry] else []
      | none => [])) ↔ ∃ t, s.zones.trans = some t ∧ interlockDue t = true ∧
        i = .interlockLimitExpiry := by
    cases s.zones.trans <;> simp
  have single : ∀ (p : Prop) [Decidable p] (c : Instr),
      (i ∈ if p then [c] else []) ↔ p ∧ i = c := fun p _ c => by
    split <;> simp_all
  unfold State.expiries
  simp only [List.mem_append, List.mem_flatMap, List.mem_range, single, or_assoc]
  refine or_congr Iff.rfl (or_congr Iff.rfl (or_congr ?_ (or_congr Iff.rfl (or_congr Iff.rfl
    (or_congr interlock Iff.rfl)))))
  exact exists_congr fun a => and_congr Nat.lt_succ_iff (robots a)

/-- The queue after a tick, by the state that the tick leaves (logs 1, 3). -/
theorem State.mem_pending_tick {s t : State} (e : t = s.tick) (i : Instr) :
    i ∈ t.pending ↔
      (∃ h ∈ t.handovers, i ∈ h.expiry) ∨
      (∃ c < 96, i ∈ (t.col c).expiries c) ∨
      (∃ a ≤ 48, ∃ r, t.robot a = some r ∧ r.readyDue = true ∧ i = .readyLimitExpiry a) ∨
      (t.audit.tick = some 0 ∧ i = .auditTick) ∨
      (t.audit.callLimit = some 0 ∧ i = .callLimitExpiry) ∨
      (∃ q, t.zones.trans = some q ∧ interlockDue q = true ∧ i = .interlockLimitExpiry) ∨
      i ∈ t.frameTimeouts ∨ i ∈ t.lineChanges := by
  subst e
  exact (mem_arrange _ _ _).trans (s.countDown.mem_expiries i)

theorem Robot.readyDue_iff (r : Robot) :
    r.readyDue = true ↔ r.state = .announced ∧ r.readyTimer = some 0 := by
  simp [Robot.readyDue]

theorem interlockDue_iff (t : Transition) :
    interlockDue t = true ↔ t.state = .changing ∧ t.kind = .normal ∧ t.limit = some 0 := by
  simp [interlockDue, and_assoc]

/-- The change of GRID_HOLD that is queued, by the level on the line (10, R196). -/
theorem State.mem_lineChanges_cases (s : State) (i : Instr) :
    i ∈ s.lineChanges ↔
      (∃ z : Fin 4, (s.lines.ack.get z).seen ≠ s.zones.ack.get z ∧ 2 ≤ (s.lines.ack.get z).steady ∧
        i = .zoneAckChange z (s.lines.ack.get z).seen) ∨
      (s.lines.gridHold.seen = true ∧ s.zones.hold = false ∧ 2 ≤ s.lines.gridHold.steady ∧
        i = .gridHoldAsserted) ∨
      (s.lines.gridHold.seen = false ∧ s.zones.hold = true ∧ 2 ≤ s.lines.gridHold.steady ∧
        i = .gridHoldReleased) := by
  rw [State.mem_lineChanges]
  refine or_congr Iff.rfl ?_
  cases s.lines.gridHold.seen <;> cases s.zones.hold <;> simp [Config.filterMs]

/-- Settles O3: each command of the queue comes from the one timer or line that it names. -/
theorem timersThatRunOutQueueTheirExpiry : Obligations.TimersThatRunOutQueueTheirExpiry := by
  unfold Obligations.TimersThatRunOutQueueTheirExpiry
  intro s t idle e
  rw [step_idle idle] at e
  have mem := State.mem_pending_tick (eq_of_next e).symm
  simp only [Handover.mem_expiry, Column.mem_expiries, State.mem_frameTimeouts,
    State.mem_lineChanges_cases, Handover.due_iff, Grant.holdDue_iff, Grant.graceDue_iff,
    Robot.readyDue_iff, interlockDue_iff] at mem
  refine ⟨fun i hi => ?_, ?_, ?_, ?_, ?_, ?_, ?_, ?_, ?_, ?_, ?_, ?_, ?_, ?_, ?_, ?_⟩
  · rcases (mem i).mp hi with ⟨h, -, (⟨-, rfl⟩ | ⟨-, rfl⟩ | ⟨-, rfl⟩)⟩ |
      ⟨c, -, (⟨g, -, -, rfl⟩ | ⟨g, -, -, rfl⟩ | ⟨o, -, -, rfl⟩)⟩ | ⟨a, -, r, -, -, rfl⟩ | ⟨-, rfl⟩ |
      ⟨-, rfl⟩ | ⟨q, -, -, rfl⟩ | ⟨l, -, rfl⟩ | ⟨z, -, -, rfl⟩ |
      ⟨-, -, -, rfl⟩ | ⟨-, -, -, rfl⟩
    all_goals simp
  -- the deadlines of records
  · intro n
    rw [mem]
    simp [and_comm, and_left_comm, eq_comm (a := n)]
  · intro n
    rw [mem]
    simp [and_comm, and_left_comm, eq_comm (a := n)]
  · intro n
    rw [mem]
    simp [and_comm, and_left_comm, eq_comm (a := n)]
  -- the timers of columns and robots
  · intro c
    rw [mem]
    simp
  · intro c
    rw [mem]
    simp
  · intro c
    rw [mem]
    simp
  · intro a
    rw [mem]
    simp
  -- the audit unit, the transition and the receivers
  · rw [mem]
    simp
  · rw [mem]
    simp
  · rw [mem]
    simp
  · rw [mem]
    simp [State.gap]
  · rw [mem]
    simp [State.gap]
  -- the plain lines
  · intro z l
    rw [mem]
    simp only [reduceCtorEq, Instr.zoneAckChange.injEq, and_false, exists_false, or_false,
      false_or]
    constructor
    · rintro ⟨y, changed, steady, rfl, rfl⟩
      exact ⟨rfl, changed, steady⟩
    · rintro ⟨rfl, changed, steady⟩
      exact ⟨z, changed, steady, rfl, rfl⟩
  · rw [mem]
    simp
  · rw [mem]
    simp

/-! ### The resets -/

/-- Settles O16: each field has its reset value, and a shorter pulse does one of the two. -/
theorem hardwareResetClearsThePart : Obligations.HardwareResetClearsThePart := by
  unfold Obligations.HardwareResetClearsThePart
  intro pins s
  have short : exec (.hardwareReset .shortPulse pins) s =
      if Config.shortResetTaken s.choices then
        .next (State.afterReset pins s.pending (s.choices + 1))
      else .next { s with choices := s.choices + 1 } := rfl
  have blank : ∀ c, (State.afterReset pins s.pending s.choices).col c = Column.blank := by
    intro c
    simp only [State.col, State.afterReset, List.getD_eq_getElem?_getD, List.getElem?_replicate]
    split <;> rfl
  have rate : Rate.ofStraps pins.rate1 pins.rate0 =
      if pins.rate1 then (if pins.rate0 then .r230400 else .r115200)
      else if pins.rate0 then .r57600 else .r19200 := by
    cases pins.rate1 <;> cases pins.rate0 <;> rfl
  refine ⟨State.afterReset pins s.pending s.choices, rfl, rfl, ?_, rfl, rfl, blank,
    List.length_replicate, rfl, rfl, rfl, rfl, rfl, rfl, rfl, rfl, ⟨_, rfl, rate⟩, rfl, rfl, rfl⟩
  rw [short]
  split
  · exact .inl rfl
  · exact .inr rfl

/-- Settles O59, by the invariants of every reset state; a part without a running timer queues
nothing in its first millisecond. -/
theorem resetMeetsTheInvariants : Obligations.ResetMeetsTheInvariants := by
  unfold Obligations.ResetMeetsTheInvariants
  have quiet : State.reset.countDown.expiries = [] := by decide +kernel
  refine ⟨State.afterReset_bounded _ _ _, (State.afterReset_inAgreement _ _ _).agrees, rfl, ?_⟩
  rw [step_idle rfl, State.tick, quiet]
  rfl

end Sys2Proof.Machine
end

section
/-! PROOFS. The links (10): discards, the hunt, the queues, and the taking of requests and frames. -/

namespace Sys2Proof.Machine

/-! ### Requests and frames that are taken -/

/-- The state a request's answer leaves: the reply is made and a free transmitter takes it
(10, R188, R190). -/
def Answer.made (a : Answer) (k : Byte) (tag : Word16) : State := a.state.answered k tag a.status a.body

@[simp] theorem Answer.made_mk (s : State) (st : Status) (b : ReplyBody) (k : Byte) (tag : Word16) :
    (Answer.mk s st b).made k tag = s.answered k tag st b := rfl

@[simp] theorem refuse_made (s : State) (st : Status) (b : ReplyBody) (k : Byte) (tag : Word16) :
    (refuse s st b).made k tag = s.answered k tag st b := rfl

theorem Answer.made_ite (c : Prop) [Decidable c] (a b : Answer) (k : Byte) (tag : Word16) :
    (if c then a else b).made k tag = if c then a.made k tag else b.made k tag :=
  apply_ite (fun a : Answer => a.made k tag) c a b

/-- A request that finds room and whose body decodes is taken (10, R187, R188). -/
theorem hostRequest_decoded {α : Type} {k : Byte} {tag : Word16} {body : List Byte} {d : Decoded α}
    {q : α} {take : α → State → Answer} {s : State} (h : Takes tag s) (e : d = .ok q) :
    hostRequest k tag body (withBody d take) s =
      .next ((take q (s.intake k tag body)).made k tag) := by
  rw [hostRequest_taken h, e, withBody_ok]
  rfl

/-- The same in RUNNING, for a request that is taken there alone (09, R174). -/
theorem hostRequest_running {α : Type} {k : Byte} {tag : Word16} {body : List Byte} {d : Decoded α}
    {q : α} {take : α → State → Answer} {s : State} (h : Takes tag s) (e : d = .ok q)
    (running : s.sectionState = .running) :
    hostRequest k tag body (withBody d fun q => inRunning (take q)) s =
      .next ((take q (s.intake k tag body)).made k tag) := by
  have u : (s.intake k tag body).sectionState = .running := running
  rw [hostRequest_decoded h e, inRunning_running u]

/-- A request whose body does not decode is rejected with its status (10, R186, R187). -/
theorem hostRequest_undecoded {α : Type} {k : Byte} {tag : Word16} {body : List Byte} {d : Decoded α}
    {e : Status} {take : α → State → Answer} {s : State} (h : Takes tag s) (p : d.problem = some e) :
    hostRequest k tag body (withBody d take) s =
      .next ((s.intake k tag body).answered k tag e .none) := by
  rw [hostRequest_taken h]
  cases d with
  | ok a => simp [Decoded.problem] at p
  | error x =>
    obtain rfl : x = e := by simpa [Decoded.problem] using p
    rfl

/-- A frame of a robot of the roster whose body does not decode (10, R194). -/
theorem robotFrame_undecoded {α : Type} {addr : Byte} {d : Decoded α} {e : Status}
    {take : Nat → Robot → α → State → State} {s : State} {r : Robot}
    (h : s.robot addr.toNat = some r) (p : d.problem = some e) :
    robotFrame addr d take s = .next (s.send addr.toNat (.refused e .none)).startTx := by
  cases d with
  | ok a => simp [Decoded.problem] at p
  | error x =>
    obtain rfl : x = e := by simpa [Decoded.problem] using p
    exact robotFrame_error h

/-- A body that has no problem decodes (10, R187). -/
theorem Decoded.ok_of_problem {α : Type} {d : Decoded α} (p : d.problem = none) :
    ∃ q, d = .ok q := by
  cases d with
  | ok a => exact ⟨a, rfl⟩
  | error x => simp [Decoded.problem] at p

/-- A command that a request spells is a host request of its kind, with the body's problem. -/
theorem exec_request {c : Instr} {k : Byte} {tag : Word16} {body : List Byte}
    (h : c.request = some (k, tag, body)) :
    ∃ (α : Type) (d : Decoded α) (take : α → State → Answer),
      (∀ s, exec c s = hostRequest k tag body (withBody d take) s) ∧ c.bodyProblem = d.problem := by
  cases c <;> simp only [Instr.request, Option.some.injEq, Prod.mk.injEq, reduceCtorEq] at h
  all_goals
    obtain ⟨rfl, rfl, rfl⟩ := h
    exact ⟨_, _, _, fun _ => rfl, rfl⟩

/-- A command that a robot sends is a robot's frame, with the body's problem. -/
theorem exec_sender {c : Instr} {a : Byte} (h : c.sender = some a) :
    ∃ (α : Type) (d : Decoded α) (take : Nat → Robot → α → State → State),
      (∀ s, exec c s = robotFrame a d take s) ∧ c.frameProblem = d.problem := by
  cases c <;> simp only [Instr.sender, Option.some.injEq, reduceCtorEq] at h
  all_goals
    obtain rfl := h
    exact ⟨_, _, _, fun _ => rfl, rfl⟩

theorem exec_fleetUnknownKind {a k : Byte} (h : isRobotKind k = false) (s : State) :
    exec (.fleetUnknownKind a k) s =
      robotFrame a (.ok () : Decoded Unit) (fun a _ _ s => s.sendRefused a .unknownKind .none) s := by
  change execFleetUnknownKind a k s = _
  rw [execFleetUnknownKind, h]
  rfl

theorem exec_requestRejected {k : Byte} {tag : Word16} {body : List Byte}
    (h : isRequestKind k = false) (s : State) :
    exec (.requestRejected k tag body) s =
      hostRequest k tag body (fun s => refuse s .unknownKind) s := by
  change execRequestRejected k tag body s = _
  rw [execRequestRejected, h]
  rfl

/-! ### Discards and the hunt -/

namespace FrontEnd

/-- What a hunt makes of the bytes, by what they begin with (10, R185). -/
theorem hunt_eq (l : LinkId) (bs : List RxByte) :
    hunt l bs =
      match look l bs with
      | .wait => (bs, [])
      | .skip => hunt l bs.tail
      | .discard c => ((hunt l bs.tail).1, c :: (hunt l bs.tail).2)
      | .take c k => ((hunt l (bs.drop k)).1, c :: (hunt l (bs.drop k)).2) := by
  cases bs with
  | nil => simp [hunt, drain, look_nil]
  | cons b rest =>
    rw [← drain_eq_hunt l (rest.length + 1) (b :: rest) (by simp)]
    simp only [drain, List.tail_cons]
    cases e : look l (b :: rest) with
    | wait => rfl
    | skip => exact drain_eq_hunt l _ _ (Nat.le_refl _)
    | discard c => simp only [drain_eq_hunt l rest.length rest (Nat.le_refl _)]
    | take c k =>
      have pos := look_take_pos e
      have short : ((b :: rest).drop k).length ≤ rest.length := by
        rw [List.length_drop, List.length_cons]
        omega
      simp only [drain_eq_hunt l rest.length _ short]

theorem expire_cons (l : LinkId) (b : RxByte) (bs : List RxByte) :
    expire l (b :: bs) =
      ((expire l (hunt l bs).1).1 + 1, (hunt l bs).2 ++ (expire l (hunt l bs).1).2) := by
  have short := hunt_length_le l bs
  simp only [expire, List.length_cons, expireWithin]
  simp only [expireWithin_eq_expire l bs.length _ short]
  rfl

theorem gap_eq (held : List RxByte) (ms : Nat) : gap held ms = if held = [] then none else some ms := by
  cases held <;> rfl

end FrontEnd

theorem repeat_countUp_eq (n d : Nat) :
    n.repeat (countUp 65535) d = if d < 65535 then min 65535 (d + n) else d := by
  split
  · exact repeat_countUp 65535 n d (by omega)
  · induction n with
    | zero => rfl
    | succ n ih =>
      rw [Nat.repeat, ih, countUp, if_neg ‹_›]

/-- A late byte finds the partial frames it holds discarded and counted (10, R185; log 37). -/
theorem State.byteArrives_late {s : State} {l : LinkId} (b : RxByte) (h : s.gap l = some 0) :
    s.byteArrives l b =
      { (s.expireHeld l).setHeld l (FrontEnd.receive l ((s.expireHeld l).held l) b).1
          Config.frameGapMs with
        pending := (s.expireHeld l).pending ++
          (FrontEnd.receive l ((s.expireHeld l).held l) b).2 } := by
  simp only [State.byteArrives, h, if_true]

/-- The timeout of a partial frame before its 20 ms have passed has no effect (log 2). -/
theorem exec_frameTimeout_early {l : LinkId} {s : State} (h : s.gap l ≠ some 0) :
    exec (.frameTimeout l) s = .next s := if_neg h

/-- The timeout of a partial frame discards it, counts it and resumes the hunt (10, R185). -/
theorem exec_frameTimeout {l : LinkId} {s : State} (h : s.gap l = some 0) :
    exec (.frameTimeout l) s = .next ((s.rehunt l).discards l 1).startTx := if_pos h

/-- What the hunt behind a discarded partial frame finds (10, R185; log 17). -/
theorem FrontEnd.timeout_eq (l : LinkId) (held : List RxByte) :
    FrontEnd.timeout l held = ((FrontEnd.hunt l held.tail).1, (FrontEnd.hunt l held.tail).2 ++
      if (FrontEnd.hunt l held.tail).1 = [] then [] else [.frameTimeout l]) := by
  simp only [FrontEnd.timeout, List.isEmpty_iff]

/-- Settles O4, by the link: its discards, its timeout, its hunt and its late byte. -/
theorem discardedFramesAreCounted : Obligations.DiscardedFramesAreCounted := by
  unfold Obligations.DiscardedFramesAreCounted
  refine ⟨fun s => ?_, FrontEnd.hunt_eq, fun b s => ?_, fun l => ⟨rfl, FrontEnd.expire_cons l⟩, ?_⟩
  · refine ⟨fun _ => rfl, exec_frameTimeout_early (l := .control), fun due => ?_, fun _ => rfl,
      exec_frameTimeout_early (l := .fleet), fun due => ?_⟩
    · rw [exec_frameTimeout (l := .control) due, State.rehunt, FrontEnd.timeout_eq]
      simp only [State.setHeld, State.held, FrontEnd.gap_eq]
      rfl
    · rw [exec_frameTimeout (l := .fleet) due, State.rehunt, FrontEnd.timeout_eq]
      simp only [State.setHeld, State.held, FrontEnd.gap_eq]
      rfl
  · refine ⟨fun early => ?_, fun early => ?_, fun late => ?_, fun late => ?_⟩
    · rw [State.byteArrives_in_time (l := .control) b early]
      simp only [State.setHeld, State.held, FrontEnd.gap_eq, FrontEnd.receive]
      rfl
    · rw [State.byteArrives_in_time (l := .fleet) b early]
      simp only [State.setHeld, State.held, FrontEnd.gap_eq, FrontEnd.receive]
      rfl
    · rw [State.byteArrives_late (l := .control) b late]
      simp only [State.expireHeld, State.setHeld, State.held, State.discards, FrontEnd.gap_eq,
        FrontEnd.receive, repeat_countUp_eq]
      rfl
    · rw [State.byteArrives_late (l := .fleet) b late]
      simp only [State.expireHeld, State.setHeld, State.held, State.discards, FrontEnd.gap_eq,
        FrontEnd.receive, repeat_countUp_eq]
      rfl
  · rintro c a s (sent | ⟨k, rfl, unknown⟩) none
    · obtain ⟨α, d, take, e, -⟩ := exec_sender sent
      rw [e, robotFrame_unknown none]
    · rw [exec_fleetUnknownKind unknown, robotFrame_unknown none]

/-! ### The transmitters and the queues -/

theorem exec_controlFrameSent (s : State) :
    exec .controlFrameSent s = execControlFrameSent s := rfl

/-- A free transmitter takes a reply before a notice (10, R190). -/
theorem startTx_link_idle {s : State} (idle : s.link.tx = .idle) :
    s.startTx.link =
      { s.link with
        tx := if s.link.replies ≠ [] then .reply else if s.link.notices ≠ [] then .notice
          else .idle } := by
  unfold State.startTx State.modLink
  dsimp only
  rw [idle]
  by_cases replies : s.link.replies = []
  · by_cases notices : s.link.notices = []
    · rw [if_neg (by simp [replies]), if_neg (by simp [notices]), if_neg (not_not.mpr replies),
        if_neg (not_not.mpr notices)]
      exact congrArg (fun x => { s.link with tx := x }) idle
    · simp [replies, notices]
  · simp [replies]

/-- Settles O5, by the queue that is served. -/
theorem transmittersServeTheirQueues : Obligations.TransmittersServeTheirQueues := by
  unfold Obligations.TransmittersServeTheirQueues
  refine ⟨fun s => ⟨State.startTx_busy, fun idle => ?_⟩, ?_, ?_, ?_, ?_, ?_, ?_, ?_, ?_, ?_⟩
  · exact congrArg (fun l => { s with link := l }) (startTx_link_idle idle)
  · intro s r rest sending replies
    simp only [exec_controlFrameSent, execControlFrameSent, sending, event, State.modLink, replies,
      List.drop_one]
  · intro s n rest sending notices
    simp only [exec_controlFrameSent, execControlFrameSent, sending, event, State.modLink, notices,
      List.drop_one, List.tail_cons]
  · intro s idle
    simp only [exec_controlFrameSent, execControlFrameSent, idle]
  · intro s b room
    exact congrArg (fun l => { s with link := l }) (if_pos room)
  · intro s b full
    exact congrArg (fun l => { s with link := l }) (if_neg (Nat.not_lt.mpr full))
  · intro s
    simp [State.attention]
  · intro s a m room
    exact congrArg (fun l => { s with link := l }) (if_pos room)
  · intro s a m full
    exact congrArg (fun l => { s with link := l }) (if_neg (Nat.not_lt.mpr full))
  · intro s
    change execFleetFrameSent s = _
    simp only [execFleetFrameSent, event, State.modLink, List.drop_one]

/-- Settles O6: a request or a frame that overflows does nothing else. -/
theorem fullReceiveBufferAnswersOverflow : Obligations.FullReceiveBufferAnswersOverflow := by
  unfold Obligations.FullReceiveBufferAnswersOverflow
  intro c k tag s kind tagged full
  have fullBuffer : Config.receiveCap ≤ s.link.received.length := full.ge
  have overflows : exec c s = .next (s.overflowed k tag).startTx := by
    rcases kind with ⟨body, request⟩ | rfl | ⟨body, rfl, unknown⟩
    · obtain ⟨α, d, take, e, -⟩ := exec_request request
      rw [e, hostRequest_full tagged fullBuffer]
    · change execRequestOverflow k tag s = _
      rw [execRequestOverflow, if_neg tagged, if_pos fullBuffer]
    · rw [exec_requestRejected unknown, hostRequest_full tagged fullBuffer]
  rw [overflows, State.overflowed, full]
  by_cases room : s.overflows < 4
  · rw [if_pos room]
    exact congrArg (fun t : State => Host.Outcome.next t.startTx) (if_pos room)
  · rw [if_neg room]
    exact congrArg (fun t : State => Host.Outcome.next t.startTx) (if_neg room)

/-- ANNOUNCE decodes from 14 bytes alone (10, R187). -/
theorem announce_undecoded {body : List Byte} (h : body.length ≠ 14) :
    ∃ e, Body.announce body = .error e := by
  unfold Body.announce
  split
  · simp at h
  · exact ⟨_, rfl⟩

/-- Settles O7, by what does not decode. -/
theorem unknownKindsAndBadBodiesAreRejected : Obligations.UnknownKindsAndBadBodiesAreRejected := by
  unfold Obligations.UnknownKindsAndBadBodiesAreRejected
  refine ⟨?_, ?_, ?_, ?_, ?_⟩
  · intro k tag body s unknown takes
    rw [exec_requestRejected unknown, hostRequest_taken takes]
    rfl
  · intro a k r s unknown hr
    rw [exec_fleetUnknownKind unknown, robotFrame_ok hr]
    rfl
  · intro c k tag body e s request problem takes
    obtain ⟨α, d, take, hc, hp⟩ := exec_request request
    rw [hc, hostRequest_undecoded takes (hp ▸ problem)]
  · intro c a e r s sent problem hr
    obtain ⟨α, d, take, hc, hp⟩ := exec_sender sent
    rw [hc, robotFrame_undecoded hr (hp ▸ problem)]
  · intro a body s long
    obtain ⟨e, he⟩ := announce_undecoded long
    change execAnnounce a body s = _
    rw [execAnnounce, he]
    rfl

/-! ### The section state -/

/-- What a request taken in RUNNING alone answers in UNCONFIGURED (09, R174). -/
theorem hostRequest_notRunning {α : Type} {k : Byte} {tag : Word16} {body : List Byte}
    {d : Decoded α} {take : α → State → Answer} {s : State} (h : Takes tag s)
    (p : d.problem = none) (unconfigured : s.sectionState = .unconfigured) :
    hostRequest k tag body (withBody d fun q => inRunning (take q)) s =
      .next ((s.intake k tag body).answered k tag .notRunning .none) := by
  obtain ⟨q, rfl⟩ := Decoded.ok_of_problem p
  have u : (s.intake k tag body).sectionState = .unconfigured := unconfigured
  rw [hostRequest_decoded h rfl, inRunning_unconfigured u, refuse_made]

/-- What a request of the configuration answers in RUNNING (09, R174). -/
theorem hostRequest_locked {α : Type} {k : Byte} {tag : Word16} {body : List Byte}
    {d : Decoded α} {take : α → State → Answer} {s : State} (h : Takes tag s)
    (p : d.problem = none) (running : s.sectionState = .running)
    (locked : ∀ q u, u.running = true → take q u = refuse u .lockedConfig) :
    hostRequest k tag body (withBody d take) s =
      .next ((s.intake k tag body).answered k tag .lockedConfig .none) := by
  obtain ⟨q, rfl⟩ := Decoded.ok_of_problem p
  have u : (s.intake k tag body).running = true := by
    simp [State.running, running]
  rw [hostRequest_decoded h rfl, locked q _ u, refuse_made]

/-- Settles O9, by the request. -/
theorem sectionStateGatesRequests : Obligations.SectionStateGatesRequests := by
  unfold Obligations.SectionStateGatesRequests
  intro tag body c k s request decodes takes
  constructor
  · intro unconfigured gated
    simp only [List.mem_cons, List.not_mem_nil, or_false] at gated
    rcases gated with rfl | rfl | rfl | rfl | rfl | rfl | rfl | rfl | rfl | rfl | rfl | rfl | rfl |
        rfl <;>
      obtain rfl : _ = k := by simpa [Instr.request] using request
    all_goals exact hostRequest_notRunning takes decodes unconfigured
  · intro running gated
    simp only [List.mem_cons, List.not_mem_nil, or_false] at gated
    rcases gated with rfl | rfl | rfl <;>
      obtain rfl : _ = k := by simpa [Instr.request] using request
    · exact hostRequest_locked takes decodes running fun q u hu => if_pos hu
    · exact hostRequest_locked takes decodes running fun q u hu => if_pos hu
    · exact hostRequest_locked takes decodes running fun q u hu => if_pos hu

end Sys2Proof.Machine
end

section
/-! PROOFS. The section controller (09): STATUS, the parameters, the definitions and the map in
UNCONFIGURED, and COMMIT's checks. -/

namespace Sys2Proof.Machine

/-! ### Searching an ascending list -/

section
variable {β : Type} {l : List Nat}

/-- The first entry of an ascending list that `p` accepts is the lowest one. -/
theorem find?_ascending_eq_some (asc : l.Pairwise (· < ·)) {p : Nat → Bool} {d : Nat} :
    l.find? p = some d ↔ d ∈ l ∧ p d = true ∧ ∀ j ∈ l, j < d → p j = false := by
  induction l with
  | nil => simp
  | cons a l ih =>
    obtain ⟨above, asc⟩ := List.pairwise_cons.mp asc
    by_cases ha : p a = true
    · rw [List.find?_cons_of_pos ha, Option.some.injEq]
      constructor
      · rintro rfl
        refine ⟨List.mem_cons_self, ha, fun j hj hlt => ?_⟩
        rcases List.mem_cons.mp hj with rfl | hj
        · omega
        · have := above j hj
          omega
      · rintro ⟨hd, -, low⟩
        rcases List.mem_cons.mp hd with rfl | hd
        · rfl
        · simp [low a List.mem_cons_self (above d hd)] at ha
    · rw [List.find?_cons_of_neg ha, ih asc]
      constructor
      · rintro ⟨hd, pd, low⟩
        refine ⟨List.mem_cons_of_mem _ hd, pd, fun j hj hlt => ?_⟩
        rcases List.mem_cons.mp hj with rfl | hj
        · simpa using ha
        · exact low j hj hlt
      · rintro ⟨hd, pd, low⟩
        rcases List.mem_cons.mp hd with rfl | hd
        · exact absurd pd ha
        · exact ⟨hd, pd, fun j hj => low j (List.mem_cons_of_mem _ hj)⟩

/-- The first answer on an ascending list is that of the lowest entry that has one. -/
theorem findSome?_ascending (asc : l.Pairwise (· < ·)) {f : Nat → Option β} {d : Nat} {b : β}
    (hd : d ∈ l) (fd : f d = some b) (low : ∀ j ∈ l, j < d → f j = none) :
    l.findSome? f = some b := by
  induction l with
  | nil => simp at hd
  | cons a l ih =>
    obtain ⟨above, asc⟩ := List.pairwise_cons.mp asc
    rcases List.mem_cons.mp hd with rfl | hd
    · rw [List.findSome?_cons, fd]
    · rw [List.findSome?_cons, low a List.mem_cons_self (above d hd)]
      exact ih asc hd fun j hj => low j (List.mem_cons_of_mem _ hj)

end

namespace State

theorem definedWhere_ascending (s : State) (p : Nat → Defn → Bool) :
    (s.definedWhere p).Pairwise (· < ·) := List.pairwise_lt_range.filter _

theorem mem_definedWhere {s : State} {p : Nat → Defn → Bool} {c : Nat} :
    c ∈ s.definedWhere p ↔ c < 96 ∧ ∃ d, s.defn c = some d ∧ p c d = true := by
  unfold definedWhere
  rw [List.mem_filter, List.mem_range]
  cases s.defn c <;> simp [Config.columnCount]

theorem mem_columnsOf {s : State} {z c : Nat} :
    c ∈ s.columnsOf z ↔ c < 96 ∧ ∃ d, s.defn c = some d ∧ d.zone = z := by
  unfold columnsOf
  rw [mem_definedWhere]
  simp

/-! ### The counts of STATUS and COMMIT -/

theorem definedCount_eq (s : State) :
    s.definedCount = (List.range 96).countP fun c => (s.defn c).isSome := by
  unfold definedCount
  rw [length_definedWhere]
  refine congrArg (fun p => List.countP p (List.range 96)) (funext fun c => ?_)
  cases s.defn c <;> rfl

theorem spareCounts_get (s : State) {z : Nat} (hz : z < 4) :
    s.spareCounts.get z = (List.range 96).countP fun c =>
      (s.defn c).map (·.zone) == some z && (s.mappedBy c).isNone && !(s.col c).retired := by
  unfold spareCounts
  rw [Quad.get_ofFn _ _ hz, columnsOf_eq, List.filter_filter, ← List.countP_eq_length_filter]
  refine congrArg (fun p => List.countP p (List.range 96)) (funext fun c => ?_)
  unfold isSpare
  cases s.defn c with
  | none => rfl
  | some d => simp [Bool.and_comm, Bool.and_left_comm]

theorem verifiedCount_eq (s : State) (v : Verification) :
    s.verifiedCount v =
      s.xpMap.countP fun e => e.map (fun m => (s.col m.column).verification) == some v := by
  refine congrArg (fun p => List.countP p s.xpMap) (funext fun e => ?_)
  cases e <;> rfl

theorem remapsPending_eq (s : State) :
    s.statusReport.remapsPending =
      s.xpMap.countP (fun e => e.map (·.remapPending) == some true) := by
  refine congrArg (fun p => List.countP p s.xpMap) (funext fun e => ?_)
  cases e with
  | none => rfl
  | some e => cases h : e.remapPending <;> simp [h]

theorem not_running {s : State} (h : s.sectionState = .unconfigured) : s.running = false := by
  simp [running, h]

theorem is_running {s : State} (h : s.sectionState = .running) : s.running = true := by
  simp [running, h]

end State

/-- Settles O8: STATUS answers the report of the state in which it is taken. -/
theorem statusReportsThenClearsOverrun : Obligations.StatusReportsThenClearsOverrun := by
  unfold Obligations.StatusReportsThenClearsOverrun
  intro tag s takes
  have entries : (s.intake 25 tag []).link.received.length = s.link.received.length + 1 :=
    List.length_append
  refine ⟨(s.intake 25 tag []).statusReport, hostRequest_decoded takes rfl, rfl, rfl, rfl, rfl,
    State.definedCount_eq s, State.remapsPending_eq s, fun z hz => State.spareCounts_get s hz, rfl,
    rfl, rfl, rfl, ⟨State.verifiedCount_eq s .fresh, State.verifiedCount_eq s .due,
    State.verifiedCount_eq s .unverified⟩, rfl, rfl, rfl, rfl, rfl, rfl, rfl, rfl, rfl, rfl, rfl,
    rfl, entries, rfl, rfl, rfl, rfl, rfl, rfl, rfl, rfl, rfl, rfl⟩

/-! ### SET_PARAMETERS -/

/-- A body of SET_PARAMETERS gives a value or KEEP for each field (09, R176). -/
theorem keepFields_length {ws : List Nat} {bs : List Byte} {vs : List (Option Nat)}
    (h : Body.keepFields ws bs = .ok vs) : vs.length = ws.length := by
  induction ws generalizing bs vs with
  | nil =>
    cases bs with
    | nil =>
      simp only [Body.keepFields, Except.ok.injEq] at h
      simp [← h]
    | cons b bs => simp [Body.keepFields, badBody] at h
  | cons w ws ih =>
    have more : ∀ {v : Option Nat} {rest : List Byte},
        (Body.keepFields ws rest).map (v :: ·) = .ok vs → vs.length = (w :: ws).length := by
      intro v rest e
      cases k : Body.keepFields ws rest with
      | error x => simp [k, Except.map] at e
      | ok us =>
        simp only [k, Except.map, Except.ok.injEq] at e
        simp [← e, ih k]
    cases bs with
    | nil => simp [Body.keepFields, badBody] at h
    | cons b bs =>
      simp only [Body.keepFields] at h
      split at h
      · exact more h
      · split at h
        · exact more h
        · simp [badBody] at h

/-- The value of a parameter, by its place in R175's table. -/
def Params.value (p : Params) : Nat → Nat
  | 0 => p.stageLimit
  | 1 => p.collectLimit
  | 2 => p.holdLimit
  | 3 => p.releaseGrace
  | 4 => p.operationLimit
  | 5 => p.readyLimit
  | 6 => p.auditPeriod
  | 7 => p.callLimit
  | 8 => p.interlockLimit
  | 9 => p.faultThreshold
  | 10 => p.acceptedClasses.toNat
  | _ => p.minLevel

theorem Params.put_value (p : Params) (i : Nat) : p.put i (p.value i) = p := by
  unfold Params.put Params.value
  split <;> simp

/-- Each field is taken or kept in turn (09, R176). -/
theorem Params.apply_cons (p : Params) (v : Option Nat) (vs : List (Option Nat)) (i : Nat) :
    p.apply (v :: vs) i = (p.put i (v.getD (p.value i))).apply vs (i + 1) := by
  cases v with
  | none => rw [Option.getD_none, Params.put_value, Params.apply]
  | some n => rfl

/-- The first value out of its range is named with its place (09, R176). -/
theorem firstBadParam_eq_some {vs : List (Option Nat)} {rs : List (Nat × Nat)} {i n : Nat}
    {r : Nat × Nat} (k : Nat) (hv : vs[i]? = some (some n)) (hr : rs[i]? = some r)
    (bad : ¬(r.1 ≤ n ∧ n ≤ r.2))
    (fits : ∀ j < i, ∀ n r, vs[j]? = some (some n) → rs[j]? = some r → r.1 ≤ n ∧ n ≤ r.2) :
    firstBadParam vs rs k = some (k + i, n) := by
  induction i generalizing vs rs k with
  | zero =>
    obtain ⟨vs, rfl⟩ : ∃ l, vs = some n :: l := by cases vs <;> simp_all
    obtain ⟨rs, rfl⟩ : ∃ l, rs = r :: l := by cases rs <;> simp_all
    rw [firstBadParam, if_neg bad]
    rfl
  | succ i ih =>
    obtain ⟨v, vs, rfl⟩ : ∃ v l, vs = v :: l := by cases vs <;> simp_all
    obtain ⟨q, rs, rfl⟩ : ∃ q l, rs = q :: l := by cases rs <;> simp_all
    have rest := ih (k + 1) (by simpa using hv) (by simpa using hr) fun j hj n r a b =>
      fits (j + 1) (by omega) n r (by simpa using a) (by simpa using b)
    have place : k + 1 + i = k + (i + 1) := by omega
    cases v with
    | none => rw [firstBadParam, rest, place]
    | some m => rw [firstBadParam, if_pos (fits 0 (by omega) m q rfl rfl), rest, place]

theorem firstBadParam_eq_none {vs : List (Option Nat)} {rs : List (Nat × Nat)} (k : Nat)
    (fits : ∀ (j n : Nat) (r : Nat × Nat), vs[j]? = some (some n) → rs[j]? = some r → r.1 ≤ n ∧ n ≤ r.2) :
    firstBadParam vs rs k = none := by
  induction vs generalizing rs k with
  | nil => rfl
  | cons v vs ih =>
    cases rs with
    | nil => cases v <;> rfl
    | cons q rs =>
      have rest := ih (rs := rs) (k + 1) fun j n r a b => fits (j + 1) n r a b
      cases v with
      | none => rw [firstBadParam, rest]
      | some m => rw [firstBadParam, if_pos (fits 0 m q rfl rfl), rest]

theorem takeSetParameters_outOfRange {vs : List (Option Nat)} {s : State} {i n : Nat}
    (h : s.sectionState = .unconfigured) (bad : firstBadParam vs paramRanges 0 = some (i, n)) :
    takeSetParameters vs s = refuse s .outOfRange (.paramOutOfRange i n) := by
  simp [takeSetParameters, State.not_running h, bad]

theorem takeSetParameters_ok {vs : List (Option Nat)} {s : State}
    (h : s.sectionState = .unconfigured) (good : firstBadParam vs paramRanges 0 = none) :
    takeSetParameters vs s =
      ⟨{ s with params := s.params.apply vs 0 }, .ok, .params (s.params.apply vs 0)⟩ := by
  simp [takeSetParameters, State.not_running h, good]

/-- Settles O10: the first value out of range is found, or every field is taken in turn. -/
theorem setParametersAppliesWhole : Obligations.SetParametersAppliesWhole := by
  unfold Obligations.SetParametersAppliesWhole
  intro tag body vs s decodes unconfigured takes
  refine ⟨fun i n r hv hr bad low => ?_, fun fits => ?_⟩
  · have first := firstBadParam_eq_some (rs := paramRanges) 0 hv hr bad low
    rw [Nat.zero_add] at first
    refine (hostRequest_decoded takes decodes).trans ?_
    rw [takeSetParameters_outOfRange (s := s.intake 1 tag body) unconfigured first, refuse_made]
  · have none := firstBadParam_eq_none (rs := paramRanges) 0 fits
    refine ⟨s.params.apply vs 0, ?_, ?_⟩
    · refine (hostRequest_decoded takes decodes).trans ?_
      rw [takeSetParameters_ok (s := s.intake 1 tag body) unconfigured none, Answer.made_mk]
      rfl
    · have twelve : vs.length = 12 := keepFields_length decodes
      obtain ⟨v0, v1, v2, v3, v4, v5, v6, v7, v8, v9, v10, v11, rfl⟩ :
          ∃ a b c d e f g h i j k l, vs = [a, b, c, d, e, f, g, h, i, j, k, l] := by
        match vs, twelve with
        | [a, b, c, d, e, f, g, h, i, j, k, l], _ =>
          exact ⟨a, b, c, d, e, f, g, h, i, j, k, l, rfl⟩
      simp only [Params.apply_cons]
      rfl

/-! ### DEFINE_COLUMN -/

/-- The coordinate bytes of DEFINE_COLUMN (09, R177). -/
theorem defineColumn_coordinates {body : List Byte} {q : Body.DefineColumn}
    (h : Body.defineColumn body = .ok q) : q.x ≤ 255 ∧ q.y ≤ 255 := by
  have small : ∀ b : Byte, b.toNat ≤ 255 := fun b => Nat.le_of_lt_succ b.isLt
  unfold Body.defineColumn at h
  split at h
  · split at h
    · simp only [Except.ok.injEq] at h
      simp only [← h, small, and_self]
    · simp [badBody] at h
  · split at h
    · simp only [Except.ok.injEq] at h
      simp only [← h, small, and_self]
    · simp [badBody] at h
  · simp [badBody] at h

theorem takeDefineColumn_eq {q : Body.DefineColumn} {s : State}
    (unconfigured : s.sectionState = .unconfigured) (hx : q.x ≤ 255) (hy : q.y ≤ 255) :
    takeDefineColumn q s =
      if 95 < q.index then refuse s .unknownColumn
      else if 3 < q.zone then refuse s .outOfRange (.fieldOutOfRange 2)
      else if 11 < q.group then refuse s .outOfRange (.fieldOutOfRange 3)
      else if q.capacity = 0 ∨ 4 < q.capacity then refuse s .outOfRange (.fieldOutOfRange 4)
      else if 2000 < q.settle.getD 300 then refuse s .outOfRange (.fieldOutOfRange 5)
      else
        ⟨s.modCol q.index fun k =>
            { k with defn := some ⟨q.x, q.y, q.zone, q.group, q.capacity, q.settle.getD 300⟩ },
          .ok, .defined q.index ⟨q.x, q.y, q.zone, q.group, q.capacity, q.settle.getD 300⟩⟩ := by
  have index : Config.columnCount ≤ q.index ↔ 95 < q.index := Iff.rfl
  simp only [takeDefineColumn, badDefnField, State.not_running unconfigured, index,
    Nat.not_lt.mpr hx, Nat.not_lt.mpr hy, Nat.lt_one_iff, Bool.false_eq_true, if_false]
  by_cases unknown : 95 < q.index
  · simp only [unknown, if_true]
  by_cases zone : 3 < q.zone
  · simp only [unknown, zone, if_true, if_false]
  by_cases group : 11 < q.group
  · simp only [unknown, zone, group, if_true, if_false]
  by_cases capacity : q.capacity = 0 ∨ 4 < q.capacity
  · simp only [unknown, zone, group, capacity, if_true, if_false]
  by_cases settle : 2000 < q.settle.getD 300
  · simp only [unknown, zone, group, capacity, settle, if_true, if_false]
  · simp only [unknown, zone, group, capacity, settle, if_false]

/-- Settles O11, by the first check that fails. -/
theorem defineColumnWritesTheDefinition : Obligations.DefineColumnWritesTheDefinition := by
  unfold Obligations.DefineColumnWritesTheDefinition
  intro tag body q s decodes unconfigured takes
  obtain ⟨hx, hy⟩ := defineColumn_coordinates decodes
  refine (hostRequest_decoded takes decodes).trans ?_
  rw [takeDefineColumn_eq (s := s.intake 2 tag body) unconfigured hx hy]
  simp only [Answer.made_ite, refuse_made, Answer.made_mk]

/-! ### MAP_XP -/

theorem takeMapXp_unknown {x : Nat} {target : Option Nat} {s : State} (h : 79 < x) :
    takeMapXp (x, target) s = refuse s .unknownXp := if_pos h

theorem takeMapXp_unconfigured {x : Nat} {target : Option Nat} {s : State} (h : x ≤ 79)
    (u : s.sectionState = .unconfigured) :
    takeMapXp (x, target) s = mapUnconfigured x target s := by
  have known : ¬Config.xpCount ≤ x := Nat.not_lt.mpr h
  simp [takeMapXp, known, State.not_running u]

theorem takeMapXp_running {x : Nat} {target : Option Nat} {s : State} (h : x ≤ 79)
    (u : s.sectionState = .running) :
    takeMapXp (x, target) s = mapRunning x target s := by
  have known : ¬Config.xpCount ≤ x := Nat.not_lt.mpr h
  simp [takeMapXp, known, State.is_running u]

/-- Settles O12, by the section state and the target. -/
theorem mapXpChecksAndMaps : Obligations.MapXpChecksAndMaps := by
  unfold Obligations.MapXpChecksAndMaps
  intro tag body x target s decodes takes
  refine ⟨fun unknown => ?_, fun known unconfigured => ?_, fun known running => ?_⟩
  · refine (hostRequest_decoded takes decodes).trans ?_
    rw [takeMapXp_unknown unknown, refuse_made]
  · refine (hostRequest_decoded takes decodes).trans ?_
    rw [takeMapXp_unconfigured (s := s.intake 3 tag body) known unconfigured]
    cases target with
    | none => rfl
    | some c =>
      have index : Config.columnCount ≤ c ↔ 95 < c := Iff.rfl
      simp only [mapUnconfigured, Answer.made_ite, refuse_made, Answer.made_mk]
      simp only [index, intake_xp, intake_mappedBy]
      rfl
  · refine (hostRequest_decoded takes decodes).trans ?_
    rw [takeMapXp_running (s := s.intake 3 tag body) known running]
    cases target with
    | none => rfl
    | some c =>
      simp only [mapRunning, Answer.made_ite, refuse_made, Answer.made_mk]
      simp only [intake_xp, intake_mappedBy, intake_defn, intake_col, Option.isNone_iff_eq_none]
      rfl

end Sys2Proof.Machine
end

section
/-! PROOFS. COMMIT (09, R178, R179): its checks in order, and the shut section it starts. -/

namespace Sys2Proof.Machine

namespace State

theorem mappedCount_eq_zero {s : State} : s.mappedCount = 0 ↔ ∀ e ∈ s.xpMap, e = none := by
  unfold mappedCount
  rw [List.countP_eq_zero]
  refine forall_congr' fun e => imp_congr_right fun _ => ?_
  cases e <;> simp

theorem mappedCount_ne_zero {s : State} (h : ∃ e ∈ s.xpMap, e ≠ none) : s.mappedCount ≠ 0 := by
  obtain ⟨e, he, some⟩ := h
  exact fun zero => some (mappedCount_eq_zero.mp zero e he)

/-- The lowest XP that maps an undefined column is found (09, R178). -/
theorem undefinedMapped_eq_some {s : State} {x : Nat} {e : XpEntry} (hx : x < 80)
    (he : s.xp x = some e) (undefined : s.defn e.column = none)
    (low : ∀ y < x, ∀ f, s.xp y = some f → (s.defn f.column).isSome) :
    s.undefinedMapped = some (x, e.column) := by
  refine findSome?_ascending List.pairwise_lt_range (List.mem_range.mpr hx) ?_ fun y _ hy => ?_
  · simp [he, undefined]
  · cases hf : s.xp y with
    | none => rfl
    | some f =>
      have defined := low y hy f hf
      simp [Option.isSome_iff_ne_none.mp defined]

theorem undefinedMapped_eq_none {s : State}
    (h : ∀ x e, x < 80 → s.xp x = some e → (s.defn e.column).isSome) :
    s.undefinedMapped = none := by
  refine List.findSome?_eq_none_iff.mpr fun x hx => ?_
  cases he : s.xp x with
  | none => rfl
  | some e =>
    have defined := h x e (List.mem_range.mp hx) he
    simp [Option.isSome_iff_ne_none.mp defined]

/-- The columns that clash in a list are its lowest and the lowest behind it (09, R178). -/
theorem coordinateClash_eq_some {s : State} {l : List Nat} (asc : l.Pairwise (· < ·)) {c d : Nat}
    (hc : c ∈ l) (hd : d ∈ l) (lt : c < d) (same : s.sameCoordinate c d = true)
    (lowC : ∀ i ∈ l, i < c → ∀ j ∈ l, i < j → s.sameCoordinate i j = false)
    (lowD : ∀ j ∈ l, c < j → j < d → s.sameCoordinate c j = false) :
    s.coordinateClash l = some (c, d) := by
  induction l with
  | nil => simp at hc
  | cons a l ih =>
    obtain ⟨above, rest⟩ := List.pairwise_cons.mp asc
    have behind : ∀ {j}, j ∈ a :: l → a < j → j ∈ l := fun hj lt => by
      rcases List.mem_cons.mp hj with rfl | hj
      · omega
      · exact hj
    rcases List.mem_cons.mp hc with rfl | hc
    · have found : l.find? (s.sameCoordinate c) = some d :=
        (find?_ascending_eq_some rest).mpr ⟨behind hd lt, same, fun j hj hlt =>
          lowD j (List.mem_cons_of_mem _ hj) (above j hj) hlt⟩
      rw [coordinateClash, found]
    · have none : l.find? (s.sameCoordinate a) = none :=
        List.find?_eq_none.mpr fun j hj => by
          simp [lowC a List.mem_cons_self (above c hc) j (List.mem_cons_of_mem _ hj) (above j hj)]
      rw [coordinateClash, none]
      exact ih rest hc (behind hd (Nat.lt_trans (above c hc) lt))
        (fun i hi hlt j hj => lowC i (List.mem_cons_of_mem _ hi) hlt j (List.mem_cons_of_mem _ hj))
        fun j hj => lowD j (List.mem_cons_of_mem _ hj)

theorem coordinateClash_eq_none {s : State} {l : List Nat} (asc : l.Pairwise (· < ·))
    (h : ∀ i ∈ l, ∀ j ∈ l, i < j → s.sameCoordinate i j = false) : s.coordinateClash l = none := by
  induction l with
  | nil => rfl
  | cons a l ih =>
    obtain ⟨above, rest⟩ := List.pairwise_cons.mp asc
    have none : l.find? (s.sameCoordinate a) = none :=
      List.find?_eq_none.mpr fun j hj => by
        simp [h a List.mem_cons_self j (List.mem_cons_of_mem _ hj) (above j hj)]
    rw [coordinateClash, none]
    exact ih rest fun i hi j hj => h i (List.mem_cons_of_mem _ hi) j (List.mem_cons_of_mem _ hj)

theorem sameCoordinate_iff {s : State} {c d : Nat} {j k : Defn} (hc : s.defn c = some j)
    (hd : s.defn d = some k) : s.sameCoordinate c d = true ↔ j.x = k.x ∧ j.y = k.y := by
  simp [sameCoordinate, hc, hd]

theorem sameCoordinate_eq_false {s : State} {c d : Nat} {j k : Defn} (hc : s.defn c = some j)
    (hd : s.defn d = some k) (h : ¬(j.x = k.x ∧ j.y = k.y)) : s.sameCoordinate c d = false := by
  rw [← Bool.not_eq_true, sameCoordinate_iff hc hd]
  exact h

theorem mem_defined {s : State} {c : Nat} :
    c ∈ s.definedWhere (fun _ _ => true) ↔ c < 96 ∧ ∃ d, s.defn c = some d := by
  simp [mem_definedWhere]

/-! ### The checks of COMMIT, one after another (09, R178) -/

theorem configProblem_noMappedXp {s : State} (h : s.mappedCount = 0) :
    s.configProblem = some .noMappedXp := if_pos h

theorem configProblem_undefinedColumn {s : State} {x c : Nat} (m : s.mappedCount ≠ 0)
    (h : s.undefinedMapped = some (x, c)) : s.configProblem = some (.undefinedColumn x c) := by
  rw [configProblem, if_neg m, h]

theorem configProblem_coordinateClash {s : State} {c d : Nat} {k : Defn} (m : s.mappedCount ≠ 0)
    (u : s.undefinedMapped = none)
    (h : s.coordinateClash (s.definedWhere fun _ _ => true) = some (c, d)) (hk : s.defn c = some k) :
    s.configProblem = some (.coordinateClash k.x k.y c d) := by
  rw [configProblem, if_neg m, u, h]
  simp [hk]

theorem configProblem_past {s : State} (m : s.mappedCount ≠ 0) (u : s.undefinedMapped = none)
    (h : s.coordinateClash (s.definedWhere fun _ _ => true) = none) :
    s.configProblem = if s.params.acceptedClasses = 0 then some .noGripperClass else none := by
  rw [configProblem, if_neg m, u, h]

/-- No two defined columns share a coordinate (09, R178). -/
theorem coordinateClash_none {s : State}
    (h : ∀ c < 96, ∀ d < 96, ∀ j k, c ≠ d → s.defn c = some j → s.defn d = some k →
      ¬(j.x = k.x ∧ j.y = k.y)) :
    s.coordinateClash (s.definedWhere fun _ _ => true) = none := by
  refine coordinateClash_eq_none (s.definedWhere_ascending _) fun c hc d hd lt => ?_
  obtain ⟨hc, j, hj⟩ := mem_defined.mp hc
  obtain ⟨hd, k, hk⟩ := mem_defined.mp hd
  exact sameCoordinate_eq_false hj hk (h c hc d hd j k (Nat.ne_of_lt lt) hj hk)

theorem coordinateClash_congr {s t : State} (h : ∀ c, s.defn c = t.defn c) (l : List Nat) :
    s.coordinateClash l = t.coordinateClash l := by
  have same : s.sameCoordinate = t.sameCoordinate := by
    funext c d
    simp only [sameCoordinate, h]
  induction l with
  | nil => rfl
  | cons a l ih =>
    rw [coordinateClash, coordinateClash, same]
    cases List.find? (t.sameCoordinate a) l with
    | none => exact ih
    | some d => rfl

end State

theorem intake_configProblem (s : State) (k : Byte) (tag : Word16) (body : List Byte) :
    (s.intake k tag body).configProblem = s.configProblem := by
  unfold State.configProblem
  rw [intake_definedWhere,
    State.coordinateClash_congr (s := s.intake k tag body) (t := s) fun _ => rfl]
  rfl

theorem takeCommit_refused {s : State} {p : ConfigProblem} (h : s.sectionState = .unconfigured)
    (hp : s.configProblem = some p) :
    takeCommit () s = refuse s .badConfig (.badConfig p) := by
  simp [takeCommit, State.not_running h, hp]

theorem takeCommit_ok {s : State} (h : s.sectionState = .unconfigured)
    (hp : s.configProblem = none) :
    takeCommit () s =
      ⟨s.committed, .ok, .committed s.definedCount s.mappedCount s.spareCounts s.tickInterval⟩ := by
  simp [takeCommit, State.not_running h, hp]

theorem exec_commit_refused {tag : Word16} {s : State} {p : ConfigProblem}
    (h : s.sectionState = .unconfigured) (takes : Takes tag s) (hp : s.configProblem = some p) :
    exec (.commit tag []) s =
      .next ((s.intake 4 tag []).answered 4 tag .badConfig (.badConfig p)) := by
  refine (hostRequest_decoded takes rfl).trans ?_
  rw [takeCommit_refused (s := s.intake 4 tag []) h ((intake_configProblem ..).trans hp),
    refuse_made]

/-- Settles O13, by the check that fails. -/
theorem commitChecksInOrder : Obligations.CommitChecksInOrder := by
  unfold Obligations.CommitChecksInOrder
  intro tag s unconfigured takes
  refine ⟨fun empty => ?_, fun x e hx he undefined low => ?_, ?_, ?_⟩
  · exact exec_commit_refused unconfigured takes
      (State.configProblem_noMappedXp (State.mappedCount_eq_zero.mpr empty))
  · have mapped : ∃ e ∈ s.xpMap, e ≠ none := by
      refine ⟨some e, List.mem_of_getElem? (i := x) ?_, by simp⟩
      unfold State.xp at he
      rw [List.getD_eq_getElem?_getD] at he
      cases h : s.xpMap[x]? <;> simp_all
    exact exec_commit_refused unconfigured takes (State.configProblem_undefinedColumn
      (State.mappedCount_ne_zero mapped) (State.undefinedMapped_eq_some hx he undefined low))
  · rintro c d k mapped defined hc hd ⟨ne, j, l, hj, hl, same⟩ hk lowC lowD
    have lt : c < d := by
      rcases Nat.lt_or_gt_of_ne ne with lt | gt
      · exact lt
      · exact absurd ⟨ne.symm, l, j, hl, hj, same.1.symm, same.2.symm⟩ (lowC d gt c hc)
    have clash : s.coordinateClash (s.definedWhere fun _ _ => true) = some (c, d) := by
      refine State.coordinateClash_eq_some (s.definedWhere_ascending _)
        (State.mem_defined.mpr ⟨hc, j, hj⟩) (State.mem_defined.mpr ⟨hd, l, hl⟩) lt
        ((State.sameCoordinate_iff hj hl).mpr same) (fun i hi hlt m hm him => ?_)
        fun m hm hcm hlt => ?_
      · obtain ⟨-, p, hp⟩ := State.mem_defined.mp hi
        obtain ⟨hm, q, hq⟩ := State.mem_defined.mp hm
        exact State.sameCoordinate_eq_false hp hq fun eq =>
          lowC i hlt m hm ⟨Nat.ne_of_lt him, p, q, hp, hq, eq⟩
      · obtain ⟨-, q, hq⟩ := State.mem_defined.mp hm
        exact State.sameCoordinate_eq_false hj hq fun eq =>
          lowD m hlt ⟨Nat.ne_of_lt hcm, j, q, hj, hq, eq⟩
    exact exec_commit_refused unconfigured takes (State.configProblem_coordinateClash
      (State.mappedCount_ne_zero mapped) (State.undefinedMapped_eq_none defined) clash hk)
  · intro mapped defined apart classes
    refine exec_commit_refused unconfigured takes ?_
    rw [State.configProblem_past (State.mappedCount_ne_zero mapped)
      (State.undefinedMapped_eq_none defined), if_pos classes]
    exact State.coordinateClash_none fun c hc d hd j k ne hj hk eq =>
      apart c hc d hd ⟨ne, j, k, hj, hk, eq⟩

/-! ### The shut section (09, R179) -/

theorem Column.shut_eq (k : Column) :
    k.shut =
      { Column.blank with
        defn := k.defn
        retired := k.retired
        causes := ⟨false, false, k.defn.isSome⟩ } := by
  unfold Column.shut
  cases k.defn <;> rfl

/-- A shut section keeps of each column its definition and retired mark (01, R24). -/
theorem State.shutSection_col (s : State) (c : Nat) : s.shutSection.col c = (s.col c).shut := by
  change (s.columns.map Column.shut).getD c Column.blank = (s.columns.getD c Column.blank).shut
  rw [List.getD_eq_getElem?_getD, List.getD_eq_getElem?_getD, List.getElem?_map]
  cases s.columns[c]? <;> rfl

/-- A shut section has no robot (05, R123). -/
theorem State.robot_of_roster_none {s : State} (h : s.roster = List.replicate Config.rosterCap none)
    (a : Nat) : s.robot a = none := by
  unfold State.robot
  rw [h, List.getD_eq_getElem?_getD, List.getElem?_replicate]
  split
  · rfl
  · split <;> rfl

theorem State.committed_xp (s : State) (x : Nat) :
    s.committed.xp x = (s.xp x).map fun e => ⟨e.column, false⟩ := by
  change (s.xpMap.map _).getD x none = (s.xpMap.getD x none).map _
  rw [List.getD_eq_getElem?_getD, List.getD_eq_getElem?_getD, List.getElem?_map]
  cases s.xpMap[x]? <;> rfl

theorem State.committed_mappedCount (s : State) : s.committed.mappedCount = s.mappedCount := by
  change (s.xpMap.map _).countP Option.isSome = s.xpMap.countP Option.isSome
  rw [List.countP_map]
  refine congrArg (fun p => List.countP p s.xpMap) (funext fun e => ?_)
  cases e <;> rfl

theorem State.tickInterval_mapped {s : State} (h : s.mappedCount ≠ 0) :
    s.tickInterval = s.params.auditPeriod * 1000 / s.mappedCount := if_neg h

/-- The tick interval of the section that COMMIT starts (06, R126). -/
theorem State.committed_audit {s : State} (h : s.mappedCount ≠ 0) :
    s.committed.audit =
      ⟨.arming, 0, none, none, false, some (s.params.auditPeriod * 1000 / s.mappedCount),
        some (s.params.auditPeriod * 1000 / s.mappedCount)⟩ := by
  have interval : s.committed.tickInterval = s.params.auditPeriod * 1000 / s.mappedCount := by
    rw [tickInterval_mapped (by rwa [committed_mappedCount]), committed_mappedCount]
    rfl
  rw [← interval]
  rfl

/-- Settles O14, by the fields of the state that COMMIT leaves. -/
theorem commitStartsTheShutSection : Obligations.CommitStartsTheShutSection := by
  unfold Obligations.CommitStartsTheShutSection
  intro tag s unconfigured takes mapped defined apart classes
  have some := State.mappedCount_ne_zero mapped
  have passes : (s.intake 4 tag []).configProblem = none := by
    rw [State.configProblem_past (s := s.intake 4 tag []) some
      (State.undefinedMapped_eq_none (s := s.intake 4 tag []) defined)
      (State.coordinateClash_none (s := s.intake 4 tag []) apart)]
    exact if_neg classes
  have reply : exec (.commit tag []) s =
      .next ((s.intake 4 tag []).committed.answered 4 tag .ok
        (.committed s.definedCount s.mappedCount s.spareCounts s.tickInterval)) := by
    refine (hostRequest_decoded takes rfl).trans ?_
    rw [takeCommit_ok (s := s.intake 4 tag []) unconfigured passes, Answer.made_mk]
    rfl
  rw [State.definedCount_eq, State.tickInterval_mapped some] at reply
  refine ⟨(s.intake 4 tag []).committed, s.spareCounts, reply,
    fun z hz => State.spareCounts_get s hz, fun c _ => ?_, State.committed_xp _,
    State.robot_of_roster_none rfl, State.committed_audit (s := s.intake 4 tag []) some,
    rfl, rfl, rfl, rfl, rfl, rfl, rfl, rfl⟩
  exact (State.shutSection_col s c).trans (Column.shut_eq _)

end Sys2Proof.Machine
end

section
/-! PROOFS. The column table and the map (01): remaps onto spares, retirement, fault reports, the
queries, and the choice of a column for a handover (02, R32, R34). -/

namespace Sys2Proof.Machine

/-! ### Spares -/

/-- A column that may take over an XP of a zone: defined there, unmapped and not retired
(00, 0.5; 01, R20). -/
def State.FitsSpare (s : State) (z d : Nat) : Prop :=
  d < 96 ∧ (∃ k, s.defn d = some k ∧ k.zone = z) ∧ s.mappedBy d = none ∧ (s.col d).retired = false

namespace State

theorem isSpare_iff {s : State} {z d : Nat} (h : d ∈ s.columnsOf z) :
    s.isSpare d = true ↔ s.FitsSpare z d := by
  obtain ⟨lt, k, hk, zone⟩ := mem_columnsOf.mp h
  unfold isSpare FitsSpare
  simp only [hk, Bool.and_eq_true, Option.isSome_some, true_and, Option.isNone_iff_eq_none,
    Bool.not_eq_true', lt, Option.some.injEq, exists_eq_left', zone]

theorem FitsSpare.mem {s : State} {z d : Nat} (h : s.FitsSpare z d) : d ∈ s.columnsOf z :=
  mem_columnsOf.mpr ⟨h.1, h.2.1⟩

/-- The spare of a zone is its lowest column that fits (01, R20). -/
theorem spareIn_eq_some {s : State} {z d : Nat} :
    s.spareIn z = some d ↔ s.FitsSpare z d ∧ ∀ i < d, ¬s.FitsSpare z i := by
  have asc : (s.columnsOf z).Pairwise (· < ·) := s.definedWhere_ascending _
  rw [spareIn, find?_ascending_eq_some asc]
  constructor
  · rintro ⟨hd, spare, low⟩
    refine ⟨(isSpare_iff hd).mp spare, fun i lt fits => ?_⟩
    have no := low i fits.mem lt
    rw [(isSpare_iff fits.mem).mpr fits] at no
    exact absurd no (by simp)
  · rintro ⟨fits, low⟩
    refine ⟨fits.mem, (isSpare_iff fits.mem).mpr fits, fun i hi lt => ?_⟩
    rw [← Bool.not_eq_true, isSpare_iff hi]
    exact low i lt

theorem spareIn_eq_none {s : State} {z : Nat} :
    s.spareIn z = none ↔ ∀ d, ¬s.FitsSpare z d := by
  rw [spareIn, List.find?_eq_none]
  constructor
  · exact fun none d fits => none d fits.mem ((isSpare_iff fits.mem).mpr fits)
  · exact fun none d hd spare => none d ((isSpare_iff hd).mp spare)

/-! ### The remap condition -/

theorem remapReady_iff {s : State} {c : Nat} :
    s.remapReady c = true ↔ (s.col c).stack = [] ∧ s.reservations c = 0 ∧
      (s.col c).inbound = false ∧ (s.col c).op = none := by
  simp [remapReady, and_assoc]

/-- The remap of a mapped column, by its flag and its condition (01, R19). -/
theorem examineRemap_mapped {s : State} {x c : Nat} {e : XpEntry} (h : s.mappedBy c = some x)
    (he : s.xp x = some e) :
    s.examineRemap c =
      if e.remapPending = true ∧ s.remapReady c = true then s.completeRemap x c else (s, []) := by
  rw [examineRemap, h]
  simp only [he, Option.map_some, Option.getD_some, Bool.and_eq_true]

/-- What completing a remap writes (01, R20; 06, R134). -/
theorem completeRemap_eq (s : State) (x c : Nat) :
    s.completeRemap x c =
      ({ s with
          xpMap := updateAt s.xpMap x fun _ => (s.spareIn (s.zoneOf c)).map (⟨·, false⟩)
          audit :=
            if s.audit.called = some c then
              { s.audit with
                state := .idle, called := none, callLimit := none, overdue := false,
                pointer := if c < 95 then c + 1 else 0 }
            else s.audit },
        [.remapDone x c (s.spareIn (s.zoneOf c))]) := by
  have wrap : c + 1 < Config.columnCount ↔ c < 95 := Nat.succ_lt_succ_iff
  unfold completeRemap
  by_cases call : s.audit.called = some c
  · simp only [setXp_audit, call, if_true, endCall, pointerAfter, wrap]
    rfl
  · simp only [setXp_audit, call, if_false]
    rfl

end State

/-- Settles O18: a remap waits, or completes onto the spare of the zone. -/
theorem remapCompletesOntoTheLowestSpare : Obligations.RemapCompletesOntoTheLowestSpare := by
  unfold Obligations.RemapCompletesOntoTheLowestSpare
  intro s x c e mapped entry
  simp only [State.examineRemap_mapped mapped entry, ← State.remapReady_iff]
  refine ⟨fun waits => if_neg waits, fun pending ready => ?_⟩
  rw [if_pos ⟨pending, ready⟩]
  exact ⟨s.spareIn (s.zoneOf c), s.completeRemap_eq x c, fun d h => State.spareIn_eq_some.mp h,
    fun h => State.spareIn_eq_none.mp h⟩

/-! ### Retirement -/

theorem takeRetireColumn_undefined {s : State} {c : Nat} (h : s.defn c = none) :
    takeRetireColumn c s = refuse s .unknownColumn := by
  simp [takeRetireColumn, h]

theorem takeRetireColumn_already {s : State} {c : Nat} {d : Defn} (h : s.defn c = some d)
    (r : (s.col c).retired = true) : takeRetireColumn c s = refuse s .already := by
  simp [takeRetireColumn, h, r]

theorem takeRetireColumn_ok {s : State} {c : Nat} {d : Defn} (h : s.defn c = some d)
    (r : (s.col c).retired = false) :
    takeRetireColumn c s =
      ⟨s.retire c .host, .ok,
        .columnRetired c (s.mappedBy c)
          ((s.mappedBy c).isSome && ((s.retire c .host).mappedBy c).isNone)⟩ := by
  simp [takeRetireColumn, h, r]

/-- Settles O19, by the column. -/
theorem retireColumnMarksAndExaminesTheRemap :
    Obligations.RetireColumnMarksAndExaminesTheRemap := by
  unfold Obligations.RetireColumnMarksAndExaminesTheRemap
  intro tag c s running takes
  have taken := fun (t : Answer) (e : takeRetireColumn c.toNat (s.intake 17 tag [c]) = t) =>
    (hostRequest_running (k := 17) (body := [c]) (take := takeRetireColumn) (d := Body.one [c]) takes
      rfl running).trans (congrArg (fun t : Answer => Host.Outcome.next (t.made 17 tag)) e)
  refine ⟨fun undefined => taken _ (takeRetireColumn_undefined undefined), fun d defined retired =>
    taken _ (takeRetireColumn_already defined retired), fun d defined usable => ?_⟩
  refine (taken _ (takeRetireColumn_ok defined usable)).trans ?_
  rw [Answer.made_mk]
  unfold State.retire Noted.emit
  rw [intake_defn, defined, intake_mappedBy, intake_col]
  rfl

/-! ### Fault reports -/

theorem takeFaultReport_undefined {a : Nat} {r : Robot} {c : Nat} {k : FaultKind} {s : State}
    (h : s.defn c = none) :
    takeFaultReport a r (c, k) s = s.send a (.refused .unknownColumn .none) := by
  simp [takeFaultReport, h, State.sendRefused]

theorem takeFaultReport_notActive {a : Nat} {r : Robot} {c : Nat} {k : FaultKind} {s : State}
    (h : s.defn c ≠ none) (n : r.state ≠ .active) :
    takeFaultReport a r (c, k) s = s.send a (.refused .notActive .none) := by
  simp [takeFaultReport, h, n, State.sendRefused]

theorem takeFaultReport_ok {a : Nat} {r : Robot} {c : Nat} {k : FaultKind} {s : State}
    (h : s.defn c ≠ none) (n : r.state = .active) :
    takeFaultReport a r (c, k) s = (s.countFault c (.report k a)).send a (.accepted .none) := by
  simp [takeFaultReport, h, n]

/-- A fault against a column in use is counted, and the count that reaches the threshold retires it
(01, R11, R12). -/
theorem State.countFault_eq {s : State} {c : Nat} (f : LastFault) (h : s.defn c ≠ none) :
    s.countFault c f =
      let counted := s.modCol c fun q => { q with faultCount := q.faultCount + 1, lastFault := some f }
      if (s.col c).retired then s
      else if (s.col c).faultCount + 1 < s.params.faultThreshold then counted
      else counted.retire c .faults := by
  obtain ⟨d, hd⟩ := Option.ne_none_iff_exists'.mp h
  have count : ((s.modCol c fun q =>
      { q with faultCount := q.faultCount + 1, lastFault := some f }).col c).faultCount =
        (s.col c).faultCount + 1 := by
    rw [s.col_modCol_same (s.lt_of_defn hd)]
  unfold countFault
  simp only [count]
  by_cases retired : (s.col c).retired = true
  · rw [if_pos retired, if_pos retired]
  · rw [if_neg retired, if_neg retired]
    by_cases below : (s.col c).faultCount + 1 < s.params.faultThreshold
    · rw [if_pos below, if_neg (Nat.not_le.mpr below)]
    · rw [if_neg below, if_pos (Nat.not_lt.mp below)]

/-- Settles O20, by the first check that fails and by the count. -/
theorem faultReportCountsUpToRetirement : Obligations.FaultReportCountsUpToRetirement := by
  unfold Obligations.FaultReportCountsUpToRetirement
  intro addr c k kind r s hkind hr
  have decodes : Body.faultReport [c, k] = .ok (c.toNat, kind) := by
    simp [Body.faultReport, hkind]
  have frame : exec (.faultReport addr [c, k]) s =
      .next (takeFaultReport addr.toNat r (c.toNat, kind) s).startTx := by
    change execFaultReport addr [c, k] s = _
    rw [execFaultReport, decodes, robotFrame_ok hr]
  refine frame.trans (congrArg (fun t : State => Host.Outcome.next t.startTx) ?_)
  by_cases undefined : s.defn c.toNat = none
  · rw [takeFaultReport_undefined undefined, if_pos undefined]
  rw [if_neg undefined]
  by_cases active : r.state = .active
  · rw [takeFaultReport_ok undefined active, if_neg (not_not.mpr active),
      State.countFault_eq _ undefined]
    dsimp only
    split
    · rfl
    · split <;> rfl
  · rw [takeFaultReport_notActive undefined active, if_pos active]

/-! ### The queries -/

namespace State

theorem locked_defined {s : State} {c : Nat} {d : Defn} (h : s.defn c = some d) :
    s.locked c = s.lockFlags.getD d.group false := by
  simp [locked, h]

theorem zoneOf_defined {s : State} {c : Nat} {d : Defn} (h : s.defn c = some d) :
    s.zoneOf c = d.zone := by
  simp [zoneOf, h]

theorem freeRoom_defined {s : State} {c : Nat} {d : Defn} (h : s.defn c = some d) :
    s.freeRoom c = d.capacity - s.roomUsed c := by
  simp [freeRoom, h]

theorem hasRoom_defined {s : State} {c : Nat} {d : Defn} (h : s.defn c = some d) :
    s.hasRoom c = decide (s.roomUsed c < d.capacity) := by
  simp [hasRoom, h]

theorem columnReport_eq {s : State} {c : Nat} {d : Defn} (h : s.defn c = some d) :
    s.columnReport c d =
      { index := c
        defn := d
        mapping := (s.mappedBy c).map fun x => (x, ((s.xp x).map (·.remapPending)).getD false)
        retired := (s.col c).retired
        locked := s.lockFlags.getD d.group false
        stack := (s.col c).stack.map s.entryView
        depth := (s.col c).stack.length
        reserving := s.reserving c
        inbound := (s.col c).inbound
        freeRoom := d.capacity - s.roomUsed c
        faultCount := (s.col c).faultCount
        lastFault := (s.col c).lastFault
        causes := (s.col c).causes
        verification := (s.col c).verification
        seen := (s.col c).seen
        sinceSettle := (s.col c).settleMark.map fun m => s.time - m.at_
        grant := (s.col c).grant
        waits := (s.col c).waits
        op := (s.col c).op.map fun o => (o.kind, o.robot, s.time - o.startedAt)
        called := s.audit.called == some c } := by
  rw [columnReport, locked_defined h, freeRoom_defined h]

theorem eligibilityReport_eq {s : State} {c : Nat} {d : Defn} (h : s.defn c = some d) :
    s.eligibilityReport c =
      { zone := d.zone
        depth := (s.col c).stack.length
        reservations := s.reservations c
        inbound := (s.col c).inbound
        freeRoom := d.capacity - s.roomUsed c
        retired := (s.col c).retired
        locked := s.lockFlags.getD d.group false
        frozen := s.frozen c
        verification := (s.col c).verification
        obstacle := s.obstacle c } := by
  rw [eligibilityReport, locked_defined h, freeRoom_defined h, zoneOf_defined h]

end State

theorem exec_queryColumn {tag : Word16} {b : Byte} {s : State} (takes : Takes tag s) :
    exec (.queryColumn tag [b]) s =
      .next ((takeQueryColumn b.toNat (s.intake 20 tag [b])).made 20 tag) :=
  hostRequest_decoded takes rfl

theorem exec_queryXp {tag : Word16} {b : Byte} {s : State} (takes : Takes tag s) :
    exec (.queryXp tag [b]) s =
      .next ((takeQueryXp b.toNat (s.intake 21 tag [b])).made 21 tag) :=
  hostRequest_decoded takes rfl

theorem takeQueryXp_unknown {s : State} {x : Nat} (h : 79 < x) :
    takeQueryXp x s = refuse s .unknownXp := if_pos h

theorem takeQueryXp_known {s : State} {x : Nat} (h : x ≤ 79) :
    takeQueryXp x s = ⟨s, .ok, .xp (s.xpReport x)⟩ := if_neg (Nat.not_le.mpr (Nat.lt_succ_of_le h))

/-- Settles O21, by the query and what it names. -/
theorem columnQueriesReportTheRecord : Obligations.ColumnQueriesReportTheRecord := by
  unfold Obligations.ColumnQueriesReportTheRecord
  intro tag b s takes
  refine ⟨fun undefined => ?_, fun d defined => ?_, fun unknown => ?_, fun known unmapped => ?_,
    fun e known mapped => ?_⟩
  · rw [exec_queryColumn takes, takeQueryColumn, intake_defn, undefined]
    rfl
  · rw [exec_queryColumn takes, takeQueryColumn, intake_defn, defined]
    dsimp only
    rw [State.columnReport_eq (s := s.intake 20 tag [b]) defined]
    rfl
  · rw [exec_queryXp takes, takeQueryXp_unknown unknown, refuse_made]
  · rw [exec_queryXp takes, takeQueryXp_known known, State.xpReport, intake_xp, unmapped]
    rfl
  · rw [exec_queryXp takes, takeQueryXp_known known, State.xpReport, intake_xp, mapped,
      Option.map_some, intake_defn]
    cases defined : s.defn e.column with
    | none => rfl
    | some d =>
      rw [Option.map_some, State.eligibilityReport_eq (s := s.intake 21 tag [b]) defined]
      rfl

/-! ### Eligibility for allocation -/

namespace State

theorem Causes.any_iff (k : Causes) : k.any = true ↔ k ≠ ⟨false, false, false⟩ := by
  cases k
  simp only [Causes.any, Bool.or_eq_true, ne_eq, Causes.mk.injEq]
  grind

theorem frozen_iff {s : State} {c : Nat} :
    s.frozen c = true ↔ (s.col c).causes ≠ ⟨false, false, false⟩ := Causes.any_iff _

/-- A transition of the hold tightens every zone, another one those whose target is stricter
(02, R32; 08, R155). -/
theorem tightening_eq (s : State) (z : Nat) :
    s.tightening z =
      match s.zones.trans with
      | some t => t.kind == .hold || decide ((s.zones.current.get z).level < (t.targets.get z).level)
      | none => false := rfl

theorem obstacle_unmapped {s : State} {c : Nat} (h : s.mappedBy c = none) :
    s.obstacle c = some .unmapped := by
  rw [obstacle, h]

/-- The conditions of R32 in their order, for a mapped and defined column. -/
theorem obstacle_mapped {s : State} {c x : Nat} {d : Defn} {e : XpEntry} (hd : s.defn c = some d)
    (he : s.xp x = some e) (h : s.mappedBy c = some x) :
    s.obstacle c =
      if (s.col c).retired ∨ e.remapPending then some .retired
      else if s.lockFlags.getD d.group false then some .locked
      else if (s.col c).causes ≠ ⟨false, false, false⟩ then some .frozen
      else if (s.col c).verification = .unverified then some .unverified
      else if s.zones.current.get d.zone ≠ .openMode ∨ s.tightening d.zone ∨ s.zones.hold then
        some .zoneMode
      else if s.roomUsed c < d.capacity then none
      else some .full := by
  rw [obstacle, h]
  simp only [he, Option.map_some, Option.getD_some, Bool.or_eq_true, locked_defined hd, frozen_iff,
    beq_iff_eq, bne_iff_ne, zoneOf_defined hd, or_assoc, hasRoom_defined hd, Bool.not_eq_true',
    decide_eq_false_iff_not, ite_not]

/-! ### The choice in a zone -/

/-- An XP of a zone whose column is eligible (02, R34). -/
def Candidate (s : State) (z x c : Nat) : Prop :=
  (s.xp x).map (·.column) = some c ∧ (s.defn c).map (·.zone) = some z ∧ s.obstacle c = none

/-- The choice as it stands after the XPs below `n` (02, R34). -/
def Chosen (s : State) (z n : Nat) : Option (Nat × Nat) → Prop
  | none => ∀ x c, x < n → ¬s.Candidate z x c
  | some (x, c) =>
    (x < n ∧ s.Candidate z x c) ∧ ∀ y d, y < n → s.Candidate z y d →
      s.roomUsed c < s.roomUsed d ∨ (s.roomUsed c = s.roomUsed d ∧ x ≤ y)

/-- One XP more (02, R34). -/
def chooseStep (s : State) (z : Nat) (best : Option (Nat × Nat)) (x : Nat) : Option (Nat × Nat) :=
  match s.xp x with
  | none => best
  | some e =>
    if (s.defn e.column).map (·.zone) != some z || (s.obstacle e.column).isSome then best
    else
      match best with
      | none => some (x, e.column)
      | some b => if s.roomUsed e.column < s.roomUsed b.2 then some (x, e.column) else best

theorem chooseInZone_eq (s : State) (z : Nat) :
    s.chooseInZone z = (List.range Config.xpCount).foldl (s.chooseStep z) none := rfl

theorem chooseStep_candidate {s : State} {z x c : Nat} (h : s.Candidate z x c)
    (best : Option (Nat × Nat)) :
    s.chooseStep z best x =
      match best with
      | none => some (x, c)
      | some b => if s.roomUsed c < s.roomUsed b.2 then some (x, c) else best := by
  obtain ⟨hx, hz, ho⟩ := h
  obtain ⟨e, he, rfl⟩ := Option.map_eq_some_iff.mp hx
  unfold chooseStep
  rw [he]
  simp only [hz, ho, bne_self_eq_false, Option.isSome_none, Bool.or_self, Bool.false_eq_true,
    if_false]

theorem chooseStep_other {s : State} {z x : Nat} (h : ∀ c, ¬s.Candidate z x c)
    (best : Option (Nat × Nat)) : s.chooseStep z best x = best := by
  unfold chooseStep
  cases he : s.xp x with
  | none => rfl
  | some e =>
    refine if_pos ?_
    have no := h e.column
    simp only [Candidate, he, Option.map_some, true_and, not_and] at no
    by_cases zone : (s.defn e.column).map (·.zone) = some z
    · simp [Option.isSome_iff_ne_none.mpr (no zone)]
    · simp [zone]

theorem Candidate.unique {s : State} {z x c d : Nat} (h : s.Candidate z x c)
    (k : s.Candidate z x d) : c = d := Option.some.inj (h.1.symm.trans k.1)

/-- One XP more keeps the choice right. -/
theorem Chosen.step {s : State} {z n : Nat} {best : Option (Nat × Nat)} (h : s.Chosen z n best) :
    s.Chosen z (n + 1) (s.chooseStep z best n) := by
  have below : ∀ {y}, y < n + 1 → y ≠ n → y < n := fun lt ne => by omega
  by_cases some : ∃ c, s.Candidate z n c
  · obtain ⟨c, cand⟩ := some
    rw [chooseStep_candidate cand]
    cases best with
    | none =>
      refine ⟨⟨Nat.lt_succ_self n, cand⟩, fun y d hy k => ?_⟩
      by_cases last : y = n
      · subst last
        exact .inr ⟨by rw [cand.unique k], Nat.le_refl _⟩
      · exact absurd k (h y d (below hy last))
    | some b =>
      obtain ⟨x, e⟩ := b
      obtain ⟨⟨hx, old⟩, least⟩ := h
      dsimp only
      split
      next less =>
        refine ⟨⟨Nat.lt_succ_self n, cand⟩, fun y d hy k => ?_⟩
        by_cases last : y = n
        · subst last
          exact .inr ⟨by rw [cand.unique k], Nat.le_refl _⟩
        · have := least y d (below hy last) k
          omega
      next notLess =>
        refine ⟨⟨by omega, old⟩, fun y d hy k => ?_⟩
        by_cases last : y = n
        · subst last
          rw [← cand.unique k]
          omega
        · exact least y d (below hy last) k
  · rw [chooseStep_other (not_exists.mp some)]
    cases best with
    | none =>
      intro x c hx k
      by_cases last : x = n
      · exact some ⟨c, last ▸ k⟩
      · exact h x c (below hx last) k
    | some b =>
      obtain ⟨x, e⟩ := b
      obtain ⟨⟨hx, old⟩, least⟩ := h
      refine ⟨⟨by omega, old⟩, fun y d hy k => ?_⟩
      by_cases last : y = n
      · exact absurd ⟨d, last ▸ k⟩ some
      · exact least y d (below hy last) k

/-- The column chosen for a zone target (02, R34). -/
theorem chosen_chooseInZone (s : State) (z : Nat) : s.Chosen z 80 (s.chooseInZone z) := by
  have upTo : ∀ n, s.Chosen z n ((List.range n).foldl (s.chooseStep z) none) := by
    intro n
    induction n with
    | zero => exact fun x c hx => absurd hx (Nat.not_lt_zero x)
    | succ n ih =>
      rw [List.range_succ, List.foldl_append]
      exact ih.step
  exact upTo 80

end State

/-- Settles O22, by the number, the conditions of R32, and the choice of R34. -/
theorem numbersAndColumnsAreChosenByRule : Obligations.NumbersAndColumnsAreChosenByRule := by
  unfold Obligations.NumbersAndColumnsAreChosenByRule
  refine ⟨fun s table last => ?_, fun s c x d e hd he => ?_, fun s z => ?_⟩
  · obtain ⟨free, counted⟩ := s.nextNumber_spec table last
    obtain ⟨low, high⟩ := s.nextNumber_bounds table last
    exact ⟨free, low, high, counted⟩
  · refine ⟨State.obstacle_unmapped, fun mapped => ?_⟩
    rw [State.obstacle_mapped hd he mapped, State.tightening_eq]
    rfl
  · have chosen := s.chosen_chooseInZone z
    refine ⟨fun x c h => ?_, fun h x c cand => ?_⟩
    · rw [h] at chosen
      obtain ⟨⟨hx, cand⟩, least⟩ := chosen
      exact ⟨⟨hx, cand⟩, fun y d k => least y d k.1 k.2⟩
    · rw [h] at chosen
      exact chosen x c cand.1 cand.2

end Sys2Proof.Machine
end

section
/-! PROOFS. Opening a handover (02, R31 to R35) and giving it a taker (R36). -/

namespace Sys2Proof.Machine

/-! ### The checks of OPEN_HANDOVER -/

/-- Checks 7 and 8 of OPEN_HANDOVER: the refusal of a target (02, R31). -/
def State.targetProblem (s : State) (t : Body.Target) : Option (Status × ReplyBody) :=
  match s.allocate t with
  | .error p => some p
  | .ok _ => none

namespace State

theorem targetProblem_xp (s : State) (x : Nat) :
    s.targetProblem (.xp x) =
      if 79 < x then some (.unknownXp, .none)
      else
        match s.xp x with
        | none => some (.notEligible, .notEligible (some x) none .unmapped)
        | some e =>
          (s.obstacle e.column).map fun r => (.notEligible, .notEligible (some x) (some e.column) r) := by
  have bound : Config.xpCount ≤ x ↔ 79 < x := Iff.rfl
  unfold targetProblem allocate
  simp only [bound]
  by_cases unknown : 79 < x
  · rw [if_pos unknown, if_pos unknown]
  rw [if_neg unknown, if_neg unknown]
  cases s.xp x with
  | none => rfl
  | some e => cases h : s.obstacle e.column <;> simp [h]

theorem targetProblem_zone (s : State) (z : Nat) :
    s.targetProblem (.zone z) =
      if 3 < z then some (.outOfRange, .none)
      else if s.chooseInZone z = none then some (.notEligible, .notEligible none none .noColumn)
      else none := by
  unfold targetProblem allocate
  by_cases unknown : 3 < z
  · simp only [if_pos unknown]
  simp only [if_neg unknown]
  cases s.chooseInZone z <;> rfl

theorem handoverByTag_isSome {s : State} {t : BinTag} :
    (s.handoverByTag t).isSome = true ↔ ∃ h ∈ s.handovers, h.tag = t := by
  simp [handoverByTag, List.find?_isSome]

theorem giverProblem_known {s : State} {g : Nat} {r : Robot} (t : BinTag) (h : s.robot g = some r) :
    s.giverProblem g t =
      if r.state ≠ .active then some (.notActive, .none)
      else if ¬(r.slot = .empty ∨ r.slot = .untracked t) then some (.giverLoaded, .none)
      else none := by
  unfold giverProblem
  rw [h]
  simp only [ite_not]

theorem takerProblem_addr {s : State} {a : Nat} {r : Robot} (h : s.robot a = some r) :
    s.takerProblem (.addr a) = if r.state = .inactive then some (.inactive, .none) else none := by
  rw [takerProblem, h]

theorem takerProblem_unknown {s : State} {a : Nat} (h : s.robot a = none) :
    s.takerProblem (.addr a) = some (.unknownRobot, .unknownRobot .taker) := by
  rw [takerProblem, h]

/-- A taker that ASSIGN_TAKER and OPEN_HANDOVER accept (02, R31, R36). -/
theorem takerProblem_ok {s : State} {k : Taker}
    (h : k = .any ∨ ∃ a r, k = .addr a ∧ s.robot a = some r ∧ r.state ≠ .inactive) :
    s.takerProblem k = none := by
  rcases h with rfl | ⟨a, r, rfl, hr, active⟩
  · rfl
  · rw [takerProblem_addr hr, if_neg active]

end State

theorem takeOpenHandover_refused {s : State} {q : Body.OpenHandover} {st : Status} {b : ReplyBody}
    (h : (s.openProblem q).or (s.targetProblem q.target) = some (st, b)) :
    takeOpenHandover q s = refuse s st b := by
  unfold takeOpenHandover
  cases early : s.openProblem q with
  | some p =>
    obtain rfl : p = (st, b) := by simpa [early] using h
    rfl
  | none =>
    rw [early, Option.none_or, State.targetProblem] at h
    cases late : s.allocate q.target with
    | ok p => simp [late] at h
    | error p =>
      obtain rfl : p = (st, b) := by simpa [late] using h
      rfl

theorem takeOpenHandover_ok {s : State} {q : Body.OpenHandover} {x c : Nat}
    (h : s.openProblem q = none) (k : s.allocate q.target = .ok (x, c)) :
    takeOpenHandover q s = ⟨s.openOn q c, .ok, .opened s.nextNumber c x⟩ := by
  rw [takeOpenHandover, h, k]

theorem State.openProblem_checks (s : State) (q : Body.OpenHandover) :
    s.openProblem q =
      if q.tag = 0 then some (.badTag, .none)
      else if ∃ h ∈ s.handovers, h.tag = q.tag then some (.duplicateBin, .none)
      else if 192 ≤ s.handovers.length then some (.tableFull, .none)
      else (s.giverProblem q.giver q.tag).or (s.takerProblem q.taker) := by
  unfold openProblem
  by_cases noTag : q.tag = 0
  · rw [if_pos noTag, if_pos noTag]
  rw [if_neg noTag, if_neg noTag]
  by_cases duplicate : ∃ h ∈ s.handovers, h.tag = q.tag
  · rw [if_pos duplicate, if_pos (handoverByTag_isSome.mpr duplicate)]
  · rw [if_neg duplicate, if_neg (mt handoverByTag_isSome.mp duplicate)]
    rfl

/-- Settles O23, by the first check that fails. -/
theorem openHandoverChecksInOrder : Obligations.OpenHandoverChecksInOrder := by
  unfold Obligations.OpenHandoverChecksInOrder
  intro tag body q s decodes running takes target taker problem st b refused
  have htarget : s.targetProblem q.target = target := by
    cases ht : q.target with
    | xp x =>
      rw [State.targetProblem_xp]
      simp only [target, ht] <;> rfl
    | zone z =>
      rw [State.targetProblem_zone]
      simp only [target, ht]
  have htaker : (s.takerProblem q.taker).or (s.targetProblem q.target) = taker := by
    rw [htarget]
    cases hk : q.taker with
    | none => simp only [taker, hk, State.takerProblem, Option.some_or]
    | any => simp only [taker, hk, State.takerProblem, Option.none_or]
    | addr a =>
      cases hr : s.robot a with
      | none => simp only [taker, hk, hr, State.takerProblem_unknown, Option.some_or]
      | some r =>
        by_cases inactive : r.state = .inactive
        · simp only [taker, hk, hr, State.takerProblem_addr hr, if_pos inactive, Option.some_or]
        · simp only [taker, hk, hr, State.takerProblem_addr hr, if_neg inactive, Option.none_or]
  have hproblem : (s.openProblem q).or (s.targetProblem q.target) = problem := by
    rw [State.openProblem_checks]
    by_cases noTag : q.tag = 0
    · simp only [problem, if_pos noTag, Option.some_or]
    by_cases duplicate : ∃ h ∈ s.handovers, h.tag = q.tag
    · simp only [problem, if_neg noTag, if_pos duplicate, Option.some_or]
    by_cases full : 192 ≤ s.handovers.length
    · simp only [problem, if_neg noTag, if_neg duplicate, if_pos full, Option.some_or]
    simp only [problem, if_neg noTag, if_neg duplicate, if_neg full, Option.or_assoc, htaker]
    cases hg : s.robot q.giver with
    | none => simp only [State.giverProblem, hg, Option.some_or]
    | some r =>
      rw [State.giverProblem_known q.tag hg]
      by_cases active : r.state ≠ .active
      · simp only [if_pos active, Option.some_or]
      by_cases loaded : ¬(r.slot = .empty ∨ r.slot = .untracked q.tag)
      · simp only [if_neg active, if_pos loaded, Option.some_or]
      · simp only [if_neg active, if_neg loaded, Option.none_or]
  have u : (s.intake 9 tag body).openProblem q = s.openProblem q := rfl
  refine (hostRequest_running takes decodes running).trans ?_
  rw [takeOpenHandover_refused (s := s.intake 9 tag body) (hproblem.trans refused), refuse_made]

/-! ### The record OPEN_HANDOVER creates -/

namespace State

theorem setSlot_rest (s : State) (a : Nat) (sl : Slot) (b : Bool) :
    s.setSlot a sl b = { s with roster := (s.setSlot a sl b).roster } := by
  unfold setSlot modRobot
  split <;> rfl

theorem robot_setSlot_same {s : State} {a : Nat} {r : Robot} (sl : Slot) (b : Bool)
    (h : s.robot a = some r) :
    (s.setSlot a sl b).robot a = some { r with slot := sl, loadConfirmed := b } := by
  rw [setSlot, robot_modRobot_same, h]
  rfl

theorem robot_setSlot_ne {s : State} {a c : Nat} (sl : Slot) (b : Bool) (h : c ≠ a) :
    (s.setSlot a sl b).robot c = s.robot c := s.robot_modRobot_ne h _

/-- A record put in its place is one record more (02, R35). -/
theorem addHandover_perm (s : State) (h : Handover) :
    (s.addHandover h).handovers.Perm (h :: s.handovers) := by
  have parts : s.handovers.filter (fun k => h.number ≤ k.number) =
      s.handovers.filter fun k => !decide (k.number < h.number) := by
    refine List.filter_congr fun k _ => ?_
    rw [← decide_not, decide_eq_decide]
    exact Nat.not_lt.symm
  rw [addHandover_handovers, parts]
  exact List.perm_middle.trans ((List.filter_append_perm _ _).cons h)

theorem allocate_ok {s : State} {t : Body.Target} {x c : Nat}
    (h : (t = .xp x ∧ x ≤ 79 ∧ (s.xp x).map (·.column) = some c ∧ s.obstacle c = none) ∨
      ∃ z, t = .zone z ∧ z ≤ 3 ∧ s.chooseInZone z = some (x, c)) :
    s.allocate t = .ok (x, c) := by
  rcases h with ⟨rfl, hx, hc, eligible⟩ | ⟨z, rfl, hz, chosen⟩
  · obtain ⟨e, he, rfl⟩ := Option.map_eq_some_iff.mp hc
    have known : ¬Config.xpCount ≤ x := Nat.not_lt.mpr hx
    rw [allocate, if_neg known, he]
    simp only [eligible]
  · rw [allocate, if_neg (Nat.not_lt.mpr hz), chosen]

theorem numberAfter_congr {s t : State} (h : ∀ m, s.handover m = t.handover m) (k n : Nat) :
    s.numberAfter k n = t.numberAfter k n := by
  induction k generalizing n with
  | zero => rfl
  | succ k ih => simp only [numberAfter, h, ih]

theorem openOn_handovers (s : State) (q : Body.OpenHandover) (c : Nat) :
    (s.openOn q c).handovers.Perm (s.openRecord q c :: s.handovers) := by
  rw [openOn, setSlot_handovers]
  exact s.addHandover_perm (s.openRecord q c)

theorem openOn_giver {s : State} {q : Body.OpenHandover} {r : Robot} (c : Nat)
    (h : s.robot q.giver = some r) :
    (s.openOn q c).robot q.giver =
      some { r with slot := .tracked s.nextNumber, loadConfirmed := r.slot == .untracked q.tag } := by
  have loaded : ((s.robot q.giver).map Robot.slot == some (Slot.untracked q.tag)) =
      (r.slot == .untracked q.tag) := by
    rw [h]
    rfl
  rw [← loaded]
  exact robot_setSlot_same
    (s := { s.addHandover (s.openRecord q c) with lastNumber := s.nextNumber }) _ _ h

theorem openOn_robot_ne {s : State} {q : Body.OpenHandover} {a : Nat} (c : Nat) (h : a ≠ q.giver) :
    (s.openOn q c).robot a = s.robot a := by
  rw [openOn, robot_setSlot_ne _ _ h]
  rfl

theorem openOn_rest (s : State) (q : Body.OpenHandover) (c : Nat) :
    { s.openOn q c with handovers := s.handovers, roster := s.roster } =
      { s with lastNumber := s.nextNumber } := by
  rw [openOn, setSlot_rest]
  rfl

end State

theorem intake_nextNumber (s : State) (k : Byte) (tag : Word16) (body : List Byte) :
    (s.intake k tag body).nextNumber = s.nextNumber :=
  State.numberAfter_congr (s := s.intake k tag body) (t := s) (fun _ => rfl) s.handovers.length
    s.lastNumber

/-- Settles O24, by the record and the slot that are written. -/
theorem openHandoverCreatesTheRecord : Obligations.OpenHandoverCreatesTheRecord := by
  unfold Obligations.OpenHandoverCreatesTheRecord
  intro tag body q r x c s decodes running takes tagged fresh room giver active slot taker target
  have noProblem : s.openProblem q = none := by
    have noDuplicate : ¬∃ h ∈ s.handovers, h.tag = q.tag := fun ⟨h, hh, e⟩ => fresh h hh e
    rw [State.openProblem_checks, if_neg tagged, if_neg noDuplicate, if_neg (Nat.not_le.mpr room),
      State.giverProblem_known q.tag giver, if_neg (not_not.mpr active), if_neg (not_not.mpr slot),
      State.takerProblem_ok taker]
    rfl
  have allocated : s.allocate q.target = .ok (x, c) := State.allocate_ok target
  rw [← intake_nextNumber s 9 tag body]
  refine ⟨(s.intake 9 tag body).openOn q c, ?_, State.openOn_handovers _ q c,
    State.openOn_giver (s := s.intake 9 tag body) c giver,
    fun a ne => State.openOn_robot_ne (s := s.intake 9 tag body) c ne,
    State.openOn_rest (s.intake 9 tag body) q c⟩
  refine (hostRequest_running takes decodes running).trans ?_
  rw [takeOpenHandover_ok (s := s.intake 9 tag body) noProblem allocated, Answer.made_mk]

/-! ### ASSIGN_TAKER -/

theorem onHandover_none {s : State} {n : Nat} {take : Handover → State → Answer}
    (h : s.handover n = none) : onHandover n take s = refuse s .unknownHandover := by
  rw [onHandover, h]

theorem onHandover_some {s : State} {n : Nat} {take : Handover → State → Answer} {h : Handover}
    (e : s.handover n = some h) : onHandover n take s = take h s := by
  rw [onHandover, e]

theorem takeAssignTaker_fixed {s : State} {k : Taker} {h : Handover}
    (st : h.state ∈ ([.setting, .lifting, .unlocated] : List HandoverState)) :
    takeAssignTaker k h s = refuse s .wrongState := by
  have fixed : takerFixed h.state = true := by
    simp only [List.mem_cons, List.not_mem_nil, or_false] at st
    rcases st with e | e | e <;> rw [e] <;> rfl
  exact if_pos fixed

theorem takerFixed_free {st : HandoverState}
    (h : st ∈ ([.openState, .staged, .carried, .parked] : List HandoverState)) :
    takerFixed st = false := by
  simp only [List.mem_cons, List.not_mem_nil, or_false] at h
  rcases h with e | e | e | e <;> rw [e] <;> rfl

theorem takeAssignTaker_refused {s : State} {k : Taker} {h : Handover} {st : Status} {b : ReplyBody}
    (free : takerFixed h.state = false) (p : s.takerProblem k = some (st, b)) :
    takeAssignTaker k h s = refuse s st b := by
  simp [takeAssignTaker, free, p]

theorem takeAssignTaker_ok {s : State} {k : Taker} {h : Handover}
    (free : takerFixed h.state = false) (p : s.takerProblem k = none) :
    takeAssignTaker k h s =
      ⟨s.modHandover h.number fun _ => s.withTaker h k, .ok,
        .takerAssigned h.number k (s.withTaker h k).state (s.withTaker h k).deadline⟩ := by
  simp [takeAssignTaker, free, p]

theorem State.freshCollectOf_eq (s : State) (h : Handover) :
    s.freshCollectOf h =
      ⟨.collect, s.params.collectLimit * 1000,
        if (match h.column with
          | some c => s.suspends c
          | none => false) then .suspended else .running⟩ := by
  unfold freshCollectOf
  cases h.column <;> rfl

/-- Settles O25, by the record's state and the taker. -/
theorem assignTakerSetsTheTaker : Obligations.AssignTakerSetsTheTaker := by
  unfold Obligations.AssignTakerSetsTheTaker
  intro tag body n k s decodes running takes
  have taken : exec (.assignTaker tag body) s =
      .next ((onHandover n (takeAssignTaker k) (s.intake 10 tag body)).made 10 tag) :=
    hostRequest_running (d := Body.assignTaker body)
      (take := fun q : Nat × Taker => onHandover q.1 (takeAssignTaker q.2)) takes decodes running
  refine ⟨fun unknown => ?_, fun h known fixed => ?_, fun h known free => ?_⟩
  · rw [taken, onHandover_none (s := s.intake 10 tag body) unknown, refuse_made]
  · rw [taken, onHandover_some (s := s.intake 10 tag body) known, takeAssignTaker_fixed fixed,
      refuse_made]
  have refused : ∀ st b, s.takerProblem k = some (st, b) → exec (.assignTaker tag body) s =
      .next ((s.intake 10 tag body).answered 10 tag st b) := fun st b problem => by
    rw [taken, onHandover_some (s := s.intake 10 tag body) known,
      takeAssignTaker_refused (s := s.intake 10 tag body) (takerFixed_free free) problem,
      refuse_made]
  refine ⟨?_, ?_, ?_, fun good => ?_⟩
  · rintro rfl
    exact refused _ _ rfl
  · rintro a rfl unknown
    exact refused _ _ (State.takerProblem_unknown unknown)
  · rintro a r rfl hr inactive
    exact refused _ _ ((State.takerProblem_addr hr).trans (if_pos inactive))
  · obtain rfl := s.number_of_handover known
    rw [taken, onHandover_some (s := s.intake 10 tag body) known,
      takeAssignTaker_ok (s := s.intake 10 tag body) (takerFixed_free free)
        (State.takerProblem_ok good), Answer.made_mk]
    unfold State.withTaker
    rw [State.freshCollectOf_eq]
    rfl

end Sys2Proof.Machine
end

section
/-! PROOFS. The handover table (02): cancelling and releasing, the queries, and the deadlines. -/

namespace Sys2Proof.Machine

/-! ### Multi-byte fields -/

/-- A field of two bytes as a number (10, 10.2). -/
theorem be16_toNat (a b : Byte) : (be16 a b).toNat = a.toNat * 256 + b.toNat := by
  unfold be16
  rw [BitVec.toNat_append, ← Nat.shiftLeft_add_eq_or_of_lt b.isLt, Nat.shiftLeft_eq]

theorem number_decodes (a b : Byte) : Body.number [a, b] = .ok (a.toNat * 256 + b.toNat) := by
  rw [← be16_toNat]
  rfl

/-! ### CANCEL_HANDOVER and RELEASE_TRACKING -/

theorem exec_cancelHandover {tag : Word16} {hi lo : Byte} {s : State}
    (running : s.sectionState = .running) (takes : Takes tag s) :
    exec (.cancelHandover tag [hi, lo]) s =
      .next ((onHandover (hi.toNat * 256 + lo.toNat) takeCancelHandover
        (s.intake 11 tag [hi, lo])).made 11 tag) :=
  hostRequest_running (take := fun n : Nat => onHandover n takeCancelHandover) takes
    (number_decodes hi lo) running

theorem exec_releaseTracking {tag : Word16} {hi lo : Byte} {s : State}
    (running : s.sectionState = .running) (takes : Takes tag s) :
    exec (.releaseTracking tag [hi, lo]) s =
      .next ((onHandover (hi.toNat * 256 + lo.toNat) takeReleaseTracking
        (s.intake 12 tag [hi, lo])).made 12 tag) :=
  hostRequest_running (take := fun n : Nat => onHandover n takeReleaseTracking) takes
    (number_decodes hi lo) running

namespace State

/-- The slot a robot is left with when its OPEN record is freed (02, R37). -/
theorem freedSlot_robot {s : State} {h : Handover} {a : Nat} (k : h.custody = .robot a) :
    s.freedSlot h =
      if ((s.robot a).map (·.loadConfirmed)).getD false then .untracked h.tag else .empty := by
  simp only [freedSlot, k]

theorem freeOpen_robot {s : State} {h : Handover} {a : Nat} (k : h.custody = .robot a) :
    s.freeOpen h = (s.setSlot a (s.freedSlot h) false).freeHandover h.number := by
  simp only [freeOpen, k]

theorem examineColumnOf_some {s : State} {h : Handover} {c : Nat} (k : h.column = some c) :
    s.examineColumnOf h = (s.examineRemap c).1.notifyAll (s.examineRemap c).2 := by
  simp only [examineColumnOf, k]
  rfl

end State

/-- What both requests do to an OPEN record (02, R37). -/
theorem freeOpenRequest_eq {s : State} {h : Handover} {a c : Nat} (k : h.custody = .robot a)
    (hc : h.column = some c) :
    freeOpenRequest h s =
      let slot : Slot :=
        if ((s.robot a).map (·.loadConfirmed)).getD false then .untracked h.tag else .empty
      let freed := (s.setSlot a slot false).freeHandover h.number
      ⟨(freed.examineRemap c).1.notifyAll (freed.examineRemap c).2, .ok, .cancelled h.number slot⟩ := by
  rw [freeOpenRequest, State.examineColumnOf_some hc, State.freeOpen_robot k,
    State.freedSlot_robot k]

theorem takeCancelHandover_open {s : State} {h : Handover} (st : h.state = .openState) :
    takeCancelHandover h s = freeOpenRequest h s := by
  simp only [takeCancelHandover, st]

theorem takeCancelHandover_staged {s : State} {h : Handover} (st : h.state = .staged) :
    takeCancelHandover h s =
      ⟨s.modHandover h.number fun _ => h.park, .ok, .nowParked h.number⟩ := by
  simp only [takeCancelHandover, st]

/-- A record neither OPEN nor STAGED is not cancelled (02, R37). -/
theorem takeCancelHandover_refused {s : State} {h : Handover} (o : h.state ≠ .openState)
    (g : h.state ≠ .staged) :
    takeCancelHandover h s = refuse s .wrongState (.inState h.state) := by
  unfold takeCancelHandover
  split
  next e => exact absurd e o
  next e => exact absurd e g
  next => rfl

theorem takeReleaseTracking_open {s : State} {h : Handover} (st : h.state = .openState) :
    takeReleaseTracking h s = freeOpenRequest h s := by
  simp only [takeReleaseTracking, st]

theorem takeReleaseTracking_refused {s : State} {h : Handover}
    (st : h.state = .staged ∨ h.state = .setting ∨ h.state = .lifting) :
    takeReleaseTracking h s = refuse s .wrongState := by
  rcases st with e | e | e <;> simp only [takeReleaseTracking, e]

theorem takeReleaseTracking_parked {s : State} {h : Handover} {c i : Nat} (st : h.state = .parked)
    (k : h.custody = .column c i) :
    takeReleaseTracking h s =
      ⟨(s.modCol c fun q =>
          { q with
            stack := q.stack.map fun e =>
              if e = .tracked h.number then .foreign h.tag else e }).freeHandover h.number,
        .ok, .released h.number h.tag (.column c i)⟩ := by
  simp only [takeReleaseTracking, st, State.untrackEntry, k, Custody.place]

theorem takeReleaseTracking_inFlight {s : State} {h : Handover} (st : h.state = .carried)
    (f : s.operationOf h.number ≠ none) : takeReleaseTracking h s = refuse s .inFlight := by
  simp only [takeReleaseTracking, st, Option.isSome_iff_ne_none.mpr f, if_true]

theorem takeReleaseTracking_carried {s : State} {h : Handover} {a : Nat} (st : h.state = .carried)
    (f : s.operationOf h.number = none) (k : h.custody = .robot a) :
    takeReleaseTracking h s =
      ⟨(s.setSlot a (.untracked h.tag) false).freeHandover h.number, .ok,
        .released h.number h.tag (.robot a)⟩ := by
  simp only [takeReleaseTracking, st, f, Option.isSome_none, Bool.false_eq_true, if_false,
    State.untrackSlot, k, Custody.place]

theorem takeReleaseTracking_unlocated {s : State} {h : Handover} (st : h.state = .unlocated)
    (k : h.custody = .unlocated) :
    takeReleaseTracking h s =
      ⟨s.freeHandover h.number, .ok, .released h.number h.tag .unlocated⟩ := by
  simp only [takeReleaseTracking, st, k, Custody.place]

/-- Settles O26, by the record's state. -/
theorem cancelAndReleaseActByState : Obligations.CancelAndReleaseActByState := by
  unfold Obligations.CancelAndReleaseActByState
  intro tag hi lo s running takes body n u v cancels releases
  have unknown : s.handover n = none →
      cancels u .unknownHandover .none ∧ releases v .unknownHandover .none := fun h => by
    refine ⟨(exec_cancelHandover running takes).trans ?_,
      (exec_releaseTracking running takes).trans ?_⟩
    · rw [onHandover_none (s := u) h, refuse_made]
    · rw [onHandover_none (s := v) h, refuse_made]
  have cancel : ∀ {h : Handover} {t : Answer}, s.handover n = some h → takeCancelHandover h u = t →
      exec (.cancelHandover tag body) s = .next (t.made 11 tag) := fun known e => by
    rw [exec_cancelHandover running takes, onHandover_some (s := u) known, e]
  have release : ∀ {h : Handover} {t : Answer}, s.handover n = some h →
      takeReleaseTracking h v = t →
      exec (.releaseTracking tag body) s = .next (t.made 12 tag) := fun known e => by
    rw [exec_releaseTracking running takes, onHandover_some (s := v) known, e]
  have notCancelled : ∀ {h : Handover}, s.handover n = some h → h.state ≠ .openState →
      h.state ≠ .staged → cancels u .wrongState (.inState h.state) := fun known o g =>
    cancel known (takeCancelHandover_refused o g)
  have number : ∀ {h : Handover}, s.handover n = some h → h.number = n := s.number_of_handover
  clear_value n
  refine ⟨unknown, fun h a c known st k hc => ?_, fun h known st => ?_, fun h known st => ?_,
    fun h known st => ?_, fun h known st => ?_, fun h known st => ?_⟩
  · obtain rfl := number known
    exact ⟨cancel known ((takeCancelHandover_open st).trans (freeOpenRequest_eq k hc)),
      release known ((takeReleaseTracking_open st).trans (freeOpenRequest_eq k hc))⟩
  · obtain rfl := number known
    exact ⟨cancel known (takeCancelHandover_staged st),
      release known (takeReleaseTracking_refused (.inl st))⟩
  · refine ⟨notCancelled known ?_ ?_, release known (takeReleaseTracking_refused (.inr st))⟩
    · rcases st with e | e <;> simp [e]
    · rcases st with e | e <;> simp [e]
  · obtain rfl := number known
    exact ⟨st ▸ notCancelled known (by simp [st]) (by simp [st]),
      fun c i k => release known (takeReleaseTracking_parked st k)⟩
  · obtain rfl := number known
    exact ⟨st ▸ notCancelled known (by simp [st]) (by simp [st]),
      fun f => release known (takeReleaseTracking_inFlight st f),
      fun a f k => release known (takeReleaseTracking_carried st f k)⟩
  · obtain rfl := number known
    exact ⟨st ▸ notCancelled known (by simp [st]) (by simp [st]),
      fun k => release known (takeReleaseTracking_unlocated st k)⟩

/-! ### QUERY_HANDOVER -/

namespace State

/-- The first column whose record `p` accepts, an undefined record not being accepted. -/
theorem indexFrom_columns {s : State} {p : Column → Bool} (blank : p Column.blank = false) {c : Nat} :
    indexFrom p s.columns 0 = some c ↔ p (s.col c) = true ∧ ∀ e < c, p (s.col e) = false := by
  have entry : ∀ e, s.col e = (s.columns[e]?).getD Column.blank := fun e =>
    List.getD_eq_getElem?_getD ..
  rw [indexFrom_eq_some]
  constructor
  · rintro ⟨k, q, rfl, hq, accepted, low⟩
    rw [Nat.zero_add]
    refine ⟨by rw [entry, hq]; exact accepted, fun e lt => ?_⟩
    rw [entry]
    cases he : s.columns[e]? with
    | none => exact blank
    | some r => exact low e lt r he
  · rintro ⟨accepted, low⟩
    rw [entry] at accepted
    cases hq : s.columns[c]? with
    | none => simp [hq, blank] at accepted
    | some q =>
      refine ⟨c, q, (Nat.zero_add c).symm, hq, by simpa [hq] using accepted, fun e lt r hr => ?_⟩
      have no := low e lt
      rwa [entry, hr] at no

theorem indexFrom_columns_none {s : State} {p : Column → Bool} (blank : p Column.blank = false) :
    indexFrom p s.columns 0 = none ↔ ∀ c, p (s.col c) = false := by
  constructor
  · intro none c
    rw [indexFrom_eq_none] at none
    rw [col, List.getD_eq_getElem?_getD]
    cases hq : s.columns[c]? with
    | none => exact blank
    | some q => exact none q (List.mem_of_getElem? hq)
  · intro none
    cases h : indexFrom p s.columns 0 with
    | none => rfl
    | some c =>
      have yes := ((indexFrom_columns blank).mp h).1
      rw [none c] at yes
      exact absurd yes (by simp)

end State

/-- The operation in flight on a column names a record (02, R28). -/
def Column.works (n : Nat) (k : Column) : Bool :=
  match k.op with
  | some o => o.records.contains n
  | none => false

theorem Column.works_iff {n : Nat} {k : Column} :
    k.works n = true ↔ ∃ o, k.op = some o ∧ n ∈ o.records := by
  unfold Column.works
  cases k.op <;> simp

namespace State

theorem operationOf_eq (s : State) (n : Nat) :
    s.operationOf n = indexFrom (Column.works n) s.columns 0 := rfl

/-- An operation in flight on a column names a record (02, R28). -/
theorem operationOf_eq_some {s : State} {n c : Nat} :
    s.operationOf n = some c ↔
      (∃ o, (s.col c).op = some o ∧ n ∈ o.records) ∧
        ∀ e < c, ∀ p, (s.col e).op = some p → n ∉ p.records := by
  rw [operationOf_eq, indexFrom_columns rfl, Column.works_iff]
  simp only [← Bool.not_eq_true, Column.works_iff, not_exists, not_and]

theorem operationOf_eq_none {s : State} {n : Nat}
    (h : ∀ c o, (s.col c).op = some o → n ∉ o.records) : s.operationOf n = none := by
  cases e : s.operationOf n with
  | none => rfl
  | some c =>
    obtain ⟨⟨o, ho, mem⟩, -⟩ := operationOf_eq_some.mp e
    exact absurd mem (h c o ho)

theorem custodyView_robot {s : State} {a : Nat} {r : Robot} (h : s.robot a = some r) :
    s.custodyView (.robot a) = .robot a r.state r.loadConfirmed := by
  rw [custodyView, h]

theorem reportedConds_clear {s : State} {h : Handover} {d : Deadline}
    (k : d.cond ≠ .suspended ∨ h.column = none) : s.reportedConds h d = ⟨false, false, false⟩ := by
  unfold reportedConds
  split
  next hc hd => rcases k with k | k <;> simp_all
  next => rfl

theorem reportedConds_suspended {s : State} {h : Handover} {d : Deadline} {c : Nat}
    (hd : d.cond = .suspended) (hc : h.column = some c) :
    s.reportedConds h d = s.suspendConds c := by
  simp only [reportedConds, hc, hd]

/-- A transition tightens a zone, or it is the hold (02, R32; 08, R155). -/
theorem tightensFor_iff {s : State} {t : Transition} {z : Nat} :
    s.tightensFor t z = true ↔
      t.kind = .hold ∨ (s.zones.current.get z).level < (t.targets.get z).level := by
  simp [tightensFor, tightens, Mode.stricter]

/-- The three conditions that suspend a deadline on a column (02, R43). -/
theorem suspendConds_iff {s : State} {c : Nat} {d : Defn} (h : s.defn c = some d) :
    ((s.suspendConds c).frozen = true ↔ (s.col c).causes ≠ ⟨false, false, false⟩) ∧
    ((s.suspendConds c).zoneMode = true ↔ 2 ≤ (s.zones.current.get d.zone).level) ∧
    ((s.suspendConds c).tightening = true ↔ ∃ t, s.zones.trans = some t ∧ t.state = .changing ∧
      (t.kind = .hold ∨ (s.zones.current.get d.zone).level < (t.targets.get d.zone).level) ∧
      2 ≤ (t.targets.get d.zone).level) := by
  have two : Mode.service.level = 2 := rfl
  refine ⟨frozen_iff, ?_, ?_⟩
  · simp [suspendConds, zoneOf_defined h, two]
  · simp only [suspendConds, zoneOf_defined h, two]
    cases s.zones.trans with
    | none => simp
    | some t => simp [tightensFor_iff, and_assoc]

end State

theorem exec_queryHandover {tag : Word16} {body : List Byte} {q : Body.HandoverRef} {s : State}
    (decodes : Body.queryHandover body = .ok q) (takes : Takes tag s) :
    exec (.queryHandover tag body) s =
      .next ((takeQueryHandover q (s.intake 13 tag body)).made 13 tag) :=
  hostRequest_decoded takes decodes

theorem takeQueryHandover_badTag (s : State) :
    takeQueryHandover (.tag 0) s = refuse s .badTag := if_pos rfl

theorem takeQueryHandover_unknown {s : State} {q : Body.HandoverRef} (h : q ≠ .tag 0)
    (n : s.named q = none) : takeQueryHandover q s = refuse s .unknownHandover := by
  rw [takeQueryHandover, if_neg h, n]

theorem takeQueryHandover_ok {s : State} {q : Body.HandoverRef} {h : Handover} (k : q ≠ .tag 0)
    (n : s.named q = some h) :
    takeQueryHandover q s = ⟨s, .ok, .handover (s.handoverReport h)⟩ := by
  rw [takeQueryHandover, if_neg k, n]

/-! ### LIST_HANDOVERS -/

theorem HandoverState.ofByte?_eq_none (b : Byte) :
    HandoverState.ofByte? b = none ↔ 6 < b.toNat := by
  simp only [HandoverState.ofByte?, ← BitVec.toNat_inj]
  grind

theorem takeListHandovers_refused {q : Body.ListHandovers} {s : State}
    (bad : (∃ f, q.state = some f ∧ 6 < f.toNat) ∨ ∃ f, q.zone = some f ∧ 3 < f.toNat) :
    takeListHandovers q s = refuse s .outOfRange := by
  unfold takeListHandovers
  by_cases early : q.state.map HandoverState.ofByte? = some none
  · rw [if_pos early]
  rw [if_neg early, if_pos]
  rcases bad with ⟨f, hf, big⟩ | ⟨f, hf, big⟩
  · rw [← HandoverState.ofByte?_eq_none] at big
    exact absurd (by simp [hf, big]) early
  · simpa [hf] using big

theorem takeListHandovers_ok {q : Body.ListHandovers} {s : State}
    (good : ¬((∃ f, q.state = some f ∧ 6 < f.toNat) ∨ ∃ f, q.zone = some f ∧ 3 < f.toNat)) :
    takeListHandovers q s =
      ⟨s, .ok, .handoverList (((s.listMatches q).take 16).map Handover.item)
        ((((s.listMatches q)[16]?).map (·.number)).getD 0)⟩ := by
  unfold takeListHandovers
  rw [if_neg, if_neg, List.head?_drop]
  · rfl
  · intro big
    refine good (.inr ?_)
    cases hz : q.zone with
    | none => simp [hz] at big
    | some f => exact ⟨f, rfl, by simpa [hz] using big⟩
  · intro big
    refine good (.inl ?_)
    cases hs : q.state with
    | none => simp [hs] at big
    | some f => exact ⟨f, rfl, (HandoverState.ofByte?_eq_none f).mp (by simpa [hs] using big)⟩

/-- Settles O27, by the query and what it finds. -/
theorem handoverQueriesReportTheTable : Obligations.HandoverQueriesReportTheTable := by
  unfold Obligations.HandoverQueriesReportTheTable
  refine ⟨fun tag body q s decodes takes => ?_, fun tag body q s decodes takes => ?_⟩
  · have u : (s.intake 13 tag body).named q = s.named q := by cases q <;> rfl
    refine ⟨?_, fun tagged unknown => ?_, fun h found => ?_⟩
    · rintro rfl
      rw [exec_queryHandover decodes takes, takeQueryHandover_badTag, refuse_made]
    · have none : s.named q = none := by
        refine Option.eq_none_iff_forall_ne_some.mpr fun h known => unknown h ?_
        cases q with
        | number n => exact .inl ⟨n, rfl, known⟩
        | tag t => exact .inr ⟨t, rfl, fun zero => tagged (congrArg _ zero), known⟩
      rw [exec_queryHandover decodes takes, takeQueryHandover_unknown tagged (u.trans none),
        refuse_made]
    · have tagged : q ≠ .tag 0 := by
        rcases found with ⟨n, rfl, -⟩ | ⟨t, rfl, nonzero, -⟩
        · simp
        · simpa using nonzero
      have known : s.named q = some h := by
        rcases found with ⟨n, rfl, known⟩ | ⟨t, rfl, -, known⟩ <;> exact known
      refine ⟨s.handoverReport h, ?_, rfl, rfl, rfl, rfl, rfl, rfl, fun c i k => ?_,
        fun a r k hr => ?_, fun k => ?_, ?_, fun d k hd => ?_, fun c o ho mem low => ?_,
        fun none => ?_, rfl, rfl, rfl⟩
      · rw [exec_queryHandover decodes takes, takeQueryHandover_ok tagged (u.trans known)]
        rfl
      · rw [State.handoverReport, k]
        rfl
      · rw [State.handoverReport, k]
        exact State.custodyView_robot hr
      · rw [State.handoverReport, k]
        rfl
      · rw [State.handoverReport, Option.map_map]
        exact Option.map_id' ..
      · obtain ⟨e, -, pair⟩ := Option.map_eq_some_iff.mp hd
        obtain ⟨rfl, rfl⟩ := Prod.mk.inj pair
        refine ⟨State.reportedConds_clear, fun c d suspended hc defined => ?_⟩
        rw [State.reportedConds_suspended suspended hc]
        exact State.suspendConds_iff defined
      · rw [State.handoverReport, State.operationOf_eq_some.mpr ⟨⟨o, ho, mem⟩, low⟩,
          Option.bind_some, ho]
        rfl
      · rw [State.handoverReport, State.operationOf_eq_none none]
        rfl
  · have taken : exec (.listHandovers tag body) s =
        .next ((takeListHandovers q (s.intake 14 tag body)).made 14 tag) :=
      hostRequest_decoded takes decodes
    intro answers bad matching
    have sameRecords : s.listMatches q = matching := by
      refine List.filter_congr fun h _ => ?_
      unfold stateMatches State.zoneMatches
      cases q.state <;> cases q.zone <;> cases h.column <;> rfl
    refine ⟨fun wrong => ?_, fun good => ?_, fun ascending => ⟨?_, ?_⟩⟩
    · refine taken.trans ?_
      rw [takeListHandovers_refused wrong, refuse_made]
    · refine taken.trans ?_
      rw [takeListHandovers_ok good, ← sameRecords]
      rfl
    · exact List.pairwise_map.mpr (ascending.filter _)
    · have sorted : matching.Pairwise fun h k => h.number < k.number := ascending.filter _
      rw [← List.take_append_drop 16 matching, List.pairwise_append] at sorted
      exact sorted.2.2

/-! ### The deadlines that run out -/

theorem exec_stageExpired {n : Nat} {h : Handover} {s : State} (known : s.handover n = some h) :
    exec (.stageExpired n) s =
      if h.due .openState .stage then .next (s.expireStage h).startTx else .next s := by
  change execStageExpired n s = _
  rw [execStageExpired, known]
  rfl

theorem exec_relocationOverdue {n : Nat} {h : Handover} {s : State}
    (known : s.handover n = some h) :
    exec (.relocationOverdue n) s =
      if h.due .carried .stage then .next (s.expireRelocation h).startTx else .next s := by
  change execRelocationOverdue n s = _
  rw [execRelocationOverdue, known]
  rfl

theorem exec_collectExpired {n : Nat} {h : Handover} {s : State} (known : s.handover n = some h) :
    exec (.collectExpired n) s =
      if h.due .staged .collect then .next (s.expireCollect h).startTx else .next s := by
  change execCollectExpired n s = _
  rw [execCollectExpired, known]
  rfl

/-- Settles O28, by the record's state and deadline. -/
theorem deadlineExpiriesActByState : Obligations.DeadlineExpiriesActByState := by
  unfold Obligations.DeadlineExpiriesActByState
  intro n h s known
  obtain rfl := s.number_of_handover known
  refine ⟨fun a c st deadline k hc => ?_, fun a st deadline k => ?_, fun c i st deadline k hc => ?_,
    fun early => ?_, fun early => ?_, fun early => ?_⟩
  · rw [exec_stageExpired known, if_pos ((Handover.due_iff h _ _).mpr ⟨st, deadline⟩),
      State.expireStage, State.examineColumnOf_some hc, State.freeOpen_robot k,
      State.freedSlot_robot k, hc]
    rfl
  · rw [exec_relocationOverdue known, if_pos ((Handover.due_iff h _ _).mpr ⟨st, deadline⟩),
      State.expireRelocation, k]
    rfl
  · rw [exec_collectExpired known, if_pos ((Handover.due_iff h _ _).mpr ⟨st, deadline⟩),
      State.expireCollect, Handover.park, k, hc]
    rfl
  · rw [exec_stageExpired known, if_neg (mt (Handover.due_iff h _ _).mp early)]
  · rw [exec_relocationOverdue known, if_neg (mt (Handover.due_iff h _ _).mp early)]
  · rw [exec_collectExpired known, if_neg (mt (Handover.due_iff h _ _).mp early)]

end Sys2Proof.Machine
end

section
/-! PROOFS. Effective modes and suspension (02, R43; 03, R58), and the grant arbiter (03). -/

namespace Sys2Proof.Machine

namespace State

/-! ### Effective modes and suspension -/

theorem effective_hold {s : State} {z : Nat} (h : s.zones.hold = true) : s.effective z = .closed :=
  if_pos h

theorem effective_holdTransition {s : State} {z : Nat} {t : Transition}
    (ht : s.zones.trans = some t) (k : t.kind = .hold) : s.effective z = .closed := by
  unfold effective
  split
  · rfl
  · rw [ht]
    exact if_pos (by rw [k]; rfl)

theorem effective_normal {s : State} {z : Nat} {t : Transition} (h : s.zones.hold = false)
    (ht : s.zones.trans = some t) (k : t.kind = .normal) :
    s.effective z =
      if (s.zones.current.get z).level < (t.targets.get z).level then t.targets.get z
      else s.zones.current.get z := by
  unfold effective
  rw [h, ht]
  simp [k, tightens, Mode.stricter]

theorem effective_idle {s : State} {z : Nat} (h : s.zones.hold = false)
    (ht : s.zones.trans = none) : s.effective z = s.zones.current.get z := by
  unfold effective
  rw [h, ht]
  rfl

end State

theorem Mode.two_le_level (m : Mode) : 2 ≤ m.level ↔ m = .service ∨ m = .closed := by
  cases m <;> simp [Mode.level]

/-- A deadline on a column is suspended when one of the three conditions holds (02, R43). -/
theorem State.suspends_iff {s : State} {c : Nat} {d : Defn} (h : s.defn c = some d) :
    s.suspends c = true ↔
      (s.col c).causes ≠ ⟨false, false, false⟩ ∨
      s.zones.current.get d.zone = .service ∨ s.zones.current.get d.zone = .closed ∨
      ∃ t, s.zones.trans = some t ∧ t.state = .changing ∧
        (t.kind = .hold ∨ (s.zones.current.get d.zone).level < (t.targets.get d.zone).level) ∧
        (t.targets.get d.zone = .service ∨ t.targets.get d.zone = .closed) := by
  obtain ⟨frozen, zoneMode, tightening⟩ := State.suspendConds_iff h
  unfold suspends
  simp only [Bool.or_eq_true, frozen, zoneMode, tightening, Mode.two_le_level, or_assoc]

/-- Settles O29, by the zone controller's state. -/
theorem effectiveModeAndSuspension : Obligations.EffectiveModeAndSuspension := by
  unfold Obligations.EffectiveModeAndSuspension
  refine ⟨fun s z => ⟨State.effective_hold, fun t => State.effective_holdTransition,
    fun t => State.effective_normal, State.effective_idle⟩, fun k => ⟨rfl, rfl, ?_, rfl⟩,
    fun s c d => State.suspends_iff⟩
  exact beq_iff_eq

/-! ### GRANT_REQ -/

theorem exec_grantReq {addr b k : Byte} {r : Robot} {s : State} (hr : s.robot addr.toNat = some r) :
    exec (.grantReq addr [b, k]) s =
      .next (takeGrantReq addr.toNat r (b.toNat, k) s).startTx := robotFrame_ok hr

section
variable {a c : Nat} {k : Byte} {r : Robot} {s : State}

theorem takeGrantReq_undefined (h : s.defn c = none) :
    takeGrantReq a r (c, k) s = s.send a (.refused .unknownColumn (.column c)) := by
  simp [takeGrantReq, h, State.sendRefused]

theorem takeGrantReq_notActive {d : Defn} (h : s.defn c = some d) (n : r.state ≠ .active) :
    takeGrantReq a r (c, k) s = s.send a (.refused .notActive (.column c)) := by
  simp [takeGrantReq, h, n, State.sendRefused]

theorem takeGrantReq_already {d : Defn} {e : Nat} (h : s.defn c = some d) (n : r.state = .active)
    (st : (s.grantedTo a).or (s.waitingOn a) = some e) :
    takeGrantReq a r (c, k) s = s.send a (.refused .already (.already c e)) := by
  simp [takeGrantReq, h, n, State.standingOn, st, State.sendRefused]

theorem takeGrantReq_class {d : Defn} (h : s.defn c = some d) (n : r.state = .active)
    (st : s.standingOn a = none) (w : classWithin r.maxClass k = none) :
    takeGrantReq a r (c, k) s = s.send a (.refused .cls (.column c)) := by
  simp [takeGrantReq, h, n, st, w, State.sendRefused]

/-- A GRANT_REQ of a class within its ceiling (03, R59, checks 5 and 6; R60). -/
theorem takeGrantReq_within {d : Defn} {w : Cls} (h : s.defn c = some d) (n : r.state = .active)
    (st : s.standingOn a = none) (hw : classWithin r.maxClass k = some w) :
    takeGrantReq a r (c, k) s =
      if s.auditAllowed c w = false then s.send a (.refused .notCalled (.column c))
      else if s.effective d.zone = .closed then s.send a (.refused .zoneClosed (.column c))
      else s.decideGrant c a w := by
  simp [takeGrantReq, h, n, st, hw, State.sendRefused, State.zoneOf_defined h]

end

theorem classWithin_none {m : Option Cls} {k : Byte}
    (h : Cls.ofByte? k = none ∨ m = none ∨
      ∃ w n, Cls.ofByte? k = some w ∧ m = some n ∧ w.rank < n.rank) :
    classWithin m k = none := by
  rcases h with h | rfl | ⟨w, n, hw, rfl, above⟩
  · simp [classWithin, h]
  · cases hw : Cls.ofByte? k <;> simp [classWithin, hw]
  · simp [classWithin, hw, Cls.above, above]

theorem classWithin_some {n w : Cls} {k : Byte} (hw : Cls.ofByte? k = some w)
    (h : n.rank ≤ w.rank) : classWithin (some n) k = some w := by
  simp [classWithin, hw, Cls.above, Nat.not_lt.mpr h]

namespace State

theorem auditAllowed_iff {s : State} {c : Nat} {k : Cls} :
    s.auditAllowed c k = true ↔
      (k = .audit → s.audit.called = some c ∨ (s.col c).verification = .unverified) := by
  unfold auditAllowed
  simp only [Bool.or_eq_true, bne_iff_ne, beq_iff_eq, or_assoc]
  exact Decidable.imp_iff_not_or.symm

theorem permitted_defined {s : State} {c : Nat} {d : Defn} (k : Cls) (h : s.defn c = some d) :
    s.permitted c k = modePermits (s.effective d.zone) k := by
  rw [permitted, zoneOf_defined h]

theorem outrankedBy_iff {s : State} {c : Nat} {k : Cls} :
    s.outrankedBy c k = true ↔
      ∃ g, (s.col c).grant = some g ∧ k.rank < g.cls.rank ∧ g.revoke = none := by
  unfold outrankedBy
  cases (s.col c).grant <;> simp [Cls.above]

/-- A grant is one frame and one write (03, R60, R61). -/
theorem makeGrant_eq (s : State) (c a : Nat) (k : Cls) :
    s.makeGrant c a k =
      (s.modCol c fun q =>
        { q with grant := some ⟨a, k, some (s.params.holdLimit * 1000), none, none⟩ }).send a
        (.granted c k (s.params.holdLimit * 1000)) := rfl

/-- The decision of R60, for a request past its checks. -/
theorem decideGrant_free {s : State} {c a : Nat} {k : Cls} (g : (s.col c).grant = none)
    (p : s.permitted c k = true) : s.decideGrant c a k = s.makeGrant c a k := by
  simp [decideGrant, g, p]

theorem decideGrant_full {s : State} {c a : Nat} {k : Cls}
    (h : ¬((s.col c).grant = none ∧ s.permitted c k = true)) (w : 8 ≤ (s.col c).waits.length) :
    s.decideGrant c a k = s.send a (.refused .waitFull (.column c)) := by
  have full : Config.waitCap ≤ (s.col c).waits.length := w
  have taken : ((s.col c).grant.isNone && s.permitted c k) = false := by
    simpa [Option.isNone_iff_eq_none] using h
  rw [decideGrant, if_neg (by simp [taken]), if_pos full, sendRefused]

theorem decideGrant_queued {s : State} {c a : Nat} {k : Cls}
    (h : ¬((s.col c).grant = none ∧ s.permitted c k = true)) (w : (s.col c).waits.length < 8) :
    s.decideGrant c a k = s.queueRequest c a k := by
  have room : ¬Config.waitCap ≤ (s.col c).waits.length := Nat.not_le.mpr w
  have taken : ((s.col c).grant.isNone && s.permitted c k) = false := by
    simpa [Option.isNone_iff_eq_none] using h
  rw [decideGrant, if_neg (by simp [taken]), if_neg room]

/-- A request put in its place by class and arrival (03, R57, R60). -/
def queuedAt (s : State) (c a : Nat) (k : Cls) : State :=
  (s.modCol c fun q => { q with waits := insertWait ⟨a, k⟩ q.waits }).send a
    (.queued c k (waitPlace k (s.col c).waits + 1))

theorem queuedAt_eq (s : State) (c a : Nat) (k : Cls) :
    s.queuedAt c a k =
      (s.modCol c fun q =>
        { q with
          waits := q.waits.take ((s.col c).waits.takeWhile fun q => q.cls.rank ≤ k.rank).length ++
            ⟨a, k⟩ :: q.waits.drop
              ((s.col c).waits.takeWhile fun q => q.cls.rank ≤ k.rank).length }).send a
        (.queued c k (((s.col c).waits.takeWhile fun q => q.cls.rank ≤ k.rank).length + 1)) :=
  congrArg (fun t : State => t.send a (.queued c k (waitPlace k (s.col c).waits + 1)))
    (s.modCol_congr (f := fun q => { q with waits := insertWait ⟨a, k⟩ q.waits }) rfl)

theorem queueRequest_outranks {s : State} {c a : Nat} {k : Cls}
    (h : ∃ g, (s.col c).grant = some g ∧ k.rank < g.cls.rank ∧ g.revoke = none) :
    s.queueRequest c a k = (s.queuedAt c a k).revoke c .outranked :=
  if_pos (outrankedBy_iff.mpr h)

theorem queueRequest_waits {s : State} {c a : Nat} {k : Cls}
    (h : ¬∃ g, (s.col c).grant = some g ∧ k.rank < g.cls.rank ∧ g.revoke = none) :
    s.queueRequest c a k = s.queuedAt c a k :=
  if_neg (mt outrankedBy_iff.mp h)

end State

/-- Settles O30, by the first check that fails and by the column. -/
theorem grantRequestIsCheckedThenDecided : Obligations.GrantRequestIsCheckedThenDecided := by
  unfold Obligations.GrantRequestIsCheckedThenDecided
  intro addr b k r s hr a c gives refuses
  have taken : ∀ {t : State}, takeGrantReq a r (c, k) s = t → gives t := fun e =>
    (exec_grantReq hr).trans (congrArg (fun t : State => Host.Outcome.next t.startTx) e)
  refine ⟨fun undefined => taken (takeGrantReq_undefined undefined),
    fun d defined inactive => taken (takeGrantReq_notActive defined inactive),
    fun d e defined active stands => taken (takeGrantReq_already defined active stands),
    fun d defined active grants waits => ?_⟩
  have stands : s.standingOn a = none := by rw [State.standingOn, grants, waits]; rfl
  refine ⟨fun above => taken (takeGrantReq_class defined active stands (classWithin_none above)),
    fun w m hw hm within => ?_⟩
  intro called mode free place queued
  have decided := takeGrantReq_within defined active stands
    (hm ▸ classWithin_some hw within : classWithin r.maxClass k = some w)
  refine ⟨fun audit notCalled => ?_, fun allowed => ?_⟩
  · have no : s.auditAllowed c w = false := by
      rw [← Bool.not_eq_true, State.auditAllowed_iff]
      exact fun h => notCalled (h audit)
    exact taken (decided.trans (if_pos no))
  have yes : ¬s.auditAllowed c w = false := by
    rw [Bool.not_eq_false, State.auditAllowed_iff]
    exact allowed
  rw [if_neg yes] at decided
  have free_iff : free ↔ (s.col c).grant = none ∧ s.permitted c w = true := by
    rw [State.permitted_defined w defined]
  refine ⟨fun closed => taken (decided.trans (if_pos closed)), fun isOpen granted => ?_,
    fun isOpen busy full => ?_, fun isOpen busy room => ⟨fun outranks => ?_, fun below => ?_⟩⟩
  all_goals rw [if_neg isOpen] at decided
  · obtain ⟨noGrant, permitted⟩ := free_iff.mp granted
    exact taken (decided.trans (State.decideGrant_free noGrant permitted))
  · exact taken (decided.trans (State.decideGrant_full (mt free_iff.mpr busy) full))
  · exact taken (decided.trans ((State.decideGrant_queued (mt free_iff.mpr busy) room).trans
      ((State.queueRequest_outranks outranks).trans (congrArg (fun t : State => t.revoke c .outranked)
        (s.queuedAt_eq c a w)))))
  · exact taken (decided.trans ((State.decideGrant_queued (mt free_iff.mpr busy) room).trans
      ((State.queueRequest_waits below).trans (s.queuedAt_eq c a w))))

/-! ### Hand-on, revoke and the end of a grant -/

namespace State

theorem modCol_modCol (s : State) (c : Nat) (f g : Column → Column) :
    (s.modCol c f).modCol c g = s.modCol c (g ∘ f) :=
  congrArg (fun l => { s with columns := l }) (updateAt_updateAt s.columns c f g)

/-- A revoke of a grant without one (03, R66, R67). -/
theorem revoke_eq {s : State} {c : Nat} {g : Grant} (cause : RevokeCause)
    (h : (s.col c).grant = some g) (k : g.revoke = none) :
    s.revoke c cause =
      (s.modCol c fun q =>
        { q with
          grant := some { g with
            revoke := some cause
            holdLimit := none
            grace := if (s.col c).op = none then some (s.params.releaseGrace * 1000) else none }
          }).send g.robot (.revoke c cause (s.params.releaseGrace * 1000)) := by
  unfold revoke
  rw [h]
  simp only [k, Option.isSome_none, Bool.false_eq_true, if_false]
  refine congrArg (fun t : State => t.send g.robot (.revoke c cause s.graceMs)) (s.modCol_congr ?_)
  cases (s.col c).op <;> rfl

end State

/-- Settles O31, by the laws of hand-on and revoke. -/
theorem handOnAndRevoke : Obligations.HandOnAndRevoke := by
  unfold Obligations.HandOnAndRevoke
  refine ⟨fun s c => State.handOn_held, fun s c => State.handOn_none,
    fun s c front rest w noGrant waits below permitted => ?_,
    fun s c g cause hg => ⟨State.revoke_pending cause hg, State.revoke_eq cause hg⟩⟩
  rw [State.handOn_first noGrant waits below permitted, State.makeGrant_eq, State.modCol_modCol]
  rfl

namespace State

theorem reportGrantEnd_other {s : State} {c : Nat} {d : Defn} (k : Cls) (h : s.defn c = some d)
    (n : ∀ t, s.zones.trans = some t → t.state = .waiting → s.tightens t d.zone = false) :
    s.reportGrantEnd c k = s := by
  unfold reportGrantEnd
  cases ht : s.zones.trans with
  | none => rfl
  | some t =>
    refine if_neg ?_
    rw [zoneOf_defined h, Bool.and_eq_true, beq_iff_eq, not_and, Bool.not_eq_true]
    exact n t ht

/-- The end of a grant in a zone that a transition in WAITING tightens (03, R73; 08, R160). -/
theorem reportGrantEnd_waiting {s : State} {c : Nat} {d : Defn} {t : Transition} (k : Cls)
    (h : s.defn c = some d) (ht : s.zones.trans = some t) (w : t.state = .waiting)
    (z : s.tightens t d.zone = true) :
    s.reportGrantEnd c k =
      let t' : Transition :=
        if modePermits (t.targets.get d.zone) k then t
        else { t with forbidden := t.forbidden.set d.zone (t.forbidden.get d.zone - 1) }
      ({ s with zones := { s.zones with trans := some t' } } : State).checkWaiting t' := by
  unfold reportGrantEnd
  rw [ht, zoneOf_defined h]
  exact if_pos (by simp [w, z])

theorem endGrant_held {s : State} {c : Nat} {g : Grant} (h : (s.col c).grant = some g) :
    s.endGrant c = (s.modCol c fun q => { q with grant := none }).reportGrantEnd c g.cls := by
  rw [endGrant, h]

end State

/-- Settles O33, by what the zone controller is told. -/
theorem grantEndReachesTheZoneCount : Obligations.GrantEndReachesTheZoneCount := by
  unfold Obligations.GrantEndReachesTheZoneCount
  intro s c d g defined held ended
  have still : ended.defn c = some d := 
    (s.defn_modCol c c (fun q => { q with grant := none }) fun _ => rfl).trans defined
  rw [State.endGrant_held held]
  exact ⟨fun none => State.reportGrantEnd_other (s := ended) g.cls still none,
    fun t ht waiting tightened =>
      State.reportGrantEnd_waiting (s := ended) g.cls still ht waiting tightened⟩

/-! ### RELEASE -/

theorem exec_release {addr b : Byte} {r : Robot} {s : State} (hr : s.robot addr.toNat = some r) :
    exec (.release addr [b]) s = .next (takeRelease addr.toNat r b.toNat s).startTx :=
  robotFrame_ok hr

section
variable {a c : Nat} {r : Robot} {s : State}

/-- A robot holds the grant of a column (03, R63). -/
theorem holds_iff : (s.col c).grant.map (·.robot) = some a ↔
    ∃ g, (s.col c).grant = some g ∧ g.robot = a := Option.map_eq_some_iff

theorem takeRelease_lost (h : r.state = .lost) :
    takeRelease a r c s = s.send a (.refused .lost (.column c)) := if_pos h

theorem takeRelease_noGrant (h : r.state ≠ .lost)
    (n : ¬∃ g, (s.col c).grant = some g ∧ g.robot = a) :
    takeRelease a r c s = s.send a (.refused .noGrant (.column c)) := by
  rw [takeRelease, if_neg h, if_pos (by rw [bne_iff_ne]; exact mt holds_iff.mp n)]
  rfl

theorem takeRelease_held (h : r.state ≠ .lost) (n : ∃ g, (s.col c).grant = some g ∧ g.robot = a) :
    takeRelease a r c s =
      if (s.col c).op ≠ none then s.send a (.refused .busy (.column c))
      else ((s.send a (.accepted (.column c))).endGrant c).handOn c := by
  rw [takeRelease, if_neg h, if_neg (by rw [bne_iff_ne, not_not]; exact holds_iff.mpr n)]
  simp only [Option.isSome_iff_ne_none]
  rfl

end

/-- Settles O34, by the first check that fails. -/
theorem releaseEndsTheGrant : Obligations.ReleaseEndsTheGrant := by
  unfold Obligations.ReleaseEndsTheGrant
  intro addr b r s hr a c gives refuses holds
  have taken : ∀ {t : State}, takeRelease a r c s = t → gives t := fun e =>
    (exec_release hr).trans (congrArg (fun t : State => Host.Outcome.next t.startTx) e)
  exact ⟨fun lost => taken (takeRelease_lost lost),
    fun here none => taken (takeRelease_noGrant here none),
    fun here held busy => taken ((takeRelease_held here held).trans (if_pos busy)),
    fun here held idle => taken ((takeRelease_held here held).trans (if_neg (not_not.mpr idle)))⟩

/-! ### The grant timers -/

theorem exec_holdLimitExpiry {c : Nat} {g : Grant} {s : State} (h : (s.col c).grant = some g) :
    exec (.holdLimitExpiry c) s =
      if g.holdDue then .next (s.revoke c .holdLimit).startTx else .next s := by
  change execHoldLimitExpiry c s = _
  rw [execHoldLimitExpiry, h]
  rfl

theorem exec_releaseGraceExpiry {c : Nat} {g : Grant} {s : State} (h : (s.col c).grant = some g) :
    exec (.releaseGraceExpiry c) s =
      if g.graceDue then .next (s.graceExpired c g).startTx else .next s := by
  change execReleaseGraceExpiry c s = _
  rw [execReleaseGraceExpiry, h]
  rfl

namespace State

/-! ### A column that gains SUSPECT (07, R138) -/

theorem judgeColumn_col (s : State) (c e : Nat) : (s.judgeColumn c).col e = s.col e := rfl

theorem addSuspect_col_same {s : State} {c : Nat} (h : c < s.columns.length) :
    (s.addSuspect c).col c =
      { s.col c with causes := { (s.col c).causes with suspect := true } } :=
  s.col_modCol_same h _

theorem addSuspect_col_ne {s : State} {c e : Nat} (h : e ≠ c) :
    (s.addSuspect c).col e = s.col e := s.col_modCol_ne h _

theorem addSuspect_rest (s : State) (c : Nat) :
    { s.addSuspect c with columns := s.columns, handovers := s.handovers } = s := rfl

/-- A column whose causes are not empty suspends the deadlines on it (02, R43). -/
theorem suspends_of_frozen {s : State} {c : Nat} (h : s.frozen c = true) : s.suspends c = true := by
  have frozen : (s.suspendConds c).frozen = true := h
  simp [suspends, frozen]

theorem judged_number (s : State) (h : Handover) : (s.judged h).number = h.number := by
  rw [judged_eq]

/-- On a column that suspends, every deadline not stopped becomes SUSPENDED (02, R43). -/
theorem judged_suspended {s : State} {h : Handover} {c : Nat} (hc : h.column = some c)
    (sus : s.suspends c = true) :
    s.judged h = { h with
      deadline := h.deadline.map fun e =>
        if e.cond = .stopped then e else { e with cond := .suspended } } := by
  unfold judged
  rw [hc]
  dsimp only
  congr 1
  cases h.deadline with
  | none => rfl
  | some e => cases k : e.cond <;> simp [Deadline.judge, k, sus]

theorem addSuspect_suspends {s : State} {c : Nat} (h : c < s.columns.length) :
    (s.modCol c fun k => { k with causes := { k.causes with suspect := true } }).suspends c = true := by
  refine suspends_of_frozen (frozen_iff.mpr ?_)
  rw [s.col_modCol_same h]
  simp

theorem addSuspect_handover {s : State} {c n : Nat} {h : Handover} (lt : c < s.columns.length)
    (known : s.handover n = some h) :
    (s.addSuspect c).handover n = some
      (if h.column = some c then
        { h with
          deadline := h.deadline.map fun e =>
            if e.cond = .stopped then e else { e with cond := .suspended } }
      else h) := by
  unfold addSuspect judgeColumn
  rw [handover_modHandovers _ _ _ _ (judged_number _)]
  have same : (s.modCol c fun k =>
      { k with causes := { k.causes with suspect := true } }).handover n = some h := known
  rw [same, Option.map_some]
  by_cases here : h.column = some c
  · rw [if_pos here, if_pos (by rw [here]; exact beq_self_eq_true _),
      judged_suspended here (addSuspect_suspends lt)]
  · rw [if_neg here, if_neg (by rw [beq_iff_eq]; exact here)]

end State

/-- Settles O35, by the timer that runs out. -/
theorem grantTimersRevokeAndLose : Obligations.GrantTimersRevokeAndLose := by
  unfold Obligations.GrantTimersRevokeAndLose
  intro c g r s held known
  have lt : c < s.columns.length := s.lt_of_col_ne fun e => by simp [e, Column.blank] at held
  refine ⟨fun free due => ?_, fun early => ?_, fun revoked due => ?_, fun early => ?_⟩
  · rw [exec_holdLimitExpiry held, if_pos ((Grant.holdDue_iff g).mpr ⟨free, due⟩)]
  · rw [exec_holdLimitExpiry held, if_neg (mt (Grant.holdDue_iff g).mp early)]
  · intro lost ended suspect
    have frame : BlockFrame lost ended := BlockFrame.endGrant lost c
    have length : c < ended.columns.length := by
      rw [frame.toFrame.columns_length, State.modRobot_columns]
      exact lt
    have robot : suspect.robot g.robot = some { r with state := .lost, readyTimer := none } := by
      rw [((frame.trans (BlockFrame.addSuspect ended c)).robot g.robot), State.robot_modRobot_same,
        known]
      rfl
    have notice : suspect.robotLostNotice g.robot .grace c =
        .robotLost g.robot r.serial .grace c r.slot := by
      rw [State.robotLostNotice, robot]
      rfl
    have expired : s.graceExpired c g =
        ((suspect.notify (suspect.robotLostNotice g.robot .grace c)).notify
          (.columnSuspect c (suspect.mappedBy c) .grace g.robot)).handOn c := rfl
    refine ⟨State.addSuspect_col_same length, fun e ne => State.addSuspect_col_ne ne,
      fun n h k => State.addSuspect_handover length k, State.addSuspect_rest ended c, ?_⟩
    rw [exec_releaseGraceExpiry held, if_pos ((Grant.graceDue_iff g).mpr ⟨revoked, due⟩), expired,
      notice]
  · rw [exec_releaseGraceExpiry held, if_neg (mt (Grant.graceDue_iff g).mp early)]

end Sys2Proof.Machine
end

section
/-! PROOFS. Operations (04): the checks of OP_START and OP_END, and the judging of an OP_START by its
kind. -/

namespace Sys2Proof.Machine

/-! ### OP_START: the checks of every kind -/

theorem exec_opStart {addr b k t3 t2 t1 t0 : Byte} {r : Robot} {s : State}
    (hr : s.robot addr.toNat = some r) :
    exec (.opStart addr [b, k, t3, t2, t1, t0]) s =
      .next (takeOpStart addr.toNat r ⟨b.toNat, k, be32 t3 t2 t1 t0⟩ s).startTx := robotFrame_ok hr

theorem OpKind.ofByte?_eq_none {k : Byte} : OpKind.ofByte? k = none ↔ 3 < k.toNat := by
  simp only [OpKind.ofByte?, ← BitVec.toNat_inj]
  grind

theorem OpKind.ofByte?_eq_scan {k : Byte} : OpKind.ofByte? k = some .scan ↔ k.toNat = 3 := by
  simp only [OpKind.ofByte?, ← BitVec.toNat_inj]
  grind

section
variable {a c : Nat} {k : Byte} {r : Robot} {tag : BinTag} {s : State} {d : Defn}

theorem takeOpStart_undefined (h : s.defn c = none) :
    takeOpStart a r ⟨c, k, tag⟩ s = s.send a (.refused .unknownColumn (.column c)) := by
  simp [takeOpStart, h, State.sendRefused]

theorem takeOpStart_notActive (h : s.defn c = some d) (n : r.state ≠ .active) :
    takeOpStart a r ⟨c, k, tag⟩ s = s.send a (.refused .notActive (.column c)) := by
  simp [takeOpStart, h, n, State.sendRefused]

theorem takeOpStart_kind (h : s.defn c = some d) (n : r.state = .active)
    (hk : OpKind.ofByte? k = none) :
    takeOpStart a r ⟨c, k, tag⟩ s = s.send a (.refused .outOfRange (.column c)) := by
  simp [takeOpStart, h, n, hk, State.sendRefused]

theorem takeOpStart_noGrant {kind : OpKind} (h : s.defn c = some d) (n : r.state = .active)
    (hk : OpKind.ofByte? k = some kind) (no : ¬∃ g, (s.col c).grant = some g ∧ g.robot = a) :
    takeOpStart a r ⟨c, k, tag⟩ s = s.send a (.refused .noGrant (.column c)) := by
  have none : (s.col c).grant.filter (fun g => g.robot == a) = none := by
    cases hg : (s.col c).grant with
    | none => rfl
    | some g => simpa [hg] using no
  simp [takeOpStart, h, n, hk, none, State.sendRefused]

/-- An OP_START of the holder of the column (04, R81, checks 5 and 6). -/
theorem takeOpStart_holder {kind : OpKind} {g : Grant} (h : s.defn c = some d)
    (n : r.state = .active) (hk : OpKind.ofByte? k = some kind) (hg : (s.col c).grant = some g)
    (ha : g.robot = a) :
    takeOpStart a r ⟨c, k, tag⟩ s =
      if (s.col c).op ≠ none then s.send a (.refused .busy (.column c))
      else if g.revoke ≠ none then s.send a (.refused .revoked (.column c))
      else startChecked a r c kind g.cls tag s := by
  have own : (s.col c).grant.filter (fun g => g.robot == a) = some g := by
    simp [hg, Option.filter_some, ha]
  simp [takeOpStart, h, n, hk, own, State.sendRefused, Option.isSome_iff_ne_none]

theorem startChecked_problem {kind : OpKind} {w : Cls} {e : Status} {x : RefusedDetail}
    (hk : kind ≠ .scan) (p : s.columnProblem c = some (e, x)) :
    startChecked a r c kind w tag s = s.send a (.refused e x) := by
  simp [startChecked, hk, p, State.sendRefused]

/-- A SCAN, or an operation on a column that check 7 of R81 accepts, is judged by its kind. -/
theorem startChecked_judged {kind : OpKind} {w : Cls}
    (p : kind ≠ .scan → s.columnProblem c = none) :
    startChecked a r c kind w tag s =
      match s.judgeKind c a r w tag kind with
      | .error e => s.send a (.refused e (.column c))
      | .ok hs => s.startOperation c a kind hs := by
  have none : (if kind = .scan then none else s.columnProblem c) = none := by
    by_cases scan : kind = .scan
    · exact if_pos scan
    · rw [if_neg scan, p scan]
  unfold startChecked
  rw [none]
  cases s.judgeKind c a r w tag kind <;> rfl

end

namespace State

theorem columnProblem_suspect {s : State} {c : Nat} (h : (s.col c).causes.suspect = true) :
    s.columnProblem c = some (.suspect, .column c) := by
  have frozen : s.frozen c = true := by simp [frozen, Causes.any, h]
  rw [columnProblem, if_pos frozen, Causes.status, if_pos h]

theorem columnProblem_frozen {s : State} {c : Nat} (h : (s.col c).causes.suspect = false)
    (k : (s.col c).causes.discrepancy = true ∨ (s.col c).causes.zone = true) :
    s.columnProblem c = some (.frozen, .column c) := by
  have frozen : s.frozen c = true := by
    rcases k with k | k <;> simp [frozen, Causes.any, k]
  rw [columnProblem, if_pos frozen, Causes.status, if_neg (by simp [h])]

theorem not_frozen {s : State} {c : Nat} (h : (s.col c).causes = ⟨false, false, false⟩) :
    s.frozen c = false := by
  rw [frozen, h]
  rfl

theorem columnProblem_unmapped {s : State} {c : Nat}
    (h : (s.col c).causes = ⟨false, false, false⟩) (k : s.mappedBy c = none) :
    s.columnProblem c = some (.unmapped, .column c) := by
  simp [columnProblem, not_frozen h, k]

theorem columnProblem_settling {s : State} {c x : Nat} {m : SettleMark}
    (h : (s.col c).causes = ⟨false, false, false⟩) (k : s.mappedBy c = some x)
    (hm : (s.col c).settleMark = some m) (left : m.left ≠ 0) :
    s.columnProblem c = some (.settling, .settling c m.left) := by
  simp [columnProblem, not_frozen h, k, settleLeft, hm, left]

theorem columnProblem_none {s : State} {c : Nat} (h : s.frozen c = false)
    (k : s.mappedBy c ≠ none) (left : s.settleLeft c = 0) : s.columnProblem c = none := by
  simp [columnProblem, h, k, left]

end State

/-- Settles O36, by the first check that fails. -/
theorem operationStartChecksInOrder : Obligations.OperationStartChecksInOrder := by
  unfold Obligations.OperationStartChecksInOrder
  intro addr b k t3 t2 t1 t0 r s hr a c refuses holds
  have taken : ∀ {e x}, takeOpStart a r ⟨c, k, be32 t3 t2 t1 t0⟩ s = s.send a (.refused e x) →
      refuses e x := fun h =>
    (exec_opStart hr).trans (congrArg (fun t : State => Host.Outcome.next t.startTx) h)
  have kinded : k.toNat ≤ 3 → ∃ kind, OpKind.ofByte? k = some kind := fun small =>
    Option.ne_none_iff_exists'.mp (mt OpKind.ofByte?_eq_none.mp (Nat.not_lt.mpr small))
  refine ⟨fun undefined => taken (takeOpStart_undefined undefined), fun d defined =>
    ⟨fun inactive => taken (takeOpStart_notActive defined inactive),
      fun active big => taken (takeOpStart_kind defined active (OpKind.ofByte?_eq_none.mpr big)),
      fun active small none => ?_, fun g active small held => ?_⟩⟩
  · obtain ⟨kind, hk⟩ := kinded small
    exact taken (takeOpStart_noGrant defined active hk none)
  obtain ⟨kind, hk⟩ := kinded small
  have holder := takeOpStart_holder (tag := be32 t3 t2 t1 t0) defined active hk held.1 held.2
  refine ⟨fun busy => taken (holder.trans (if_pos busy)), fun idle revoked => ?_,
    fun idle free other => ?_⟩
  · rw [if_neg (not_not.mpr idle), if_pos revoked] at holder
    exact taken holder
  rw [if_neg (not_not.mpr idle), if_neg (not_not.mpr free)] at holder
  have scan : kind ≠ .scan := by
    rintro rfl
    exact other (OpKind.ofByte?_eq_scan.mp hk)
  exact ⟨fun suspect => taken (holder.trans
      (startChecked_problem scan (State.columnProblem_suspect suspect))),
    fun trusted frozen => taken (holder.trans
      (startChecked_problem scan (State.columnProblem_frozen trusted frozen))),
    fun clear unmapped => taken (holder.trans
      (startChecked_problem scan (State.columnProblem_unmapped clear unmapped))),
    fun x m clear mapped mark left => taken (holder.trans
      (startChecked_problem scan (State.columnProblem_settling clear mapped mark left)))⟩

/-! ### OP_START: the judging of the kind -/

theorem Cls.recoveryOrAbove_iff {k : Cls} :
    k.recoveryOrAbove = true ↔ k = .recovery ∨ k = .service := by
  cases k <;> simp [Cls.recoveryOrAbove, Cls.rank]

namespace State

/-- A set half for a bin without a reservation (04, R83, check 6). -/
def extraHalf (s : State) (c : Nat) (d : Defn) (k : Cls) (needsRoom : Bool) (half : SetHalf) :
    Except Status SetHalf :=
  if ¬(k = .recovery ∨ k = .service) then .error .cls
  else if needsRoom ∧ ¬s.roomUsed c < d.capacity then .error .full
  else .ok half

theorem extraSetProblem_eq {s : State} {c : Nat} {d : Defn} {k : Cls} (room : Bool)
    (half : SetHalf) (h : s.defn c = some d) :
    (match s.extraSetProblem c k room with
      | some e => .error e
      | none => .ok half) = s.extraHalf c d k room half := by
  unfold extraSetProblem extraHalf
  simp only [← Cls.recoveryOrAbove_iff, hasRoom_defined h, Bool.not_eq_true', Bool.and_eq_true,
    decide_eq_false_iff_not, Bool.not_eq_true]
  by_cases low : k.recoveryOrAbove = false
  · rw [if_pos low, if_pos low]
  rw [if_neg low, if_neg low]
  by_cases full : room = true ∧ ¬s.roomUsed c < d.capacity
  · rw [if_pos full, if_pos full]
  · rw [if_neg full, if_neg full]

/-- The set half, by the slot of a robot whose handover is OPEN or CARRIED (04, R83, check 6). -/
theorem judgeSet_eq {s : State} {c : Nat} {d : Defn} {k : Cls} (room : Bool) (sl : Slot)
    (h : s.defn c = some d)
    (carries : ∀ n, sl = .tracked n →
      ∃ h, s.handover n = some h ∧ (h.state = .openState ∨ h.state = .carried)) :
    s.judgeSet c k room sl =
      match (generalizing := false) sl with
      | .empty => .error .unloaded
      | .tracked n =>
        match s.handover n with
        | none => .error .unloaded
        | some h =>
          if h.state = .openState then
            if h.column = some c then .ok (.reserved n) else .error .wrongColumn
          else s.extraHalf c d k room (.relocation n)
      | .untracked t => s.extraHalf c d k room (.untracked t) := by
  cases sl with
  | empty => rfl
  | tracked n =>
    obtain ⟨q, hq, st⟩ := carries n rfl
    simp only [judgeSet, hq]
    rcases st with st | st
    · simp only [st, if_true]
    · simp only [st, reduceCtorEq, if_false]
      exact extraSetProblem_eq room (.relocation n) h
  | untracked t => exact extraSetProblem_eq room (.untracked t) h

theorem qualifies_iff {h : Handover} {a : Nat} :
    qualifies h a = true ↔ h.state = .staged ∧ (h.taker = .addr a ∨ h.taker = .any) := by
  simp [qualifies]

/-- The lift half, by the top entry (04, R85, checks 2 and 3). -/
theorem judgeLift_eq (s : State) (c a : Nat) (k : Cls) :
    s.judgeLift c a k =
      match (s.col c).stack.getLast? with
      | none => .error .empty
      | some (.foreign t) => if k = .recovery ∨ k = .service then .ok (.foreign t) else .error .cls
      | some (.tracked n) =>
        match s.handover n with
        | none => if k = .recovery ∨ k = .service then .ok (.relocation n) else .error .notYours
        | some h =>
          if h.state = .staged ∧ (h.taker = .addr a ∨ h.taker = .any) then
            if h.uncertain then .error .uncertain else .ok (.taker n)
          else if k = .recovery ∨ k = .service then .ok (.relocation n) else .error .notYours := by
  unfold judgeLift top
  simp only [← Cls.recoveryOrAbove_iff]
  cases (s.col c).stack.getLast? with
  | none => rfl
  | some e =>
    cases e with
    | foreign t => rfl
    | tracked n =>
      cases hn : s.handover n with
      | none => simp only [hn, Option.filter_none]
      | some q =>
        by_cases own : q.state = .staged ∧ (q.taker = .addr a ∨ q.taker = .any)
        · simp only [hn, Option.filter_some, qualifies_iff.mpr own, if_true, if_pos own]
        · have other : qualifies q a = false := by
            rw [← Bool.not_eq_true, qualifies_iff]
            exact own
          simp only [hn, Option.filter_some, other, Bool.false_eq_true, if_false, if_neg own]

/-! ### OP_START: acceptance -/

theorem auditStart_eq {s : State} {q : AuditUnit} (c : Nat) (h : s.audit = q) :
    s.auditStart c =
      if q.state = AuditState.calling ∧ q.called = some c then
        { s with audit := { s.audit with state := .executing } }
      else s := by
  subst h
  simp only [auditStart, Bool.and_eq_true, beq_iff_eq]

/-- The start of an operation's halves changes handovers alone (04, R84, R86). -/
theorem startHalves_rest (s : State) (p : Option SetHalf) (l : Option LiftHalf) :
    (s.startSet p).startLift l =
      { s with handovers := ((s.startSet p).startLift l).handovers } := by
  have set : s.startSet p = { s with handovers := (s.startSet p).handovers } := by
    unfold startSet
    split <;> rfl
  have lift : ∀ t : State, t.startLift l = { t with handovers := (t.startLift l).handovers } := by
    intro t
    unfold startLift
    split <;> rfl
  rw [lift, set]

theorem startHalves_audit (s : State) (p : Option SetHalf) (l : Option LiftHalf) :
    ((s.startSet p).startLift l).audit = s.audit := by
  rw [startHalves_rest]

theorem takesInbound_eq (kind : OpKind) (p : Option SetHalf) :
    takesInbound kind p =
      match kind, p with
      | .set, some (.relocation _) | .set, some (.untracked _) => true
      | _, _ => false := by
  rcases p with _ | _ | _ | _ <;> cases kind <;> rfl

/-- What an accepted OP_START writes, given whether its set takes inbound (04, R84 to R90). -/
theorem startOperation_eq (s : State) (c a : Nat) (kind : OpKind) (p : Option SetHalf)
    (l : Option LiftHalf) {takes : Bool} (h : takesInbound kind p = takes) :
    s.startOperation c a kind (p, l) =
      let held := ((s.startSet p).startLift l).modCol c fun q =>
        { q with
          inbound := q.inbound || takes
          op := some { s.newOperation a kind (p, l) with inboundTaken := takes } }
      State.send
        (if s.audit.state = AuditState.calling ∧ s.audit.called = some c then
          { held with audit := { held.audit with state := .executing } }
        else held)
        a (.go c kind s.operationMs p l) := by
  subst h
  exact congrArg (fun t : State => t.send a (.go c kind s.operationMs p l))
    (auditStart_eq (s := ((s.startSet p).startLift l).modCol c _) c (q := s.audit)
      (startHalves_audit s p l))

end State

/-- Settles O37, by the kind and its halves. -/
theorem operationStartIsJudgedByItsKind : Obligations.OperationStartIsJudgedByItsKind := by
  unfold Obligations.OperationStartIsJudgedByItsKind
  intro addr b k t3 t2 t1 t0 r d g kind s a c tag hr active defined hk held holder free idle usable
    carries high room carried extra setHalf liftHalf setRefusal verdict stopped
  have halfSet : ∀ needsRoom, s.judgeSet c g.cls needsRoom r.slot = setHalf needsRoom :=
    fun needsRoom => State.judgeSet_eq needsRoom r.slot defined carries
  have halfLift : s.judgeLift c a g.cls = liftHalf := State.judgeLift_eq s c a g.cls
  have tagOf : s.slotTag r.slot = carried := by
    unfold State.slotTag
    cases hsl : r.slot with
    | empty => simp only [carried, hsl]
    | tracked n => simp only [carried, hsl, State.tagOf]
    | untracked t => simp only [carried, hsl]
  have refusal : s.setProblem c r tag = setRefusal := by
    unfold State.setProblem
    rw [tagOf, State.locked_defined defined]
  have judged : s.judgeKind c a r g.cls tag kind = verdict := by
    cases hkind : kind with
    | scan => simp only [verdict, hkind, State.judgeKind]
    | set =>
      cases e : setRefusal with
      | some e' => simp only [verdict, hkind, State.judgeKind, refusal, e]
      | none => simp only [verdict, hkind, State.judgeKind, refusal, e, halfSet]
    | lift => simp only [verdict, hkind, State.judgeKind, halfLift]
    | swap =>
      cases e : setRefusal with
      | some e' => simp only [verdict, hkind, State.judgeKind, refusal, e]
      | none =>
        cases l : liftHalf with
        | error x => simp only [verdict, hkind, State.judgeKind, refusal, e, halfLift, l]
        | ok l' => simp only [verdict, hkind, State.judgeKind, refusal, e, halfLift, l, halfSet]
  have checked : kind ≠ .scan → s.columnProblem c = none := fun other => by
    obtain ⟨clear, mapped, settled⟩ := usable other
    exact State.columnProblem_none clear mapped settled
  rw [exec_opStart hr, takeOpStart_holder defined active hk held holder, if_neg (not_not.mpr idle),
    if_neg (not_not.mpr free), startChecked_judged checked, judged]
  refine congrArg (fun t : State => Host.Outcome.next t.startTx) ?_
  generalize verdict = v
  cases v with
  | error e => rfl
  | ok hs =>
    obtain ⟨p, l⟩ := hs
    dsimp only
    rw [s.startOperation_eq c a kind p l (State.takesInbound_eq kind p)]
    rfl

/-! ### OP_END: the checks -/

theorem exec_opEnd {addr b res h t3 t2 t1 t0 : Byte} {r : Robot} {s : State}
    (hr : s.robot addr.toNat = some r) :
    exec (.opEnd addr [b, res, h, t3, t2, t1, t0]) s =
      .next (takeOpEnd addr.toNat r ⟨b.toNat, res, h.toNat, be32 t3 t2 t1 t0⟩ s).startTx :=
  robotFrame_ok hr

theorem OpResult.ofByte?_eq_none {k : Byte} : OpResult.ofByte? k = none ↔ 1 < k.toNat := by
  simp only [OpResult.ofByte?, ← BitVec.toNat_inj]
  grind

section
variable {a c height : Nat} {res : Byte} {r : Robot} {tag : BinTag} {s : State} {d : Defn}

theorem takeOpEnd_lost (h : r.state = .lost) :
    takeOpEnd a r ⟨c, res, height, tag⟩ s = s.send a (.refused .lost (.column c)) := if_pos h

theorem takeOpEnd_undefined (n : r.state ≠ .lost) (h : s.defn c = none) :
    takeOpEnd a r ⟨c, res, height, tag⟩ s = s.send a (.refused .unknownColumn (.column c)) := by
  simp [takeOpEnd, n, h, State.sendRefused]

theorem takeOpEnd_noOperation (n : r.state ≠ .lost) (h : s.defn c = some d)
    (no : ¬∃ o, (s.col c).op = some o ∧ o.robot = a) :
    takeOpEnd a r ⟨c, res, height, tag⟩ s = s.send a (.refused .noOperation (.column c)) := by
  have none : (s.col c).op.filter (fun o => o.robot == a) = none := by
    cases ho : (s.col c).op with
    | none => rfl
    | some o => simpa [ho] using no
  simp [takeOpEnd, n, h, none, State.sendRefused]

/-- An OP_END of the robot whose operation is in flight (04, R91, check 4). -/
theorem takeOpEnd_working {o : Operation} (n : r.state ≠ .lost) (h : s.defn c = some d)
    (ho : (s.col c).op = some o) (ha : o.robot = a) :
    takeOpEnd a r ⟨c, res, height, tag⟩ s =
      match OpResult.ofByte? res with
      | none => s.send a (.refused .outOfRange (.column c))
      | some k =>
        if 4 < height then s.send a (.refused .outOfRange (.column c))
        else
          match k with
          | .ok => s.endOk c o height tag
          | .failed => s.endFailed c o height tag := by
  have own : (s.col c).op.filter (fun o => o.robot == a) = some o := by
    simp [ho, Option.filter_some, ha]
  have known : (s.defn c).isNone = false := by simp [h]
  cases hk : OpResult.ofByte? res with
  | none => simp only [takeOpEnd, n, known, own, hk, if_false, Bool.false_eq_true, State.sendRefused]
  | some k =>
    cases k <;>
      simp only [takeOpEnd, n, known, own, hk, if_false, Bool.false_eq_true, State.sendRefused]

theorem takeOpEnd_outOfRange {o : Operation} (n : r.state ≠ .lost) (h : s.defn c = some d)
    (ho : (s.col c).op = some o) (ha : o.robot = a) (big : 1 < res.toNat ∨ 4 < height) :
    takeOpEnd a r ⟨c, res, height, tag⟩ s = s.send a (.refused .outOfRange (.column c)) := by
  rw [takeOpEnd_working n h ho ha]
  cases hk : OpResult.ofByte? res with
  | none => rfl
  | some k =>
    rcases big with big | big
    · rw [OpResult.ofByte?_eq_none.mpr big] at hk
      exact absurd hk (by simp)
    · exact if_pos big

end

/-- Settles O38, by the first check that fails. -/
theorem operationEndChecksInOrder : Obligations.OperationEndChecksInOrder := by
  unfold Obligations.OperationEndChecksInOrder
  intro addr b res h t3 t2 t1 t0 r s hr a c refuses working
  have taken : ∀ {e}, takeOpEnd a r ⟨c, res, h.toNat, be32 t3 t2 t1 t0⟩ s =
      s.send a (.refused e (.column c)) → refuses e := fun e =>
    (exec_opEnd hr).trans (congrArg (fun t : State => Host.Outcome.next t.startTx) e)
  refine ⟨fun lost => taken (takeOpEnd_lost lost),
    fun here undefined => taken (takeOpEnd_undefined here undefined), fun d here defined =>
    ⟨fun none => taken (takeOpEnd_noOperation here defined none), ?_⟩⟩
  rintro ⟨o, ho, ha⟩ big
  exact taken (takeOpEnd_outOfRange here defined ho ha big)

end Sys2Proof.Machine
end

section
/-! PROOFS. The fleet roster (05): enrolment, admission, dismissal, loads, and the queries. -/

namespace Sys2Proof.Machine

/-! ### A first announcement -/

theorem takeAnnounce_notRunning {q : Body.Announce} {s : State}
    (h : s.sectionState = .unconfigured) :
    takeAnnounce q s = s.send 0 (.refused .notRunning (.serial q.serial)) := by
  simp [takeAnnounce, State.not_running h, State.sendRefused]

theorem takeAnnounce_outOfRange {q : Body.Announce} {s : State} (h : s.sectionState = .running)
    (out : ¬(q.serial ≠ 0 ∧ q.gripper ≤ 7 ∧ q.level ≤ 15)) :
    takeAnnounce q s = s.send 0 (.refused .outOfRange (.serial q.serial)) := by
  have wrong : q.serial = 0 ∨ 7 < q.gripper ∨ 15 < q.level := by
    rw [← Nat.not_le, ← Nat.not_le]
    tauto
  rw [takeAnnounce, State.is_running h, if_neg (by simp), if_pos wrong, State.sendRefused]

/-- In RUNNING, an announcement in range of a serial no record holds (05, R106, R108). -/
theorem takeAnnounce_unknown {q : Body.Announce} {s : State} (h : s.sectionState = .running)
    (good : q.serial ≠ 0 ∧ q.gripper ≤ 7 ∧ q.level ≤ 15) (n : s.addressOf q.serial = none) :
    takeAnnounce q s =
      match s.freeAddress with
      | some a => s.firstAnnouncement a q
      | none => s.send 0 (.refused .rosterFull (.serial q.serial)) := by
  have right : ¬(q.serial = 0 ∨ 7 < q.gripper ∨ 15 < q.level) := by
    rw [← Nat.not_le, ← Nat.not_le]
    tauto
  rw [takeAnnounce, State.is_running h, if_neg (by simp), if_neg right, n]
  cases s.freeAddress <;> rfl

namespace State

theorem robot_succ (s : State) (k : Nat) : s.robot (k + 1) = s.roster.getD k none := rfl

/-- The lowest address without a record is the free one (05, R106). -/
theorem freeAddress_eq_some {s : State} {a : Nat} (size : s.roster.length = 48) (low : 1 ≤ a)
    (high : a ≤ 48) (free : s.robot a = none)
    (below : ∀ b, 1 ≤ b → b < a → s.robot b ≠ none) : s.freeAddress = some a := by
  obtain ⟨k, rfl⟩ : ∃ k, a = k + 1 := ⟨a - 1, by omega⟩
  have lt : k < s.roster.length := by omega
  rw [robot_succ, List.getD_eq_getElem?_getD, List.getElem?_eq_getElem lt] at free
  refine (indexFrom_eq_some _ _ _ _).mpr ⟨k, s.roster[k], Nat.add_comm k 1,
    List.getElem?_eq_getElem lt, by simpa using free, fun m hm e he => ?_⟩
  have held := below (m + 1) (by omega) (by omega)
  rw [robot_succ, List.getD_eq_getElem?_getD, he, Option.getD_some] at held
  cases e with
  | none => exact absurd rfl held
  | some r => rfl

theorem freeAddress_eq_none {s : State} (size : s.roster.length = 48)
    (full : ∀ a, 1 ≤ a → a ≤ 48 → s.robot a ≠ none) : s.freeAddress = none := by
  refine (indexFrom_eq_none _ _ _).mpr fun e he => ?_
  obtain ⟨k, lt, rfl⟩ := List.mem_iff_getElem.mp he
  have held := full (k + 1) (by omega) (by omega)
  rw [robot_succ, List.getD_eq_getElem?_getD, List.getElem?_eq_getElem lt, Option.getD_some] at held
  simpa [← Option.isSome_iff_ne_none] using held

theorem inactiveReason_eq (s : State) (g l : Nat) :
    s.inactiveReason g l =
      if s.params.acceptedClasses.getLsbD g = false then some .cls
      else if l < s.params.minLevel then some .level
      else none := by
  unfold inactiveReason Params.accepts
  cases s.params.acceptedClasses.getLsbD g <;> rfl

end State

theorem judgedState_eq (reason : Option InactiveReason) :
    judgedState reason = if reason = none then .announced else .inactive := by
  cases reason <;> rfl

/-- ADDRESS gives a judged robot the reason of its judgement (05, R109). -/
theorem State.sendAddress_judged {s : State} {a : Nat} {r : Robot} {reason : Option InactiveReason}
    (st : r.state = if reason = none then .announced else .inactive)
    (last : reason ≠ none → r.lastInactive = reason) :
    s.sendAddress a r = s.send 0 (.address r.serial a r.state reason) := by
  unfold State.sendAddress
  by_cases judged : reason = none
  · rw [if_pos judged] at st
    rw [st, judged, if_neg (by simp)]
  · rw [if_neg judged] at st
    rw [st, if_pos rfl, last judged]

namespace State

theorem newRobot_eq (s : State) (q : Body.Announce) {reason : Option InactiveReason}
    (h : s.inactiveReason q.gripper q.level = reason) :
    s.newRobot q =
      { serial := q.serial, boot := q.boot, gripper := q.gripper, level := q.level,
        state := if reason = none then .announced else .inactive, maxClass := none,
        admitPending := false, slot := if q.load = 0 then .empty else .untracked q.load,
        loadConfirmed := false,
        readyTimer := if reason = none then some (s.params.readyLimit * 1000) else none,
        lastInactive := reason } := by
  unfold newRobot enrolled
  rw [h, judgedState_eq]
  cases reason <;> rfl

theorem judgeElsewhere_eq (s : State) (a : Nat) (r : Robot) (t : BinTag) :
    s.judgeElsewhere a r t =
      match if t = 0 then none else s.handoverByTag t with
      | none => s
      | some h => s.notify
          (.custodyConflict .trackedElsewhere a r.serial t r.slot h.number h.state h.custody) := by
  unfold judgeElsewhere elsewhere conflict
  cases (if t = 0 then none else s.handoverByTag t) <;> rfl

/-- What a tag names is the same in a state with the same records. -/
theorem handoverByTag_congr {s t : State} (h : s.handovers = t.handovers) (tag : BinTag) :
    s.handoverByTag tag = t.handoverByTag tag := by
  unfold handoverByTag
  rw [h]

end State

/-- Settles O43, by the first check that fails and by the judgement of the robot. -/
theorem firstAnnouncementEnrolsTheRobot : Obligations.FirstAnnouncementEnrolsTheRobot := by
  unfold Obligations.FirstAnnouncementEnrolsTheRobot
  intro addr body q s decodes size refuses inRange unknown
  have taken : ∀ {t : State}, takeAnnounce q s = t →
      exec (.announce addr body) s = .next t.startTx := fun e =>
    (exec_announce_ok decodes).trans (congrArg (fun t : State => Host.Outcome.next t.startTx) e)
  refine ⟨fun unconfigured => taken (takeAnnounce_notRunning unconfigured),
    fun running out => taken (takeAnnounce_outOfRange running out),
    fun running good new full => taken ?_, fun a running good new low high free below => ?_⟩
  · rw [takeAnnounce_unknown running good (State.addressOf_eq_none.mpr new),
      State.freeAddress_eq_none size full]
  intro reason slot state written told
  have judged : s.inactiveReason q.gripper q.level = reason := State.inactiveReason_eq ..
  have robot := s.newRobot_eq q judged
  have sent : (s.setRobot a (some (s.newRobot q))).sendAddress a (s.newRobot q) =
      written.send 0 (.address q.serial a state reason) := by
    rw [robot]
    exact State.sendAddress_judged rfl fun _ => rfl
  have first : s.firstAnnouncement a q = told.judgeElsewhere a (s.newRobot q) q.load := by
    rw [State.firstAnnouncement, sent, robot]
  have records : told.handoverByTag q.load = s.handoverByTag q.load :=
    State.handoverByTag_congr (by simp [told, written]) _
  refine taken ?_
  rw [takeAnnounce_unknown running good (State.addressOf_eq_none.mpr new),
    State.freeAddress_eq_some size low high free below]
  dsimp only
  rewrite [first, State.judgeElsewhere_eq, records, robot]
  cases (if q.load = 0 then none else s.handoverByTag q.load) <;> rfl

/-! ### The record a request names -/

/-- The record a robot is named by: its address, or the lowest address with its serial (05, R113). -/
def State.Names (s : State) (ref : RobotRef) (a : Nat) (r : Robot) : Prop :=
  s.robot a = some r ∧
    (ref = .address a ∨ ref = .serial r.serial ∧
      ∀ b k, s.robot b = some k → k.serial = r.serial → a ≤ b)

namespace State

theorem addressOf_lowest {s : State} {a : Nat} {r : Robot} (hr : s.robot a = some r)
    (low : ∀ b k, s.robot b = some k → k.serial = r.serial → a ≤ b) :
    s.addressOf r.serial = some a := by
  obtain ⟨k, rfl, hk⟩ := robot_eq_some.mp hr
  refine (indexFrom_eq_some _ _ _ _).mpr ⟨k, some r, Nat.add_comm k 1, hk, by simp,
    fun m hm e he => ?_⟩
  cases e with
  | none => rfl
  | some q =>
    by_contra same
    have := low (m + 1) q (robot_eq_some.mpr ⟨m, rfl, he⟩) (by simpa using same)
    omega

theorem enrolledAs_some {s : State} {ref : RobotRef} {a : Nat} {r : Robot}
    (h : s.Names ref a r) : s.enrolledAs ref = some (a, r) := by
  obtain ⟨hr, rfl | ⟨rfl, low⟩⟩ := h
  · rw [enrolledAs, hr]
    rfl
  · rw [enrolledAs, addressOf_lowest hr low, Option.bind_some, hr]
    rfl

theorem enrolledAs_none {s : State} {ref : RobotRef} (h : ∀ a r, ¬s.Names ref a r) :
    s.enrolledAs ref = none := by
  cases ref with
  | address a =>
    cases hr : s.robot a with
    | none => simp [enrolledAs, hr]
    | some r => exact absurd ⟨hr, .inl rfl⟩ (h a r)
  | serial n =>
    cases ha : s.addressOf n with
    | none => simp [enrolledAs, ha]
    | some a =>
      obtain ⟨r, hr, rfl⟩ := robot_of_addressOf ha
      obtain ⟨k, e, hak, hk, -, low⟩ := (indexFrom_eq_some _ _ _ _).mp ha
      refine absurd ⟨hr, .inr ⟨rfl, fun b q hq same => ?_⟩⟩ (h a r)
      obtain ⟨m, rfl, hm⟩ := robot_eq_some.mp hq
      by_contra below
      have no := low m (by omega) (some q) hm
      simp [same] at no

end State

theorem onRobot_none {s : State} {ref : RobotRef} {take : Nat → Robot → State → Answer}
    (h : ∀ a r, ¬s.Names ref a r) : onRobot ref take s = refuse s .unknownRobot := by
  rw [onRobot, State.enrolledAs_none h]

theorem onRobot_some {s : State} {ref : RobotRef} {take : Nat → Robot → State → Answer} {a : Nat}
    {r : Robot} (h : s.Names ref a r) : onRobot ref take s = take a r s := by
  rw [onRobot, State.enrolledAs_some h]

/-! ### ADMIT -/

theorem Cls.ofByte?_eq_none {k : Byte} : Cls.ofByte? k = none ↔ 3 < k.toNat := by
  simp only [Cls.ofByte?, ← BitVec.toNat_inj]
  grind

section
variable {k : Byte} {w : Cls} {a : Nat} {r : Robot} {s : State}

theorem takeAdmit_outOfRange (h : 3 < k.toNat) : takeAdmit k a r s = refuse s .outOfRange := by
  rw [takeAdmit, Cls.ofByte?_eq_none.mpr h]

theorem takeAdmit_inactive (hw : Cls.ofByte? k = some w) (h : r.state = .inactive) :
    takeAdmit k a r s = refuse s .inactive := by
  simp only [takeAdmit, hw, h]

theorem takeAdmit_active (hw : Cls.ofByte? k = some w) (h : r.state = .active) :
    takeAdmit k a r s = refuse s .wrongState := by
  simp only [takeAdmit, hw, h]

theorem takeAdmit_announced (hr : s.robot a = some r) (hw : Cls.ofByte? k = some w)
    (h : r.state = .announced) :
    takeAdmit k a r s =
      ⟨s.setRobot a (some { r with maxClass := some w, admitPending := true }), .ok,
        .admitted a r.serial w .announced⟩ := by
  simp only [takeAdmit, hw, h, s.modRobot_eq_setRobot hr]

theorem takeAdmit_ready (hr : s.robot a = some r) (hw : Cls.ofByte? k = some w)
    (h : r.state = .ready ∨ r.state = .lost) :
    takeAdmit k a r s =
      ⟨(s.setRobot a (some { r with maxClass := some w, state := .active })).send 0
          (.address r.serial a .active none), .ok, .admitted a r.serial w .active⟩ := by
  rcases h with h | h <;> simp only [takeAdmit, hw, h, s.modRobot_eq_setRobot hr]

/-! ### DISMISS and the ready limit -/

theorem takeDismiss_custodian {n : Nat} (h : r.slot = .tracked n) :
    takeDismiss a r s = refuse s .custodian (.custodian n) := by
  simp only [takeDismiss, h, Slot.handover]

theorem Slot.handover_eq_none {sl : Slot} (h : ∀ n, sl ≠ .tracked n) : sl.handover = none := by
  cases sl with
  | tracked n => exact absurd rfl (h n)
  | empty => rfl
  | untracked t => rfl

theorem takeDismiss_busy (h : ∀ n, r.slot ≠ .tracked n)
    (b : s.grantedTo a ≠ none ∨ s.waitingOn a ≠ none) : takeDismiss a r s = refuse s .busy := by
  have stands : (s.standingOn a).isSome = true := by
    unfold State.standingOn
    cases hg : s.grantedTo a <;> simp_all [Option.isSome_iff_ne_none]
  simp only [takeDismiss, Slot.handover_eq_none h, stands, if_true]

theorem takeDismiss_ok (h : ∀ n, r.slot ≠ .tracked n) (g : s.grantedTo a = none)
    (w : s.waitingOn a = none) :
    takeDismiss a r s =
      ⟨((s.send a .dismissed).removeTaker a).setRobot a none, .ok,
        .dismissed a r.serial r.slot (s.takerCount a)⟩ := by
  simp only [takeDismiss, Slot.handover_eq_none h, State.standingOn, g, w, Option.or_none,
    Option.isSome_none, Bool.false_eq_true, if_false]

theorem State.removeTaker_eq (s : State) (a : Nat) :
    s.removeTaker a =
      { s with
        handovers := s.handovers.map fun h =>
          if h.taker ≠ .addr a then h
          else if h.state = .staged then
            { h with state := .parked, taker := .none, deadline := none }
          else { h with taker := .none } } := by
  refine congrArg (fun l => { s with handovers := l }) (List.map_congr_left fun h _ => ?_)
  by_cases names : h.taker = .addr a
  · rw [if_pos (by simp [names]), if_neg (not_not.mpr names)]
    rfl
  · rw [if_neg (by simp [names]), if_pos names]

end

theorem exec_readyLimitExpiry {a : Nat} {r : Robot} {s : State} (hr : s.robot a = some r) :
    exec (.readyLimitExpiry a) s =
      if r.readyDue then .next (s.readyExpired a r).startTx else .next s := by
  change execReadyLimitExpiry a s = _
  rw [execReadyLimitExpiry, hr]
  rfl

/-- Settles O47, by the record that is named and its state. -/
theorem admissionReadyLimitAndDismissal : Obligations.AdmissionReadyLimitAndDismissal := by
  unfold Obligations.AdmissionReadyLimitAndDismissal
  refine ⟨fun tag body ref k s decodes running takes => ?_,
    fun tag body ref s decodes running takes => ?_, fun a r s hr => ?_⟩
  · intro u answers found
    have taken : exec (.admitRobot tag body) s =
        .next ((onRobot ref (takeAdmit k) u).made 6 tag) :=
      hostRequest_running (take := fun q : RobotRef × Byte => onRobot q.1 (takeAdmit q.2)) takes
        decodes running
    have admits : ∀ {a r} {t : Answer}, found a r → takeAdmit k a r u = t →
        exec (.admitRobot tag body) s = .next (t.made 6 tag) := fun known e => by
      rw [taken, onRobot_some (s := u) known, e]
    refine ⟨fun none => ?_, fun a r known => ⟨fun big => admits known (takeAdmit_outOfRange big),
      fun w hw => ⟨fun st => admits known (takeAdmit_inactive hw st),
        fun st => admits known (takeAdmit_active hw st),
        fun st => admits known (takeAdmit_announced known.1 hw st),
        fun st => admits known (takeAdmit_ready known.1 hw st)⟩⟩⟩
    refine taken.trans ?_
    rw [onRobot_none (s := u) none, refuse_made]
  · intro u answers found
    have taken : exec (.dismiss tag body) s = .next ((onRobot ref takeDismiss u).made 7 tag) :=
      hostRequest_running (take := fun q : RobotRef => onRobot q takeDismiss) takes decodes running
    have dismisses : ∀ {a r} {t : Answer}, found a r → takeDismiss a r u = t →
        exec (.dismiss tag body) s = .next (t.made 7 tag) := fun known e => by
      rw [taken, onRobot_some (s := u) known, e]
    refine ⟨fun none => ?_, fun a r known =>
      ⟨fun n slot => dismisses known (takeDismiss_custodian slot), fun slot =>
        ⟨fun busy => dismisses known (takeDismiss_busy slot busy), fun grants waits => ?_⟩⟩⟩
    · refine taken.trans ?_
      rw [onRobot_none (s := u) none, refuse_made]
    · intro left
      have gone : (u.send a .dismissed).removeTaker a = left := by
        rw [State.removeTaker_eq, State.send_handovers]
        rfl
      rw [← gone]
      exact dismisses known (takeDismiss_ok (s := u) slot grants waits)
  · refine ⟨fun announced due => ?_, fun early => ?_⟩
    · rw [exec_readyLimitExpiry hr, if_pos ((Robot.readyDue_iff r).mpr ⟨announced, due⟩)]
      rfl
    · rw [exec_readyLimitExpiry hr, if_neg (mt (Robot.readyDue_iff r).mp early)]

/-! ### LOAD_REPORT and DROP_OFF -/

theorem exec_loadReport {addr t3 t2 t1 t0 : Byte} {r : Robot} {s : State}
    (hr : s.robot addr.toNat = some r) :
    exec (.loadReport addr [t3, t2, t1, t0]) s =
      .next (takeLoadReport addr.toNat r (be32 t3 t2 t1 t0) s).startTx := robotFrame_ok hr

theorem exec_dropOff {addr : Byte} {r : Robot} {s : State} (hr : s.robot addr.toNat = some r) :
    exec (.dropOff addr []) s = .next (takeDropOff addr.toNat r () s).startTx := robotFrame_ok hr

section
variable {a n : Nat} {r : Robot} {t : BinTag} {s : State} {h : Handover}

theorem takeLoadReport_tracked (slot : r.slot = .tracked n) :
    takeLoadReport a r t s = reportTracked a r n t s := by
  simp only [takeLoadReport, slot]

theorem takeLoadReport_other (slot : ∀ n, r.slot ≠ .tracked n) :
    takeLoadReport a r t s = reportUntracked a r t s := by
  unfold takeLoadReport
  split
  next n e => exact absurd e (slot n)
  next => rfl

theorem State.tagOf_known (known : s.handover n = some h) : s.tagOf n = h.tag := by
  rw [State.tagOf, known]
  rfl

theorem reportTracked_confirmed (hr : s.robot a = some r) (known : s.handover n = some h)
    (loaded : t ≠ 0) (same : t = h.tag) :
    reportTracked a r n t s =
      (s.setRobot a (some { r with loadConfirmed := true })).send a
        (.accepted (.load .confirmed)) := by
  rw [reportTracked, if_neg loaded, State.tagOf_known known, if_pos same,
    s.modRobot_eq_setRobot hr]

theorem reportTracked_conflict (known : s.handover n = some h) (loaded : t ≠ 0)
    (other : t ≠ h.tag) :
    reportTracked a r n t s =
      (s.notify (.custodyConflict .wrongBin a r.serial t r.slot h.number h.state
        h.custody)).send a (.accepted (.load .conflict)) := by
  rw [reportTracked, if_neg loaded, State.tagOf_known known, if_neg other, known]
  rfl

theorem reportUntracked_idle {written : State} (hr : s.robot a = some r)
    (idle : s.workingOn a = none)
    (hw : s.setRobot a (some { r with slot := Slot.ofLoad t, loadConfirmed := false }) = written) :
    reportUntracked a r t s =
      match if t = 0 then none else s.handoverByTag t with
      | none => written.send a (.accepted (.load .noted))
      | some h =>
        (written.notify (.custodyConflict .trackedElsewhere a r.serial t (Slot.ofLoad t) h.number
          h.state h.custody)).send a (.accepted (.load .conflict)) := by
  have set : s.setSlot a (Slot.ofLoad t) false = written := (s.modRobot_eq_setRobot hr _).trans hw
  have records : written.handoverByTag t = s.handoverByTag t :=
    State.handoverByTag_congr (by simp [← hw]) t
  rw [reportUntracked, idle, if_neg (by simp), set, State.judgeElsewhere_eq, records,
    State.elsewhere]
  cases (if t = 0 then none else s.handoverByTag t) <;> rfl

theorem takeDropOff_tracked (slot : r.slot = .tracked n) :
    takeDropOff a r () s = s.send a (.refused .trackedLoad .none) := by
  simp [takeDropOff, slot, Slot.handover, State.sendRefused]

theorem takeDropOff_other (slot : ∀ n, r.slot ≠ .tracked n) :
    takeDropOff a r () s =
      if s.workingOn a ≠ none then s.send a (.refused .busy .none)
      else (s.setSlot a .empty false).send a (.accepted .none) := by
  simp only [takeDropOff, Slot.handover_eq_none slot, Option.isSome_none, Bool.false_eq_true,
    if_false, Option.isSome_iff_ne_none, State.sendRefused]

end

/-- Settles O48, by the slot and the tag. -/
theorem loadReportsAndDropOffWriteTheSlot : Obligations.LoadReportsAndDropOffWriteTheSlot := by
  unfold Obligations.LoadReportsAndDropOffWriteTheSlot
  intro addr t3 t2 t1 t0 r s hr a tag reports drops
  have reported : ∀ {t : State}, takeLoadReport a r tag s = t → reports t := fun e =>
    (exec_loadReport hr).trans (congrArg (fun t : State => Host.Outcome.next t.startTx) e)
  have dropped : ∀ {t : State}, takeDropOff a r () s = t → drops t := fun e =>
    (exec_dropOff hr).trans (congrArg (fun t : State => Host.Outcome.next t.startTx) e)
  refine ⟨fun n h slot known => ?_, fun n slot => dropped (takeDropOff_tracked slot),
    fun slot busy => ?_, fun slot idle => ?_⟩
  · have tracked := takeLoadReport_tracked (a := a) (t := tag) (s := s) slot
    exact ⟨fun zero => reported (tracked.trans (if_pos zero)),
      fun loaded same => reported (tracked.trans (reportTracked_confirmed hr known loaded same)),
      fun loaded other => reported (tracked.trans (reportTracked_conflict known loaded other))⟩
  · exact ⟨reported ((takeLoadReport_other slot).trans (if_pos (Option.isSome_iff_ne_none.mpr busy))),
      dropped ((takeDropOff_other slot).trans (if_pos busy))⟩
  · refine ⟨reported ((takeLoadReport_other slot).trans (reportUntracked_idle hr idle rfl)),
      dropped ((takeDropOff_other slot).trans ?_)⟩
    rw [if_neg (not_not.mpr idle), State.setSlot, s.modRobot_eq_setRobot hr]

end Sys2Proof.Machine
end

section
/-! PROOFS. QUERY_ROBOT and QUERY_ZONES (05, R122; 08, R171), and the audit walk (06). -/

namespace Sys2Proof.Machine

/-! ### QUERY_ROBOT -/

namespace State

theorem slotView_tracked {s : State} {r : Robot} {n : Nat} {h : Handover}
    (slot : r.slot = .tracked n) (known : s.handover n = some h) :
    s.slotView r = .tracked n h.state h.uncertain r.loadConfirmed := by
  simp only [slotView, slot, known]

theorem standing_grant {s : State} {a c : Nat} {g : Grant} (h : s.grantedTo a = some c)
    (hg : (s.col c).grant = some g) : s.standing a = .grant c g := by
  simp only [standing, h, hg]

theorem standing_none {s : State} {a : Nat} (h : s.grantedTo a = none) (w : s.waitingOn a = none) :
    s.standing a = .none := by
  simp only [standing, h, w]

/-- A request's class and its position from 1 (03, R57; 05, R122). -/
theorem standing_waiting {s : State} {a c : Nat} {front rest : List WaitReq} {w : WaitReq}
    (h : s.grantedTo a = none) (hw : s.waitingOn a = some c)
    (list : (s.col c).waits = front ++ w :: rest) (own : w.robot = a)
    (others : ∀ q ∈ front, q.robot ≠ a) :
    s.standing a = .waiting c w.cls (front.length + 1) := by
  have found : (s.col c).waits.find? (fun q => q.robot == a) = some w := by
    rw [list]
    exact List.find?_eq_some_iff_append.mpr ⟨by simp [own], front, rest, rfl, by simpa using others⟩
  have place : indexFrom (fun q => q.robot == a) (s.col c).waits 1 = some (front.length + 1) := by
    refine (indexFrom_eq_some _ _ _ _).mpr ⟨front.length, w, Nat.add_comm .., ?_, by simp [own],
      fun m hm q hq => ?_⟩
    · rw [list, List.getElem?_append_right (Nat.le_refl _), Nat.sub_self]
      rfl
    · rw [list, List.getElem?_append_left hm] at hq
      simpa using others q (List.mem_of_getElem? hq)
  simp only [standing, h, hw, classOn, positionOn, found, place, Option.map_some, Option.getD_some]

theorem operationBy_some {s : State} {a c : Nat} {o : Operation} (h : s.workingOn a = some c)
    (ho : (s.col c).op = some o) : s.operationBy a = some (c, o) := by
  rw [operationBy, h, Option.bind_some, ho]
  rfl

theorem operationBy_none {s : State} {a : Nat} (h : s.workingOn a = none) :
    s.operationBy a = none := by
  rw [operationBy, h, Option.bind_none]

end State

/-- Settles O49, by the fields of the two reports. -/
theorem robotAndZoneQueriesReportTheRecords : Obligations.RobotAndZoneQueriesReportTheRecords := by
  unfold Obligations.RobotAndZoneQueriesReportTheRecords
  refine ⟨fun tag body ref s decodes takes => ?_, fun tag s takes => ?_⟩
  · intro answers found
    have taken : exec (.queryRobot tag body) s =
        .next ((onRobot ref (fun a r s => ⟨s, .ok, .robot (s.robotReport a r)⟩)
          (s.intake 8 tag body)).made 8 tag) :=
      hostRequest_decoded (take := fun q : RobotRef => onRobot q fun a r s =>
        ⟨s, .ok, .robot (s.robotReport a r)⟩) takes decodes
    refine ⟨fun none => ?_, fun a r known => ⟨s.robotReport a r, ?_, rfl, rfl, fun slot => ?_,
      fun t slot => ?_, fun n h slot held => State.slotView_tracked slot held,
      fun c g => State.standing_grant, State.standing_none,
      fun c front w rest grants waits list own others =>
        State.standing_waiting grants waits list own others, fun c o works ho => ?_,
      fun idle => ?_, rfl⟩⟩
    · refine taken.trans ?_
      rw [onRobot_none (s := s.intake 8 tag body) none, refuse_made]
    · refine taken.trans ?_
      rw [onRobot_some (s := s.intake 8 tag body) known]
      rfl
    · simp only [State.robotReport, State.slotView, slot]
    · simp only [State.robotReport, State.slotView, slot]
    · rw [State.robotReport, State.operationBy_some works ho]
      rfl
    · rw [State.robotReport, State.operationBy_none idle]
      rfl
  · refine ⟨s.zonesReport, hostRequest_decoded takes rfl, rfl, rfl, ?_, fun p hp => ?_,
      fun z hz => ?_⟩
    · rw [State.zonesReport, Option.map_map]
      exact Option.map_id' ..
    · obtain ⟨t, -, rfl⟩ := Option.map_eq_some_iff.mp hp
      rfl
    · rw [State.zonesReport, Quad.get_ofFn _ _ hz, State.zoneReport, State.columnsOf_eq]
      rfl

/-! ### The pointed column -/

namespace State

theorem mem_mappedColumns {s : State} {c : Nat} :
    c ∈ s.mappedColumns ↔ c < 96 ∧ s.mappedBy c ≠ none := by
  simp [mappedColumns, Config.columnCount, Option.isSome_iff_ne_none]

theorem mappedColumns_ascending (s : State) : s.mappedColumns.Pairwise (· < ·) :=
  List.pairwise_lt_range.filter _

/-- The lowest mapped column from the pointer on (06, R127). -/
theorem pointed_above {s : State} {c : Nat} (lt : c < 96) (mapped : s.mappedBy c ≠ none)
    (from_ : s.audit.pointer ≤ c)
    (low : ∀ e < c, s.audit.pointer ≤ e → s.mappedBy e = none) : s.pointed = some c := by
  have found : s.mappedColumns.find? (fun c => s.audit.pointer ≤ c) = some c := by
    refine (find?_ascending_eq_some s.mappedColumns_ascending).mpr
      ⟨mem_mappedColumns.mpr ⟨lt, mapped⟩, by simpa using from_, fun e he below => ?_⟩
    rw [decide_eq_false_iff_not]
    exact fun above => (mem_mappedColumns.mp he).2 (low e below above)
  rw [pointed, found]
  rfl

theorem find?_pointer_none {s : State}
    (none : ∀ e < 96, s.audit.pointer ≤ e → s.mappedBy e = none) :
    s.mappedColumns.find? (fun c => s.audit.pointer ≤ c) = Option.none := by
  refine List.find?_eq_none.mpr fun e he above => ?_
  obtain ⟨lt, mapped⟩ := mem_mappedColumns.mp he
  exact mapped (none e lt (by simpa using above))

/-- The lowest mapped column, with none from the pointer on (06, R127). -/
theorem pointed_wrapped {s : State} {c : Nat} (lt : c < 96) (mapped : s.mappedBy c ≠ none)
    (below : ∀ e < 96, s.audit.pointer ≤ e → s.mappedBy e = none)
    (low : ∀ e < c, s.mappedBy e = none) : s.pointed = some c := by
  have first : s.mappedColumns.find? (fun _ => true) = some c :=
    (find?_ascending_eq_some s.mappedColumns_ascending).mpr
      ⟨mem_mappedColumns.mpr ⟨lt, mapped⟩, rfl, fun e he lt =>
        absurd (low e lt) (mem_mappedColumns.mp he).2⟩
  rw [pointed, find?_pointer_none below, Option.none_or, ← first]
  cases s.mappedColumns <;> rfl

theorem pointed_none {s : State} (none : ∀ c < 96, s.mappedBy c = none) : s.pointed = Option.none := by
  have empty : s.mappedColumns = [] :=
    List.eq_nil_iff_forall_not_mem.mpr fun c hc =>
      (mem_mappedColumns.mp hc).2 (none c (mem_mappedColumns.mp hc).1)
  rw [pointed, empty]
  rfl

/-! ### The tick -/

/-- The pointer's next value (06, R127). -/
theorem pointerAfter_eq (c : Nat) : pointerAfter c = if c < 95 then c + 1 else 0 := by
  have wrap : c + 1 < Config.columnCount ↔ c < 95 := Nat.succ_lt_succ_iff
  simp only [pointerAfter, wrap]

/-- The tick timer starts at an interval that depends on the parameters and the map alone
(06, R126). -/
theorem startTick_eq {s t : State} (p : t.params = s.params) (x : t.xpMap = s.xpMap) :
    t.startTick =
      { t with audit := { t.audit with tick := some s.tickInterval, interval := some s.tickInterval } } := by
  have interval : t.tickInterval = s.tickInterval := by
    rw [tickInterval, tickInterval, mappedCount, mappedCount, p, x]
  rw [startTick, interval]

theorem tickByState_pointed {s : State} {c : Nat} (h : s.audit.state = .idle)
    (p : s.pointed = some c) : s.tickByState = s.examine c := by
  simp only [tickByState, h, p]

theorem tickByState_unmapped {s : State} (h : s.audit.state = .idle) (p : s.pointed = none) :
    s.tickByState = s := by
  simp only [tickByState, h, p]

/-! ### The examination of the pointed column (06, R129) -/

theorem examine_seen {s : State} {c : Nat} (h : (s.col c).seen = true) :
    s.examine c = (s.setAudit c .fresh false).advance c := if_pos h

theorem examine_unverified {s : State} {c : Nat} (h : (s.col c).seen = false)
    (v : (s.col c).verification = .unverified) : s.examine c = s.advance c := by
  rw [examine, if_neg (by simp [h]), if_pos v]

theorem examine_closed {s : State} {c : Nat} (h : (s.col c).seen = false)
    (v : (s.col c).verification ≠ .unverified) (k : s.effective (s.zoneOf c) = .closed) :
    s.examine c =
      ((s.setAudit c .unverified false).notify (s.unverifiedNotice c .zoneClosed)).advance c := by
  rw [examine, if_neg (by simp [h]), if_neg v, if_pos k]

theorem examine_called {s : State} {c : Nat} (h : (s.col c).seen = false)
    (v : (s.col c).verification ≠ .unverified) (k : s.effective (s.zoneOf c) ≠ .closed) :
    s.examine c = s.makeCall c := by
  rw [examine, if_neg (by simp [h]), if_neg v, if_neg k]

theorem makeCall_eq (s : State) (c : Nat) :
    s.makeCall c =
      State.notify
        { s.setAudit c .due false with
          audit :=
            { s.audit with
              state := if (s.col c).op = none then .calling else .executing
              called := some c
              callLimit := some (s.params.callLimit * 1000)
              overdue := false } } (s.auditDueNotice c) := by
  unfold makeCall
  cases (s.col c).op <;> rfl

/-! ### The call limit -/

theorem callExpired_calling {s : State} {c : Nat} (h : s.audit.state = .calling) :
    s.callExpired c = (s.failCall c .callExpired).emit := by
  rw [callExpired, h]

theorem callExpired_executing {s : State} {c : Nat} (h : s.audit.state = .executing) :
    s.callExpired c =
      { s with audit := { s.audit with overdue := true, callLimit := none } } := by
  rw [callExpired, h]

end State

theorem exec_auditTick_early {s : State} (h : s.audit.tick ≠ some 0) : exec .auditTick s = .next s :=
  if_neg h

/-- What a tick that is due does: the unit acts by its state, and the timer starts again
(06, R126). -/
theorem exec_auditTick {s t : State} (due : s.audit.tick = some 0) (h : s.tickByState = t)
    (p : t.params = s.params) (x : t.xpMap = s.xpMap) :
    exec .auditTick s = .next
      { t with
        audit :=
          { t.audit with tick := some s.tickInterval, interval := some s.tickInterval } }.startTx := by
  rw [← State.startTick_eq p x, ← h]
  exact if_pos due

theorem exec_callLimitExpiry_early {s : State} (h : s.audit.callLimit ≠ some 0) :
    exec .callLimitExpiry s = .next s := if_neg h

theorem exec_callLimitExpiry {s : State} {c : Nat} (due : s.audit.callLimit = some 0)
    (h : s.audit.called = some c) :
    exec .callLimitExpiry s = .next (s.callExpired c).startTx := by
  change execCallLimitExpiry s = _
  rw [execCallLimitExpiry, if_pos due, h]
  rfl

/-- Settles O50, by the unit's state and the pointed column. -/
theorem auditTickWalksTheMappedColumns : Obligations.AuditTickWalksTheMappedColumns := by
  unfold Obligations.AuditTickWalksTheMappedColumns
  intro s mapped interval ticks after pointed passes
  have hafter : ∀ c, State.pointerAfter c = after c := State.pointerAfter_eq
  have ticked : ∀ {t : State}, s.audit.tick = some 0 → s.tickByState = t → t.params = s.params →
      t.xpMap = s.xpMap → ticks t := exec_auditTick
  refine ⟨exec_auditTick_early, fun due => ⟨fun arming => ticked due ?_ rfl rfl, fun busy =>
    ticked due ?_ rfl rfl, fun idle => ⟨fun none => ticked due ?_ rfl rfl, fun c here => ?_⟩⟩,
    exec_callLimitExpiry_early, fun c due called => ⟨fun calling => ?_, fun executing => ?_⟩⟩
  · rw [State.tickByState, arming]
  · rcases busy with busy | busy <;> rw [State.tickByState, busy]
  · exact State.tickByState_unmapped idle (State.pointed_none none)
  · have point : s.pointed = some c := by
      obtain ⟨lt, isMapped, ⟨above, low⟩ | ⟨none, low⟩⟩ := here
      · exact State.pointed_above lt isMapped above low
      · exact State.pointed_wrapped lt isMapped none low
    have examined := State.tickByState_pointed idle point
    simp only [passes, ← hafter]
    refine ⟨fun seen => ?_, fun unseen unverified => ?_, fun unseen judged closed => ?_,
      fun unseen judged isOpen => ?_⟩
    · exact ticked due (examined.trans (State.examine_seen seen)) rfl rfl
    · exact ticked due (examined.trans (State.examine_unverified unseen unverified)) rfl rfl
    · exact ticked due (examined.trans (State.examine_closed unseen judged closed)) rfl rfl
    · exact ticked due (examined.trans ((State.examine_called unseen judged isOpen).trans
        (s.makeCall_eq c))) rfl rfl
  · rw [exec_callLimitExpiry due called, State.callExpired_calling calling, ← hafter]
    rfl
  · rw [exec_callLimitExpiry due called, State.callExpired_executing executing]

end Sys2Proof.Machine
end

section
/-! PROOFS. Mode requests (08, R157 to R162), and the entering of WAITING and of CHANGING (R160,
R163). -/

namespace Sys2Proof.Machine

/-! ### The checks of MODE_REQUEST -/

theorem Mode.ofByte?_eq_none {b : Byte} : Mode.ofByte? b = none ↔ 3 < b.toNat := by
  simp only [Mode.ofByte?, ← BitVec.toNat_inj]
  grind

theorem Mode.ofByte?_eq_some {b : Byte} {m : Mode} (h : b.toNat = m.level) :
    Mode.ofByte? b = some m := by
  simp only [Mode.ofByte?, ← BitVec.toNat_inj, h]
  cases m <;> rfl

theorem targetsOf_none {b0 b1 b2 b3 : Byte} (h : ∃ b ∈ [b0, b1, b2, b3], 3 < b.toNat) :
    targetsOf ⟨b0, b1, b2, b3⟩ = none := by
  obtain ⟨b, hb, big⟩ := h
  have none := Mode.ofByte?_eq_none.mpr big
  unfold targetsOf
  simp only [List.mem_cons, List.not_mem_nil, or_false] at hb
  split
  next h0 h1 h2 h3 =>
    exfalso
    rcases hb with rfl | rfl | rfl | rfl <;> simp_all
  next => rfl

theorem targetsOf_some {b0 b1 b2 b3 : Byte} {q : Quad Mode} (h0 : b0.toNat = q.z0.level)
    (h1 : b1.toNat = q.z1.level) (h2 : b2.toNat = q.z2.level) (h3 : b3.toNat = q.z3.level) :
    targetsOf ⟨b0, b1, b2, b3⟩ = some q := by
  simp only [targetsOf, Mode.ofByte?_eq_some h0, Mode.ofByte?_eq_some h1, Mode.ofByte?_eq_some h2,
    Mode.ofByte?_eq_some h3]

section
variable {tag : Word16} {b : Quad Byte} {q : Quad Mode} {s : State}

theorem takeModeRequest_outOfRange (h : targetsOf b = none) :
    takeModeRequest tag b s = refuse s .outOfRange := by
  rw [takeModeRequest, h]

theorem takeModeRequest_hold (h : targetsOf b = some q)
    (k : s.zones.hold = true ∨ s.zones.holdPending = true) :
    takeModeRequest tag b s = refuse s .holdActive := by
  simp only [takeModeRequest, h]
  exact if_pos (by simpa using k)

theorem takeModeRequest_free (h : targetsOf b = some q) (k : s.zones.hold = false)
    (p : s.zones.holdPending = false) :
    takeModeRequest tag b s =
      if ∃ t, s.zones.trans = some t ∧ t.state = .changing then refuse s .modeBusy
      else modeAnswer tag q s := by
  have changing : s.zones.trans.map (·.state) = some .changing ↔
      ∃ t, s.zones.trans = some t ∧ t.state = .changing := Option.map_eq_some_iff
  simp only [takeModeRequest, h, k, p, Bool.or_self, Bool.false_eq_true, if_false]
  by_cases c : ∃ t, s.zones.trans = some t ∧ t.state = .changing
  · rw [if_pos c, if_pos (changing.mpr c)]
  · rw [if_neg c, if_neg (mt changing.mp c)]

end

/-! ### The classes of MODE_REQUEST -/

namespace State

theorem zonesWhere_isEmpty {p : Nat → Bool} :
    (Quad.zonesWhere p).isEmpty = true ↔ ∀ z < 4, p z = false := by
  rw [List.isEmpty_iff, List.eq_nil_iff_forall_not_mem]
  simp only [Quad.mem_zonesWhere, not_and, Bool.not_eq_true]

theorem tightenedBy_isEmpty {s : State} {q : Quad Mode} :
    (s.tightenedBy q).isEmpty = true ↔
      ∀ z < 4, decide ((s.zones.current.get z).level < (q.get z).level) = false :=
  zonesWhere_isEmpty

theorem loosenedBy_isEmpty {s : State} {q : Quad Mode} :
    (s.loosenedBy q).isEmpty = true ↔
      ∀ z < 4, decide ((q.get z).level < (s.zones.current.get z).level) = false :=
  zonesWhere_isEmpty

theorem not_isEmpty {p : Nat → Bool} (h : ∃ z < 4, p z = true) :
    (Quad.zonesWhere p).isEmpty = false := by
  obtain ⟨z, hz, pz⟩ := h
  rw [← Bool.not_eq_true, zonesWhere_isEmpty]
  intro none
  simp [none z hz] at pz

/-- With no zone tightened the loosening part is the whole request (08, R158). -/
theorem looseningPart_eq {s : State} {q : Quad Mode} (h : (s.tightenedBy q).isEmpty = true) :
    s.looseningPart q = q := by
  refine Quad.ext_get _ _ fun z hz => ?_
  rw [looseningPart, Quad.get_ofFn _ _ hz, Mode.stricter, tightenedBy_isEmpty.mp h z hz]
  rfl

end State

section
variable {tag : Word16} {q : Quad Mode} {s : State}

theorem modeAnswer_unchanged (t : (s.tightenedBy q).isEmpty = true)
    (l : (s.loosenedBy q).isEmpty = true) :
    modeAnswer tag q s = ⟨s.dropWaiting, .ok, .mode (s.dropWaiting.modeReply tag)⟩ := by
  simp only [modeAnswer, State.mixedRequest, State.modeRequested, t, l, if_true, Bool.not_true,
    Bool.false_and, Bool.false_eq_true, if_false]

theorem modeAnswer_loosening (t : (s.tightenedBy q).isEmpty = true)
    (l : (s.loosenedBy q).isEmpty = false) :
    modeAnswer tag q s =
      ⟨s.startLoosening tag q false, .ok, .mode ((s.startLoosening tag q false).modeReply tag)⟩ := by
  simp only [modeAnswer, State.mixedRequest, State.modeRequested, t, l, if_true, Bool.not_true,
    Bool.false_and, Bool.false_eq_true, if_false]

theorem modeAnswer_mixed (t : (s.tightenedBy q).isEmpty = false)
    (l : (s.loosenedBy q).isEmpty = false) :
    modeAnswer tag q s =
      ⟨s.startLoosening tag (s.looseningPart q) true, .partialOk,
        .modePartial ((s.startLoosening tag (s.looseningPart q) true).modeReply tag)
          (s.droppedBy q)⟩ := by
  simp only [modeAnswer, State.mixedRequest, State.modeRequested, t, l, Bool.not_false,
    Bool.and_self, Bool.false_eq_true, if_false, if_true]

theorem modeAnswer_tightening (t : (s.tightenedBy q).isEmpty = false)
    (l : (s.loosenedBy q).isEmpty = true) :
    modeAnswer tag q s =
      ⟨s.startTightening tag q, .ok, .mode ((s.startTightening tag q).modeReply tag)⟩ := by
  simp only [modeAnswer, State.mixedRequest, State.modeRequested, t, l, if_true, Bool.not_true,
    Bool.and_false, Bool.false_eq_true, if_false]

theorem takeModeCancel_idle (h : s.zones.trans = none) :
    takeModeCancel s = refuse s .wrongState := by
  rw [takeModeCancel, h]

theorem takeModeCancel_changing {t : Transition} (h : s.zones.trans = some t)
    (k : t.state = .changing) : takeModeCancel s = refuse s .modeBusy := by
  simp only [takeModeCancel, h, k, if_true]

theorem takeModeCancel_waiting {t : Transition} (h : s.zones.trans = some t)
    (k : t.state = .waiting) :
    takeModeCancel s = ⟨s.dropWaiting, .ok, .modeCancelled s.zones.current t.targets⟩ := by
  simp only [takeModeCancel, h, k, reduceCtorEq, if_false]

end

/-- Settles O51, by the first check that fails and by the class of the request. -/
theorem modeRequestIsActedOnByItsClass : Obligations.ModeRequestIsActedOnByItsClass := by
  unfold Obligations.ModeRequestIsActedOnByItsClass
  refine ⟨fun tag b0 b1 b2 b3 s running takes => ?_, fun tag s running takes => ?_⟩
  · intro body u answers changing
    have taken : ∀ {t : Answer}, takeModeRequest tag ⟨b0, b1, b2, b3⟩ u = t →
        exec (.modeRequest tag body) s = .next (t.made 22 tag) := fun e =>
      (hostRequest_running (d := Body.modeRequest body)
        (take := fun b : Quad Byte => takeModeRequest tag b) takes rfl running).trans
        (congrArg (fun t : Answer => Host.Outcome.next (t.made 22 tag)) e)
    refine ⟨fun big => taken (takeModeRequest_outOfRange (targetsOf_none big)),
      fun q h0 h1 h2 h3 => ?_⟩
    intro tight loose replaced reply
    have decodes := targetsOf_some h0 h1 h2 h3
    refine ⟨fun hold => taken (takeModeRequest_hold (s := u) decodes hold),
      fun hold pending busy => taken
        ((takeModeRequest_free (s := u) decodes hold pending).trans (if_pos busy)),
      fun hold pending idle => ?_⟩
    have free : takeModeRequest tag ⟨b0, b1, b2, b3⟩ u = modeAnswer tag q u :=
      (takeModeRequest_free (s := u) decodes hold pending).trans (if_neg idle)
    have loosened : ∀ t, (u.modZones fun z => { z with trans := t }).handOnLoosened u = replaced t :=
      fun t => State.handOnLoosened_eq _ u
    refine ⟨fun same => ?_, fun loosens => ?_, fun tightens keeps => ?_⟩
    · have answer := modeAnswer_unchanged (tag := tag) (s := u) (q := q)
        (State.tightenedBy_isEmpty.mpr fun z hz => (same z hz).1)
        (State.loosenedBy_isEmpty.mpr fun z hz => (same z hz).2)
      rw [State.dropWaiting, loosened] at answer
      exact taken (free.trans answer)
    · intro mixed targets t done
      have l : (u.loosenedBy q).isEmpty = false := State.not_isEmpty loosens
      have started : u.startLoosening tag (u.looseningPart q) mixed = done :=
        congrArg (fun w : State => w.enterChanging t) (loosened (some t))
      refine ⟨fun none => ?_, fun some => ?_⟩
      · have t : (u.tightenedBy q).isEmpty = true := by
          refine State.tightenedBy_isEmpty.mpr fun z hz => ?_
          have mem : z ∈ [0, 1, 2, 3] := by interval_cases z <;> simp
          have flat : tight z = false := (Bool.not_eq_true _).mp (List.any_eq_false.mp none z mem)
          exact flat
        rw [none, State.looseningPart_eq t] at started
        have answer := modeAnswer_loosening (tag := tag) (s := u) t l
        rw [started] at answer
        exact taken (free.trans answer)
      · have t : (u.tightenedBy q).isEmpty = false := by
          obtain ⟨z, hz, tz⟩ := List.any_eq_true.mp some
          refine State.not_isEmpty ⟨z, ?_, tz⟩
          simp only [List.mem_cons, List.not_mem_nil, or_false] at hz
          omega
        rw [some] at started
        have answer := modeAnswer_mixed (tag := tag) (s := u) t l
        rw [started] at answer
        exact taken (free.trans answer)
    · intro t done
      have started : u.startTightening tag q = done :=
        congrArg (fun w : State => w.enterWaiting t) (loosened (some t))
      have answer := modeAnswer_tightening (tag := tag) (s := u) (q := q)
        (State.not_isEmpty tightens) (State.loosenedBy_isEmpty.mpr keeps)
      rw [started] at answer
      exact taken (free.trans answer)
  · intro u answers
    have taken : ∀ {t : Answer}, takeModeCancel u = t →
        exec (.modeCancel tag []) s = .next (t.made 23 tag) := fun e =>
      (hostRequest_running (d := Body.nothing []) (take := fun _ : Unit => takeModeCancel) takes rfl
        running).trans (congrArg (fun t : Answer => Host.Outcome.next (t.made 23 tag)) e)
    refine ⟨fun none => taken (takeModeCancel_idle (s := u) none),
      fun t ht changing => taken (takeModeCancel_changing (s := u) ht changing),
      fun t ht waiting => ?_⟩
    have answer := takeModeCancel_waiting (s := u) ht waiting
    rw [State.dropWaiting, State.handOnLoosened_eq] at answer
    exact taken answer

end Sys2Proof.Machine
end

section
/-! PROOFS. The bytes of frames (10.2, R185, R186): a well-formed frame is received as its command,
and a byte with a stop-bit error fails its frame. -/

namespace Sys2Proof.Machine

/-! ### Fields -/

theorem be16_bytes (w : Word16) : be16 (w.extractLsb' 8 8) (w.extractLsb' 0 8) = w :=
  (BitVec.extractLsb'_append_extractLsb'_eq_extractLsb' rfl).trans BitVec.extractLsb'_eq_self

theorem be32_bytes (w : Word32) :
    be32 (w.extractLsb' 24 8) (w.extractLsb' 16 8) (w.extractLsb' 8 8) (w.extractLsb' 0 8) = w := by
  have top : w.extractLsb' 24 8 ++ w.extractLsb' 16 8 = w.extractLsb' 16 (8 + 8) :=
    BitVec.extractLsb'_append_extractLsb'_eq_extractLsb' rfl
  have three : w.extractLsb' 16 (8 + 8) ++ w.extractLsb' 8 8 = w.extractLsb' 8 (8 + 8 + 8) :=
    BitVec.extractLsb'_append_extractLsb'_eq_extractLsb' rfl
  unfold be32
  rw [top, three]
  exact (BitVec.extractLsb'_append_extractLsb'_eq_extractLsb' rfl).trans BitVec.extractLsb'_eq_self

theorem be48_bytes (w : Serial) :
    be48 (w.extractLsb' 40 8) (w.extractLsb' 32 8) (w.extractLsb' 24 8) (w.extractLsb' 16 8)
      (w.extractLsb' 8 8) (w.extractLsb' 0 8) = w := by
  have two : w.extractLsb' 40 8 ++ w.extractLsb' 32 8 = w.extractLsb' 32 (8 + 8) :=
    BitVec.extractLsb'_append_extractLsb'_eq_extractLsb' rfl
  have three : w.extractLsb' 32 (8 + 8) ++ w.extractLsb' 24 8 = w.extractLsb' 24 (8 + 8 + 8) :=
    BitVec.extractLsb'_append_extractLsb'_eq_extractLsb' rfl
  have four : w.extractLsb' 24 (8 + 8 + 8) ++ w.extractLsb' 16 8 =
      w.extractLsb' 16 (8 + 8 + 8 + 8) :=
    BitVec.extractLsb'_append_extractLsb'_eq_extractLsb' rfl
  have five : w.extractLsb' 16 (8 + 8 + 8 + 8) ++ w.extractLsb' 8 8 =
      w.extractLsb' 8 (8 + 8 + 8 + 8 + 8) :=
    BitVec.extractLsb'_append_extractLsb'_eq_extractLsb' rfl
  unfold be48
  rw [two, three, four, five]
  exact (BitVec.extractLsb'_append_extractLsb'_eq_extractLsb' rfl).trans BitVec.extractLsb'_eq_self

theorem byte_toNat {n : Nat} (h : n < 256) : (byte n).toNat = n := by
  simp [byte, Nat.mod_eq_of_lt h]

theorem be16_nat {n : Nat} (h : n < 65536) :
    (be16 ((BitVec.ofNat 16 n).extractLsb' 8 8) ((BitVec.ofNat 16 n).extractLsb' 0 8)).toNat = n := by
  rw [be16_bytes]
  simp [Nat.mod_eq_of_lt h]

theorem be32_nat {n : Nat} (h : n < 2 ^ 32) :
    (be32 ((BitVec.ofNat 32 n).extractLsb' 24 8) ((BitVec.ofNat 32 n).extractLsb' 16 8)
      ((BitVec.ofNat 32 n).extractLsb' 8 8) ((BitVec.ofNat 32 n).extractLsb' 0 8)).toNat = n := by
  rw [be32_bytes]
  simpa using Nat.mod_eq_of_lt h

@[simp] theorem map_value_ok (bs : List Byte) :
    (bs.map RxByte.ok).map RxByte.value = bs := by
  simp [Function.comp_def, RxByte.ok]

@[simp] theorem all_good_ok (bs : List Byte) :
    (bs.map RxByte.ok).all RxByte.good = true := by
  simp [RxByte.ok]

namespace FrontEnd

/-! ### A whole frame -/

/-- The control receiver judges a frame once its length field says that all of it is there. -/
theorem look_control {n : Nat} {sync high low : RxByte} {tail rest : List RxByte}
    (value : sync.value = 0xC3#8) (length : (be16 high.value low.value).toNat = n)
    (least : 3 ≤ n) (most : n ≤ 512) (whole : tail.length = n + 2) :
    look .control (sync :: high :: low :: (tail ++ rest)) =
      judgeControl n sync.good (high :: low :: tail) := by
  have inRange : ¬(n < 3 ∨ 512 < n) := by omega
  have there : ¬(high :: low :: (tail ++ rest)).length < n + 4 := by
    simp only [List.length_cons, List.length_append]
    omega
  have cut : (high :: low :: (tail ++ rest)).take (n + 4) = high :: low :: tail := by
    rw [List.take_succ_cons, List.take_succ_cons, ← whole, List.take_left]
  unfold look
  simp only [FrontEnd.sync, value, ne_eq, not_true_eq_false, if_false, length]
  rw [if_neg inRange, if_neg there, cut]

/-- The fleet receiver judges a frame once its length field says that all of it is there. -/
theorem look_fleet {n : Nat} {sync length : RxByte} {tail rest : List RxByte}
    (value : sync.value = 0x69#8) (isLength : length.value.toNat = n)
    (least : 2 ≤ n) (most : n ≤ 48) (whole : tail.length = n + 2) :
    look .fleet (sync :: length :: (tail ++ rest)) =
      judgeFleet n sync.good (length :: tail) := by
  have inRange : ¬(n < 2 ∨ 48 < n) := by omega
  have there : ¬(length :: (tail ++ rest)).length < n + 3 := by
    simp only [List.length_cons, List.length_append]
    omega
  have cut : (length :: (tail ++ rest)).take (n + 3) = length :: tail := by
    rw [List.take_succ_cons, ← whole, List.take_left]
  unfold look
  simp only [FrontEnd.sync, value, ne_eq, not_true_eq_false, if_false, isLength]
  rw [if_neg inRange, if_neg there, cut]

theorem judgeControl_stopBit {n : Nat} {good : Bool} {frame : List RxByte}
    (bad : (good && frame.all (·.good)) = false) :
    judgeControl n good frame = .discard (.controlFrameDiscard .badCrc) := by
  unfold judgeControl
  simp [bad]

theorem judgeFleet_stopBit {n : Nat} {good : Bool} {frame : List RxByte}
    (bad : (good && frame.all (·.good)) = false) :
    judgeFleet n good frame = .discard (.fleetFrameDiscard .badCrc) := by
  unfold judgeFleet
  simp [bad]

theorem judgeControl_wf {n : Nat} {high low kind t1 t0 : Byte} {body : List Byte}
    (tagged : be16 t1 t0 ≠ 0) (length : body.length + 3 = n) :
    judgeControl n true
        ((high :: low :: kind :: t1 :: t0 :: body ++
          bytes16 (Wire.crc (high :: low :: kind :: t1 :: t0 :: body))).map RxByte.ok) =
      .take (controlCommand kind (be16 t1 t0) body) (n + 5) := by
  have size : n + 2 = (high :: low :: kind :: t1 :: t0 :: body).length := by
    simp only [List.length_cons]
    omega
  unfold judgeControl
  simp only [map_value_ok, all_good_ok, size, List.take_left, List.drop_left]
  simpa using tagged

theorem judgeFleet_wf {n : Nat} {length addr kind : Byte} {body : List Byte}
    (isLength : body.length + 2 = n) :
    judgeFleet n true
        ((length :: addr :: kind :: body ++
          bytes16 (Wire.crc (length :: addr :: kind :: body))).map RxByte.ok) =
      .take (fleetCommand addr kind body) (n + 4) := by
  have size : n + 1 = (length :: addr :: kind :: body).length := by
    simp only [List.length_cons]
    omega
  unfold judgeFleet
  simp only [map_value_ok, all_good_ok, size, List.take_left, List.drop_left]
  simp

/-! ### The frames of 10.2 -/

theorem look_controlFrame {kind : Byte} {tag : Word16} {body : List Byte} (rest : List RxByte)
    (tagged : tag ≠ 0) (fits : body.length ≤ maxControlBody) :
    look .control ((Wire.controlFrame kind tag body).map RxByte.ok ++ rest) =
      .take (controlCommand kind tag body) (body.length + 8) := by
  have small : body.length + 3 < 65536 := by unfold maxControlBody at fits; omega
  have judge := judgeControl_wf
    (high := (BitVec.ofNat 16 (body.length + 3)).extractLsb' 8 8)
    (low := (BitVec.ofNat 16 (body.length + 3)).extractLsb' 0 8) (kind := kind)
    (t1 := tag.extractLsb' 8 8) (t0 := tag.extractLsb' 0 8) (body := body)
    ((be16_bytes tag).symm ▸ tagged) rfl
  rw [be16_bytes] at judge
  refine Eq.trans (look_control (n := body.length + 3) rfl (be16_nat small) (by omega) ?_ ?_) judge
  · unfold maxControlBody at fits; omega
  · simp [bytes16]

theorem look_fleetFrame {addr kind : Byte} {body : List Byte} (rest : List RxByte)
    (fits : body.length ≤ maxFleetBody) :
    look .fleet ((Wire.fleetFrame addr kind body).map RxByte.ok ++ rest) =
      .take (fleetCommand addr kind body) (body.length + 6) := by
  unfold maxFleetBody at fits
  refine Eq.trans
    (look_fleet (n := body.length + 2) rfl (byte_toNat (by omega)) (by omega) (by omega) ?_)
    (judgeFleet_wf rfl)
  simp [bytes16]

theorem not_all_good {sync : RxByte} {tail : List RxByte}
    (bad : ∃ b ∈ sync :: tail, b.good = false) : (sync.good && tail.all (·.good)) = false := by
  obtain ⟨b, mem, stop⟩ := bad
  rcases List.mem_cons.mp mem with rfl | mem
  · simp [stop]
  · exact Bool.and_eq_false_imp.mpr fun _ => List.all_eq_false.mpr ⟨b, mem, by simp [stop]⟩

theorem look_controlFrame_stopBit {kind : Byte} {tag : Word16} {body : List Byte}
    {frame : List RxByte} (rest : List RxByte) (fits : body.length ≤ maxControlBody)
    (values : frame.map (·.value) = Wire.controlFrame kind tag body)
    (bad : ∃ b ∈ frame, b.good = false) :
    look .control (frame ++ rest) = .discard (.controlFrameDiscard .badCrc) := by
  unfold maxControlBody at fits
  obtain ⟨sync, frame, rfl, isSync, values⟩ := List.map_eq_cons_iff.mp values
  obtain ⟨high, frame, rfl, isHigh, values⟩ := List.map_eq_cons_iff.mp values
  obtain ⟨low, tail, rfl, isLow, values⟩ := List.map_eq_cons_iff.mp values
  have length : (be16 high.value low.value).toNat = body.length + 3 := by
    rw [isHigh, isLow]
    exact be16_nat (by omega)
  have whole : tail.length = body.length + 3 + 2 := by
    have := congrArg List.length values
    simpa [bytes16] using this
  exact (look_control isSync length (by omega) (by omega) whole).trans
    (judgeControl_stopBit (not_all_good bad))

theorem look_fleetFrame_stopBit {addr kind : Byte} {body : List Byte} {frame : List RxByte}
    (rest : List RxByte) (fits : body.length ≤ maxFleetBody)
    (values : frame.map (·.value) = Wire.fleetFrame addr kind body)
    (bad : ∃ b ∈ frame, b.good = false) :
    look .fleet (frame ++ rest) = .discard (.fleetFrameDiscard .badCrc) := by
  unfold maxFleetBody at fits
  obtain ⟨sync, frame, rfl, isSync, values⟩ := List.map_eq_cons_iff.mp values
  obtain ⟨length, tail, rfl, isLength, values⟩ := List.map_eq_cons_iff.mp values
  have size : length.value.toNat = body.length + 2 := by
    rw [isLength]
    exact byte_toNat (by omega)
  have whole : tail.length = body.length + 2 + 2 := by
    have := congrArg List.length values
    simpa [bytes16] using this
  exact (look_fleet isSync size (by omega) (by omega) whole).trans
    (judgeFleet_stopBit (not_all_good bad))

/-! ### The kinds of 10.9 -/

theorem controlCommand_other {kind : Byte} (other : kind = 0 ∨ 25 < kind.toNat) (tag : Word16)
    (body : List Byte) : controlCommand kind tag body = .requestRejected kind tag body := by
  unfold controlCommand
  split
  case h_26 => rfl
  all_goals
    rename_i is
    rcases other with rfl | big
    · exact absurd is (by decide)
    · omega

theorem fleetCommand_other {kind : Byte} (other : kind = 0 ∨ 10 < kind.toNat) (addr : Byte)
    (body : List Byte) : fleetCommand addr kind body = .fleetUnknownKind addr kind := by
  unfold fleetCommand
  split
  case h_11 => rfl
  all_goals
    rename_i is
    rcases other with rfl | big
    · exact absurd is (by decide)
    · omega

end FrontEnd

end Sys2Proof.Machine
end

section
/-! PROOFS. The bodies of requests and robot frames (10, R187): each decodes to the fields it was
written from. O60 is settled here. -/

namespace Sys2Proof.Machine

namespace Body

/-! ### SET_PARAMETERS -/

theorem beNat_byte {n : Nat} (h : n < 256) : beNat [byte n] = n := by
  simp [beNat, byte_toNat h]

theorem beNat_nat16 {n : Nat} (h : n < 65536) : beNat (nat16 n) = n := by
  have := be16_nat h
  rw [be16_toNat] at this
  simpa [beNat, nat16, bytes16] using this

theorem be32_toNat (a b c d : Byte) :
    (be32 a b c d).toNat = ((a.toNat * 256 + b.toNat) * 256 + c.toNat) * 256 + d.toNat := by
  unfold be32
  rw [BitVec.toNat_append, BitVec.toNat_append, BitVec.toNat_append,
    ← Nat.shiftLeft_add_eq_or_of_lt d.isLt, ← Nat.shiftLeft_add_eq_or_of_lt c.isLt,
    ← Nat.shiftLeft_add_eq_or_of_lt b.isLt, Nat.shiftLeft_eq, Nat.shiftLeft_eq, Nat.shiftLeft_eq]

theorem beNat_nat32 {n : Nat} (h : n < 2 ^ 32) : beNat (nat32 n) = n := by
  have := be32_nat h
  rw [be32_toNat] at this
  simpa [beNat, nat32, bytes32] using this

/-- The bytes of one value, by the size of its field. -/
def encValue (w n : Nat) : List Byte :=
  if w = 1 then [byte n] else if w = 2 then nat16 n else nat32 n

theorem encKeepFields_none (w : Nat) (ws : List Nat) (vs : List (Option Nat)) :
    encKeepFields (w :: ws) (none :: vs) = 0 :: encKeepFields ws vs := rfl

theorem encKeepFields_some (w : Nat) (ws : List Nat) (n : Nat) (vs : List (Option Nat)) :
    encKeepFields (w :: ws) (some n :: vs) = 1 :: (encValue w n ++ encKeepFields ws vs) := rfl

theorem encValue_length {w : Nat} (size : w = 1 ∨ w = 2 ∨ w = 4) (n : Nat) :
    (encValue w n).length = w := by
  rcases size with rfl | rfl | rfl <;> rfl

theorem beNat_encValue {w n : Nat} (size : w = 1 ∨ w = 2 ∨ w = 4) (fits : n < 256 ^ w) :
    beNat (encValue w n) = n := by
  rcases size with rfl | rfl | rfl
  · exact beNat_byte (by simpa using fits)
  · exact beNat_nat16 (by simpa using fits)
  · exact beNat_nat32 (by simpa using fits)

theorem keepFields_encKeepFields : ∀ {ws : List Nat} {vs : List (Option Nat)},
    vs.length = ws.length → (∀ w ∈ ws, w = 1 ∨ w = 2 ∨ w = 4) →
    (∀ i n w : Nat, vs[i]? = some (some n) → ws[i]? = some w → n < 256 ^ w) →
    keepFields ws (encKeepFields ws vs) = .ok vs
  | [], [], _, _, _ => rfl
  | w :: ws, v :: vs, length, sizes, fits => by
    have rest : keepFields ws (encKeepFields ws vs) = .ok vs :=
      keepFields_encKeepFields (by simpa using length)
        (fun u mem => sizes u (List.mem_cons_of_mem _ mem))
        fun i n u isValue isSize => fits (i + 1) n u (by simpa using isValue) (by simpa using isSize)
    have size := sizes w List.mem_cons_self
    cases v with
    | none =>
      rw [encKeepFields_none]
      simp [keepFields, rest, Except.map]
    | some n =>
      have value := beNat_encValue size (fits 0 n w rfl rfl)
      rw [encKeepFields_some]
      have cut := List.take_left (l₁ := encValue w n) (l₂ := encKeepFields ws vs)
      have left := List.drop_left (l₁ := encValue w n) (l₂ := encKeepFields ws vs)
      rw [encValue_length size] at cut left
      have whole : w ≤ (encValue w n ++ encKeepFields ws vs).length := by
        rw [List.length_append, encValue_length size]
        omega
      simp only [keepFields, cut, left, whole, and_true, value, rest, Except.map]
      simp

/-! ### Enumerations -/

theorem Taker.ofByte_toByte {k : Taker} (h : ∀ a, k = .addr a → 0 < a ∧ a < 255) :
    Taker.ofByte k.toByte = k := by
  cases k with
  | none => rfl
  | any => rfl
  | addr a =>
    obtain ⟨low, high⟩ := h a rfl
    have isByte : (byte a).toNat = a := byte_toNat (by omega)
    have notNone : byte a ≠ 0 := fun e => by
      rw [e] at isByte
      simp at isByte
      omega
    have notAny : byte a ≠ 255 := fun e => by
      rw [e] at isByte
      simp at isByte
      omega
    rw [Taker.toByte, Taker.ofByte, if_neg notNone, if_neg notAny, isByte]

theorem Mode.ofByte?_level (m : Mode) : Mode.ofByte? (byte m.level) = some m := by
  cases m <;> rfl

theorem Cls.ofByte?_rank (k : Cls) : Cls.ofByte? (byte k.rank) = some k := by
  cases k <;> rfl

theorem FaultKind.ofByte?_ctorIdx (k : FaultKind) :
    FaultKind.ofByte? (byte k.ctorIdx) = some k := by
  cases k <;> rfl

/-! ### Selected and repeated fields -/

theorem robotRef_enc {q : RobotRef} (h : ∀ a, q = .address a → a < 256) (rest : List Byte) :
    robotRef (encRobotRef q ++ rest) = .ok (q, rest) := by
  cases q with
  | address a => simp [robotRef, encRobotRef, byte_toNat (h a rfl)]
  | serial w => simp [robotRef, encRobotRef, bytes48, be48_bytes]

theorem filterOrAll_enc (f : Option Byte) (rest : List Byte) :
    filterOrAll (encFilter f ++ rest) = .ok (f, rest) := by
  cases f <;> rfl

theorem tags_bytes (ts : List BinTag) : tags (ts.flatMap bytes32) = .ok ts := by
  induction ts with
  | nil => rfl
  | cons t ts ih =>
    simp only [List.flatMap_cons, bytes32, List.cons_append, List.nil_append, tags]
    rw [be32_bytes]
    exact congrArg (Except.map (t :: ·)) ih

theorem length_flatMap_bytes32 (ts : List BinTag) :
    (ts.flatMap bytes32).length = 4 * ts.length := by
  induction ts with
  | nil => rfl
  | cons t ts ih =>
    rw [List.flatMap_cons, List.length_append, ih]
    simp only [bytes32, List.length_cons, List.length_nil]
    omega

/-! ### The bodies -/

theorem defineColumn_enc {d : DefineColumn} (index : d.index < 256) (x : d.x < 256)
    (y : d.y < 256) (zone : d.zone < 256) (group : d.group < 256) (capacity : d.capacity < 256)
    (settle : d.settle.getD 0 < 2 ^ 32) : defineColumn (encDefineColumn d) = .ok d := by
  obtain ⟨i, x, y, z, g, k, t⟩ := d
  cases t with
  | none =>
    simp [encDefineColumn, defineColumn, byte_toNat index, byte_toNat x, byte_toNat y,
      byte_toNat zone, byte_toNat group, byte_toNat capacity]
  | some t =>
    simp only [encDefineColumn, nat32, bytes32, List.cons_append, List.nil_append, defineColumn,
      byte_toNat index, byte_toNat x, byte_toNat y, byte_toNat zone, byte_toNat group,
      byte_toNat capacity]
    rw [if_pos trivial, be32_nat (n := t) settle]

theorem mapXp_enc {x : Nat} {c : Option Nat} (hx : x < 256) (hc : c.getD 0 < 256) :
    mapXp (encMapXp x c) = .ok (x, c) := by
  cases c with
  | none => simp [encMapXp, mapXp, byte_toNat hx]
  | some c =>
    have isByte : (byte c).toNat = c := byte_toNat hc
    simp [encMapXp, mapXp, byte_toNat hx, isByte]

theorem robot_enc {q : RobotRef} (h : ∀ a, q = .address a → a < 256) :
    robot (encRobotRef q) = .ok q := by
  have e := robotRef_enc h []
  rw [List.append_nil] at e
  simp [robot, e]

theorem admission_enc {q : RobotRef} (h : ∀ a, q = .address a → a < 256) (k : Byte) :
    admission (encRobotRef q ++ [k]) = .ok (q, k) := by
  simp [admission, robotRef_enc h]

theorem openHandover_enc {q : OpenHandover} (giver : q.giver < 256)
    (taker : ∀ a, q.taker = .addr a → 0 < a ∧ a < 255) (xp : ∀ x, q.target = .xp x → x < 256)
    (zone : ∀ z, q.target = .zone z → z < 256) : openHandover (encOpenHandover q) = .ok q := by
  obtain ⟨tag, g, k, target⟩ := q
  have isTaker := Taker.ofByte_toByte taker
  dsimp only at isTaker
  cases target with
  | xp x =>
    simp [encOpenHandover, bytes32, openHandover, be32_bytes, byte_toNat giver, isTaker,
      byte_toNat (xp x rfl)]
  | zone z =>
    simp [encOpenHandover, bytes32, openHandover, be32_bytes, byte_toNat giver, isTaker,
      byte_toNat (zone z rfl)]

theorem number_enc {n : Nat} (h : n < 65536) : number (nat16 n) = .ok n :=
  congrArg Except.ok (be16_nat h)

theorem assignTaker_enc {n : Nat} {k : Taker} (h : n < 65536)
    (taker : ∀ a, k = .addr a → 0 < a ∧ a < 255) :
    assignTaker (encAssignTaker n k) = .ok (n, k) := by
  simp only [encAssignTaker, nat16, bytes16, List.cons_append, List.nil_append, assignTaker]
  rw [be16_nat h, Taker.ofByte_toByte taker]

theorem queryHandover_enc {q : HandoverRef} (h : ∀ n, q = .number n → n < 65536) :
    queryHandover (encHandoverRef q) = .ok q := by
  cases q with
  | number n => simp [encHandoverRef, nat16, bytes16, queryHandover, be16_nat (h n rfl)]
  | tag t => simp [encHandoverRef, bytes32, queryHandover, be32_bytes]

theorem listHandovers_enc {q : ListHandovers} (h : q.start < 65536) :
    listHandovers (encListHandovers q) = .ok q := by
  have start := be16_nat h
  simp only [encListHandovers, List.append_assoc, listHandovers, filterOrAll_enc, nat16, bytes16,
    start]

theorem reconcile_enc {c : Nat} {ts : List BinTag} (h : c < 256) (few : ts.length ≤ 4) :
    reconcile (encReconcile c ts) = .ok (c, ts) := by
  have count : (byte ts.length).toNat = ts.length := byte_toNat (by omega)
  simp only [encReconcile, reconcile, count, length_flatMap_bytes32, few, and_self, if_true,
    tags_bytes, byte_toNat h]
  rfl

theorem releaseFreeze_enc {q : FreezeTarget} (column : ∀ c, q = .column c → c < 256)
    (zone : ∀ z, q = .zone z → z < 256) : releaseFreeze (encReleaseFreeze q) = .ok q := by
  cases q with
  | column c => simp [encReleaseFreeze, releaseFreeze, byte_toNat (column c rfl)]
  | zone z => simp [encReleaseFreeze, releaseFreeze, byte_toNat (zone z rfl)]

theorem announce_enc {q : Announce} (gripper : q.gripper < 256) (level : q.level < 256) :
    announce (encAnnounce q) = .ok q := by
  simp [encAnnounce, announce, bytes48, bytes16, bytes32, be48_bytes, be16_bytes, be32_bytes,
    byte_toNat gripper, byte_toNat level]

theorem faultReport_enc {c : Nat} (h : c < 256) (k : FaultKind) :
    faultReport [byte c, byte k.ctorIdx] = .ok (c, k) := by
  simp only [faultReport, FaultKind.ofByte?_ctorIdx, byte_toNat h]

theorem opStart_enc {q : OpStart} (h : q.column < 256) : opStart (encOpStart q) = .ok q := by
  simp [encOpStart, opStart, bytes32, be32_bytes, byte_toNat h]

theorem opEnd_enc {q : OpEnd} (column : q.column < 256) (height : q.height < 256) :
    opEnd (encOpEnd q) = .ok q := by
  simp [encOpEnd, opEnd, bytes32, be32_bytes, byte_toNat column, byte_toNat height]

end Body

/-- Settles O60: a frame's whole length, its CRC and its kind are those it was written with, and each
body is read field by field. -/
theorem framesAndBodiesDecodeToTheirCommands :
    Obligations.FramesAndBodiesDecodeToTheirCommands := by
  unfold Obligations.FramesAndBodiesDecodeToTheirCommands
  refine ⟨fun kind tag body rest => FrontEnd.look_controlFrame rest,
    fun addr kind body rest => FrontEnd.look_fleetFrame rest,
    fun kind tag body frame rest => FrontEnd.look_controlFrame_stopBit rest,
    fun addr kind body frame rest => FrontEnd.look_fleetFrame_stopBit rest,
    fun tag body => ⟨rfl, fun kind other => FrontEnd.controlCommand_other other tag body⟩,
    fun addr body => ⟨rfl, fun kind other => FrontEnd.fleetCommand_other other addr body⟩,
    fun vs length fits => Body.keepFields_encKeepFields length (by decide) fits,
    fun d => Body.defineColumn_enc, fun x c => Body.mapXp_enc,
    fun q h => ⟨Body.robot_enc h, Body.admission_enc h⟩, fun q => Body.openHandover_enc,
    fun n k => Body.assignTaker_enc, fun q => Body.queryHandover_enc, fun n => Body.number_enc,
    fun q => Body.listHandovers_enc, fun c ts => Body.reconcile_enc,
    fun q => Body.releaseFreeze_enc, fun q => ⟨_, rfl, ?_⟩, fun q => Body.announce_enc, rfl,
    fun n h => congrArg Except.ok (byte_toNat h), fun c k h => Body.faultReport_enc h k,
    fun t => congrArg Except.ok (be32_bytes t),
    fun c k h => ⟨?_, Body.Cls.ofByte?_rank k⟩, fun q => Body.opStart_enc, fun q => Body.opEnd_enc⟩
  · exact ⟨Body.Mode.ofByte?_level _, Body.Mode.ofByte?_level _, Body.Mode.ofByte?_level _,
      Body.Mode.ofByte?_level _⟩
  · simp only [Body.encGrantReq, Body.grantReq, byte_toNat h]

end Sys2Proof.Machine
end

section
/-! PROOFS. What a transition does when it enters WAITING and CHANGING (08, R160, R163). O52 is
settled here. -/

namespace Sys2Proof.Machine

/-! ### Judging deadlines -/

/-- What judging does to a deadline (02, R43): a stopped one stays. -/
theorem Deadline.judge_eq (b : Bool) :
    Deadline.judge b = fun d =>
      if d.cond = .stopped then d else { d with cond := if b then .suspended else .running } := by
  funext d
  cases k : d.cond <;> simp [Deadline.judge, k]

theorem Deadline.judge_judge (b : Bool) (d : Deadline) : (d.judge b).judge b = d.judge b := by
  cases k : d.cond <;> cases b <;> simp [Deadline.judge, k]

namespace State

theorem judged_judged (s : State) (h : Handover) : s.judged (s.judged h) = s.judged h := by
  cases k : h.column <;> simp [judged, k, Function.comp_def, Deadline.judge_judge]

theorem judged_on {s : State} {h : Handover} {c : Nat} (k : h.column = some c) :
    s.judged h = { h with deadline := h.deadline.map (Deadline.judge (s.suspends c)) } := by
  unfold judged
  rw [k]

/-- A record is on a column of one of some zones. -/
def onZones (s : State) (zs : List Nat) (h : Handover) : Bool :=
  match h.column with
  | some c => zs.any fun z => (s.defn c).map (·.zone) == some z
  | none => false

theorem onZones_iff {s : State} {zs : List Nat} {h : Handover} :
    s.onZones zs h = true ↔ ∃ c d, h.column = some c ∧ s.defn c = some d ∧ d.zone ∈ zs := by
  unfold onZones
  cases h.column with
  | none => simp
  | some c => cases e : s.defn c <;> simp [e]

theorem onZones_judged (s : State) (zs : List Nat) (h : Handover) :
    s.onZones zs (s.judged h) = s.onZones zs h := by
  rw [s.judged_eq h]
  rfl

/-- The deadlines on the columns of some zones are judged again; nothing else changes. -/
theorem judgeZones_eq (zs : List Nat) (s : State) :
    zs.foldl judgeZone s = s.modHandovers (s.onZones zs) s.judged := by
  induction zs generalizing s with
  | nil =>
    have none : ∀ h, s.onZones [] h = false := fun h => by cases k : h.column <;> simp [onZones, k]
    simp [modHandovers, none]
  | cons z zs ih =>
    have split : ∀ h, s.onZones (z :: zs) h = (s.onZones [z] h || s.onZones zs h) := fun h => by
      cases k : h.column <;> simp [onZones, k]
    have first : s.judgeZone z = s.modHandovers (s.onZones [z]) s.judged := by
      unfold judgeZone
      congr 1
      funext h
      cases k : h.column <;> simp [onZones, k]
    rw [List.foldl_cons, ih, first]
    show { s with handovers := _ } = { s with handovers := _ }
    congr 1
    simp only [modHandovers, List.map_map]
    refine List.map_congr_left fun h _ => ?_
    show (if s.onZones zs _ then s.judged _ else _) = _
    cases a : s.onZones [z] h <;> cases b : s.onZones zs h <;>
      simp [split, a, b, onZones_judged, judged_judged]

theorem handover_judgeZones (zs : List Nat) (s : State) (n : Nat) :
    (zs.foldl judgeZone s).handover n =
      (s.handover n).map fun h => if s.onZones zs h then s.judged h else h := by
  rw [judgeZones_eq]
  exact s.handover_modHandovers _ _ n s.judged_number

end State

/-! ### Forbidden holders -/

namespace State

/-- Revokes leave a column they do not name as it is. -/
theorem revokes_col_of_not_mem (cause : RevokeCause) {c : Nat} :
    ∀ (l : List Nat) (s : State), c ∉ l → (l.foldl (fun u e => u.revoke e cause) s).col c = s.col c
  | [], _, _ => rfl
  | e :: l, s, h =>
    (revokes_col_of_not_mem cause l (s.revoke e cause) fun k => h (List.mem_cons_of_mem _ k)).trans
      (revoke_col_ne (fun k : c = e => h (List.mem_cons.mpr (.inl k))) cause)

/-- A pending revoke stays as it is (03, R66). -/
theorem revokes_col_of_pending (cause : RevokeCause) {c : Nat} {g : Grant} (pending : g.revoke ≠ none) :
    ∀ (l : List Nat) (s : State), (s.col c).grant = some g →
      (l.foldl (fun u e => u.revoke e cause) s).col c = s.col c
  | [], _, _ => rfl
  | e :: l, s, held => by
    have same : (s.revoke e cause).col c = s.col c := by
      by_cases he : c = e
      · subst he
        rw [revoke_pending cause held pending]
      · exact revoke_col_ne he cause
    rw [List.foldl_cons, revokes_col_of_pending cause pending l _ (same ▸ held), same]

theorem revoke_col_same {s : State} {c : Nat} {g : Grant} (cause : RevokeCause)
    (held : (s.col c).grant = some g) (free : g.revoke = none) :
    (s.revoke c cause).col c =
      { s.col c with
        grant := some { g with
          revoke := some cause
          holdLimit := none
          grace := if (s.col c).op = none then some (s.params.releaseGrace * 1000) else none } } := by
  have inTable : c < s.columns.length := s.lt_of_col_ne fun e => by
    rw [e] at held
    exact absurd held (by simp [Column.blank])
  rw [revoke_eq cause held free]
  exact s.col_modCol_same inTable _

/-- Revokes revoke each holder they name (03, R66). -/
theorem revokes_col_of_mem (cause : RevokeCause) {c : Nat} {g : Grant} (free : g.revoke = none)
    (l : List Nat) (s : State) (mem : c ∈ l) (held : (s.col c).grant = some g) :
    (l.foldl (fun u e => u.revoke e cause) s).col c =
      { s.col c with
        grant := some { g with
          revoke := some cause
          holdLimit := none
          grace := if (s.col c).op = none then some (s.params.releaseGrace * 1000) else none } } := by
  induction l generalizing s with
  | nil => exact absurd mem (by simp)
  | cons e l ih =>
    rw [List.foldl_cons]
    by_cases he : c = e
    · subst he
      have first := revoke_col_same cause held free
      have pending := revokes_col_of_pending cause (c := c) (by simp) l (s.revoke c cause)
        (congrArg Column.grant first)
      exact pending.trans first
    · have same : (s.revoke e cause).col c = s.col c := revoke_col_ne he cause
      have params : (s.revoke e cause).params = s.params :=
        (BlockFrame.revoke s e cause).toFrame.params
      have rest := ih (s.revoke e cause) ((List.mem_cons.mp mem).resolve_left he)
        ((congrArg Column.grant same).trans held)
      rw [rest, same, params]

theorem revokes_handovers (cause : RevokeCause) (l : List Nat) (s : State) :
    (l.foldl (fun u e => u.revoke e cause) s).handovers = s.handovers :=
  foldl_keeps (fun u => u.handovers = s.handovers) _ l s rfl fun u e _ h =>
    (u.revoke_handovers e cause).trans h

theorem revokes_zones (cause : RevokeCause) (l : List Nat) (s : State) :
    (l.foldl (fun u e => u.revoke e cause) s).zones = s.zones :=
  foldl_keeps (fun u => u.zones = s.zones) _ l s rfl fun u e _ h => (u.revoke_zones e cause).trans h

/-- The columns of a zone, ascending, whose holders a transition forbids (08, R160). -/
def holdersForbidden (s : State) (t : Transition) (z : Nat) : List Nat :=
  if s.tightens t z then s.forbiddenHolders z (t.targets.get z) else []

theorem tightens_iff {s : State} {t : Transition} {z : Nat} :
    s.tightens t z = true ↔ (s.zones.current.get z).level < (t.targets.get z).level :=
  decide_eq_true_iff

theorem mem_holdersForbidden {s : State} {t : Transition} {z c : Nat} :
    c ∈ s.holdersForbidden t z ↔
      c < 96 ∧ (s.defn c).map (·.zone) = some z ∧
        (s.zones.current.get z).level < (t.targets.get z).level ∧
        ∃ g, (s.col c).grant = some g ∧ modePermits (t.targets.get z) g.cls = false := by
  unfold holdersForbidden
  rw [← tightens_iff]
  split
  next tight =>
    rw [forbiddenHolders, List.mem_filter, columnsOf_eq, List.mem_filter, List.mem_range]
    cases (s.col c).grant <;> simp [tight, and_assoc]
  next slack => simp [slack]

theorem holdersForbidden_length (s : State) (t : Transition) (z : Nat) :
    (s.holdersForbidden t z).length = (List.range 96).countP fun c =>
      decide ((s.defn c).map (·.zone) = some z) &&
        decide ((s.zones.current.get z).level < (t.targets.get z).level) &&
        (match (s.col c).grant with
          | some g => !modePermits (t.targets.get z) g.cls
          | none => false) := by
  rw [List.countP_eq_length_filter]
  unfold holdersForbidden
  by_cases tight : (s.zones.current.get z).level < (t.targets.get z).level
  · rw [if_pos (tightens_iff.mpr tight), forbiddenHolders, columnsOf_eq, List.filter_filter]
    refine congrArg List.length (List.filter_congr fun c _ => ?_)
    have here : ((s.defn c).map (·.zone) == some z) = decide ((s.defn c).map (·.zone) = some z) :=
      Bool.eq_iff_iff.mpr (by simp)
    rewrite [decide_eq_true tight, Bool.and_true, here, Bool.and_comm]
    rfl
  · rw [if_neg (mt tightens_iff.mp tight)]
    simp [tight]

/-! ### WAITING -/

/-- The record of a transition that enters WAITING (08, R160). -/
def waitingRecord (s : State) (t : Transition) : Transition :=
  { t with
    state := .waiting
    forbidden := Quad.ofFn fun z => (s.holdersForbidden t z).length }

/-- The state whose forbidden holders are revoked (08, R160). -/
def revokeForbidden (s : State) (t : Transition) : State :=
  ([0, 1, 2, 3].flatMap (s.holdersForbidden t)).foldl (fun u c => u.revoke c .zoneMode)
    (s.modZones fun q => { q with trans := some (s.waitingRecord t) })

theorem enterWaiting_eq (s : State) (t : Transition) :
    s.enterWaiting t =
      (s.revokeForbidden t).checkWaiting (s.waitingRecord t) := rfl

theorem mem_forbidden {s : State} {t : Transition} {c : Nat} :
    c ∈ [0, 1, 2, 3].flatMap (s.holdersForbidden t) ↔ ∃ z < 4, c ∈ s.holdersForbidden t z := by
  have zones : ∀ z, z ∈ [0, 1, 2, 3] ↔ z < 4 := fun z => by
    simp only [List.mem_cons, List.not_mem_nil, or_false]
    omega
  simp only [List.mem_flatMap, zones]

theorem revokeForbidden_roster (s : State) (t : Transition) :
    (s.revokeForbidden t).roster = s.roster :=
  (BlockFrame.foldl (fun (u : State) c => u.revoke c .zoneMode)
    (fun u c => BlockFrame.revoke u c _) _ _).roster

/-! ### CHANGING -/

/-- The record of a NORMAL transition that enters CHANGING (08, R163). -/
def changingRecord (s : State) (t : Transition) : Transition :=
  { t with state := .changing, forbidden := Quad.same 0, limit := some s.params.interlockLimit }

/-- The zones a transition tightens to SERVICE or CLOSED (02, R43). -/
def suspendedZones (s : State) (t : Transition) : List Nat :=
  Quad.zonesWhere fun z => s.tightens t z && Mode.service.level ≤ (t.targets.get z).level

/-- The state in which a transition has begun to drive its targets (08, R163). -/
def driveTargets (s : State) (t : Transition) : State :=
  s.modZones fun q => { q with driven := t.targets, trans := some (s.changingRecord t) }

theorem enterChanging_eq (s : State) (t : Transition) :
    s.enterChanging t =
      ((s.suspendedZones t).foldl judgeZone (s.driveTargets t)).judgeEcho := rfl

theorem judgeZones_rest (zs : List Nat) (s : State) :
    { zs.foldl judgeZone s with handovers := s.handovers } = s := by
  rw [judgeZones_eq]
  rfl

theorem allEcho_iff {s : State} : s.allEcho = true ↔ s.zones.ack = s.zones.driven := by
  constructor
  · intro all
    simp only [allEcho, echoes, Bool.and_eq_true, beq_iff_eq] at all
    obtain ⟨⟨⟨z0, z1⟩, z2⟩, z3⟩ := all
    exact Quad.ext_get _ _ fun z hz => by interval_cases z <;> assumption
  · intro same
    simp [allEcho, echoes, same]

theorem judgeEcho_normal {s : State} {t : Transition} (trans : s.zones.trans = some t)
    (changing : t.state = .changing) (normal : t.kind = .normal) :
    s.judgeEcho = if s.zones.ack = s.zones.driven then s.succeed t else s := by
  unfold judgeEcho
  rw [trans]
  by_cases echo : s.zones.ack = s.zones.driven
  · simp [allEcho_iff.mpr echo, changing, normal, echo]
  · simp [mt allEcho_iff.mp echo, echo]

theorem mem_suspendedZones {s : State} {t : Transition} {z : Nat} :
    z ∈ s.suspendedZones t ↔
      z < 4 ∧ (s.zones.current.get z).level < (t.targets.get z).level ∧
        2 ≤ (t.targets.get z).level := by
  rw [suspendedZones, Quad.mem_zonesWhere, Bool.and_eq_true, tightens_iff, decide_eq_true_iff]
  rfl

/-- The tightening to SERVICE or CLOSED suspends the deadlines in its zones (02, R43). -/
theorem driveTargets_suspends {s : State} {t : Transition} {c : Nat} {d : Defn}
    (defn : s.defn c = some d) (zone : d.zone ∈ s.suspendedZones t) :
    (s.driveTargets t).suspends c = true := by
  obtain ⟨-, tight, closed⟩ := mem_suspendedZones.mp zone
  exact (suspends_iff (s := s.driveTargets t) defn).mpr (.inr (.inr (.inr
    ⟨_, rfl, rfl, .inr tight, (Mode.two_le_level _).mp closed⟩)))

end State

/-- Settles O52: the forbidden holders are revoked one by one and counted, and the deadlines in the
zones tightened to SERVICE or CLOSED are judged in the state that drives the targets. -/
theorem transitionsEnterWaitingAndChanging : Obligations.TransitionsEnterWaitingAndChanging := by
  unfold Obligations.TransitionsEnterWaitingAndChanging
  refine ⟨?_, ?_⟩
  · intro s t normal under tight forbidden
    have holder : ∀ c, (∃ z < 4, forbidden z c) ↔
        c ∈ [0, 1, 2, 3].flatMap (s.holdersForbidden t) := fun c =>
      (exists_congr fun z => and_congr_right fun _ => State.mem_holdersForbidden.symm).trans
        State.mem_forbidden.symm
    refine ⟨_, s.revokeForbidden t, s.enterWaiting_eq t, State.revokes_zones .., fun z hz => ?_,
      fun c z g hz forbids held free => ?_, fun c g held pending => ?_, fun c none => ?_,
      State.revokes_handovers .., s.revokeForbidden_roster t⟩
    · exact (Quad.get_ofFn _ z hz).trans (s.holdersForbidden_length t z)
    · exact State.revokes_col_of_mem .zoneMode free _ _ ((holder c).mp ⟨z, hz, forbids⟩) held
    · exact State.revokes_col_of_pending .zoneMode pending _ _ held
    · refine State.revokes_col_of_not_mem .zoneMode _ _ fun mem => ?_
      obtain ⟨z, hz, forbids⟩ := (holder c).mpr mem
      exact none z hz forbids
  · intro s t normal
    have rest := State.judgeZones_rest (s.suspendedZones t) (s.driveTargets t)
    have zones := congrArg State.zones rest
    have enters := State.judgeEcho_normal
      (s := (s.suspendedZones t).foldl State.judgeZone (s.driveTargets t)) (t := s.changingRecord t)
      (congrArg ZoneCtl.trans zones) rfl normal
    rw [congrArg ZoneCtl.ack zones, congrArg ZoneCtl.driven zones] at enters
    have columns := congrArg State.columns rest
    have roster := congrArg State.roster rest
    have link := congrArg State.link rest
    refine ⟨_, enters, zones, columns, roster, link, fun n h known => ?_⟩
    intro stops
    have judged := State.handover_judgeZones (s.suspendedZones t) (s.driveTargets t) n
    rw [show (s.driveTargets t).handover n = some h from known] at judged
    have stop : stops ↔ (s.driveTargets t).onZones (s.suspendedZones t) h = true := by
      rw [State.onZones_iff]
      exact exists_congr fun c => exists_congr fun d => and_congr_right fun _ =>
        and_congr_right fun _ => State.mem_suspendedZones.symm
    refine ⟨fun yes => ?_, fun no => ?_⟩
    · rw [judged, Option.map_some, if_pos (stop.mp yes)]
      obtain ⟨c, d, column, defn, zone⟩ := yes
      rw [State.judged_suspended column
        (State.driveTargets_suspends defn (State.mem_suspendedZones.mpr zone))]
    · rw [judged, Option.map_some, if_neg (mt stop.mpr no)]

end Sys2Proof.Machine
end

section
/-! PROOFS. Work that goes column by column and zone by zone: the frames it sends, the columns it
changes, the deadlines it suspends. -/

namespace Sys2Proof.Machine

/-! ### Folds -/

/-- What every step but one leaves alone is after all of them what that step makes of it. -/
theorem foldl_at {α γ : Type} {f : State → α → State} (inv : State → Prop) (obs : State → γ)
    {l : List α} {a : α} {s : State} (nodup : l.Nodup) (mem : a ∈ l) (start : inv s)
    (keeps : ∀ u b, b ∈ l → inv u → inv (f u b))
    (others : ∀ u b, b ∈ l → inv u → b ≠ a → obs (f u b) = obs u) :
    ∃ u, inv u ∧ obs u = obs s ∧ obs (l.foldl f s) = obs (f u a) := by
  obtain ⟨front, back, rfl⟩ := List.append_of_mem mem
  obtain ⟨-, right, apart⟩ := List.nodup_append.mp nodup
  have before := foldl_keeps (fun u => inv u ∧ obs u = obs s) f front s ⟨start, rfl⟩
    fun u b hb ⟨h, same⟩ =>
      ⟨keeps u b (List.mem_append_left _ hb) h,
        (others u b (List.mem_append_left _ hb) h (apart b hb a List.mem_cons_self)).trans same⟩
  obtain ⟨reached, same⟩ := before
  refine ⟨front.foldl f s, reached, same, ?_⟩
  rw [List.foldl_append, List.foldl_cons]
  have after := foldl_keeps (fun u => inv u ∧ obs u = obs (f (front.foldl f s) a)) f back
    (f (front.foldl f s) a) ⟨keeps _ a mem reached, rfl⟩ fun u b hb ⟨h, same⟩ => by
      have there := List.mem_append_right front (List.mem_cons_of_mem a hb)
      refine ⟨keeps u b there h, (others u b there h ?_).trans same⟩
      rintro rfl
      exact (List.nodup_cons.mp right).1 hb
  exact after.2

theorem foldl_untouched {α γ : Type} {f : State → α → State} (obs : State → γ) {l : List α}
    (others : ∀ u, ∀ b ∈ l, obs (f u b) = obs u) (s : State) : obs (l.foldl f s) = obs s :=
  foldl_keeps (fun u => obs u = obs s) f l s rfl fun u b hb h => (others u b hb).trans h

/-! ### Frames sent in a row -/

namespace State

/-- Frames are sent one after another. -/
def sendAll (s : State) (fs : List (Nat × FleetMsg)) : State :=
  fs.foldl (fun v f => v.send f.1 f.2) s

theorem sendAll_append (s : State) (fs gs : List (Nat × FleetMsg)) :
    s.sendAll (fs ++ gs) = (s.sendAll fs).sendAll gs :=
  List.foldl_append

/-- What frames do to the link depends on the link alone. -/
theorem sendAll_link_congr {s t : State} (fs : List (Nat × FleetMsg)) (h : s.link = t.link) :
    (s.sendAll fs).link = (t.sendAll fs).link := by
  induction fs generalizing s t with
  | nil => exact h
  | cons f fs ih => exact ih (by simp only [send, modLink, h])

theorem sendAll_rest (s : State) (fs : List (Nat × FleetMsg)) :
    { s.sendAll fs with link := s.link } = s := by
  refine foldl_keeps (fun u => { u with link := s.link } = s) _ fs s rfl fun u f _ h => ?_
  exact h

theorem sendAll_notices (s : State) (fs : List (Nat × FleetMsg)) :
    (s.sendAll fs).link.notices = s.link.notices :=
  foldl_untouched (fun u => u.link.notices) (fun u f _ => u.send_link_notices f.1 f.2) s

/-- The frames of steps, each of which sends what the state before all of them says. -/
theorem foldl_sends {α : Type} {f : State → α → State} {frames : State → α → List (Nat × FleetMsg)}
    (link : ∀ s a, (f s a).link = (s.sendAll (frames s a)).link)
    (stable : ∀ s a b, b ≠ a → frames (f s a) b = frames s b) :
    ∀ {l : List α}, l.Nodup → ∀ s : State,
      (l.foldl f s).link = (s.sendAll (l.flatMap (frames s))).link
  | [], _, _ => rfl
  | a :: l, nodup, s => by
    obtain ⟨fresh, nodup⟩ := List.nodup_cons.mp nodup
    have same : l.flatMap (frames (f s a)) = l.flatMap (frames s) :=
      List.flatMap_congr fun b hb => stable s a b fun e => fresh (e ▸ hb)
    rw [List.foldl_cons, foldl_sends link stable nodup, same, List.flatMap_cons, sendAll_append]
    exact sendAll_link_congr _ (link s a)

/-! ### What is beside columns, records and the link -/

/-- Nothing but columns, records and the link differs. -/
def Beside (s t : State) : Prop :=
  ∃ columns handovers link, t = { s with columns := columns, handovers := handovers, link := link }

theorem Beside.refl (s : State) : s.Beside s := ⟨_, _, _, rfl⟩

theorem Beside.trans {s t u : State} (h : s.Beside t) (k : t.Beside u) : s.Beside u := by
  obtain ⟨_, _, _, rfl⟩ := h
  obtain ⟨_, _, _, rfl⟩ := k
  exact ⟨_, _, _, rfl⟩

theorem Beside.foldl {α : Type} {f : State → α → State} (hf : ∀ (s : State) a, s.Beside (f s a)) (l : List α)
    (s : State) : s.Beside (l.foldl f s) :=
  foldl_keeps s.Beside f l s (.refl s) fun u a _ h => h.trans (hf u a)

theorem Beside.zones {s t : State} (h : s.Beside t) : t.zones = s.zones := by
  obtain ⟨_, _, _, rfl⟩ := h
  rfl

theorem Beside.params {s t : State} (h : s.Beside t) : t.params = s.params := by
  obtain ⟨_, _, _, rfl⟩ := h
  rfl

theorem Beside.rest {s t : State} (h : s.Beside t) :
    { t with columns := s.columns, handovers := s.handovers, link := s.link } = s := by
  obtain ⟨_, _, _, rfl⟩ := h
  rfl

theorem beside_modCol (s : State) (c : Nat) (f : Column → Column) : s.Beside (s.modCol c f) :=
  ⟨_, _, _, rfl⟩

theorem beside_modHandovers (s : State) (p : Handover → Bool) (f : Handover → Handover) :
    s.Beside (s.modHandovers p f) := ⟨_, _, _, rfl⟩

theorem beside_send (s : State) (a : Nat) (m : FleetMsg) : s.Beside (s.send a m) := ⟨_, _, _, rfl⟩

theorem beside_notify (s : State) (b : NoticeBody) : s.Beside (s.notify b) := ⟨_, _, _, rfl⟩

theorem beside_handOn (s : State) (c : Nat) : s.Beside (s.handOn c) := by
  unfold handOn
  split
  · exact .refl s
  · split
    · exact .refl s
    · exact ⟨_, _, _, rfl⟩

theorem beside_refuseWaits (s : State) (c : Nat) (r : Status) : s.Beside (s.refuseWaits c r) :=
  (s.beside_modCol c fun q => { q with waits := [] }).trans
    (Beside.foldl (fun u (w : WaitReq) => u.beside_send w.robot (.refused r (.column c))) _ _)

theorem beside_addZoneCause (s : State) (c : Nat) : s.Beside (s.addZoneCause c) := ⟨_, _, _, rfl⟩

theorem beside_closeZone (s : State) (z : Nat) : s.Beside (s.closeZone z) :=
  (Beside.foldl (fun u c => u.beside_refuseWaits c .zoneClosed) _ s).trans
    (Beside.foldl beside_addZoneCause _ _)

theorem beside_handOnZone (s : State) (z : Nat) : s.Beside (s.handOnZone z) :=
  Beside.foldl beside_handOn _ s

theorem beside_judgeZones (s : State) (zs : List Nat) : s.Beside (zs.foldl judgeZone s) :=
  Beside.foldl (fun _ _ => ⟨_, _, _, rfl⟩) zs s

/-! ### The columns of a zone -/

theorem columnsOf_congr {s t : State} (h : ∀ c, t.defn c = s.defn c) (z : Nat) :
    t.columnsOf z = s.columnsOf z := by
  rw [columnsOf_eq, columnsOf_eq]
  simp only [h]

theorem columnsOf_nodup (s : State) (z : Nat) : (s.columnsOf z).Nodup := by
  rw [columnsOf_eq]
  exact List.nodup_range.filter _

theorem mem_columnsOf_iff {s : State} {z c : Nat} :
    c ∈ s.columnsOf z ↔ c < 96 ∧ ∃ d, s.defn c = some d ∧ d.zone = z := by
  rw [columnsOf_eq, List.mem_filter, List.mem_range]
  cases s.defn c <;> simp

theorem zone_unique {s : State} {y z c : Nat} (hy : c ∈ s.columnsOf y) (hz : c ∈ s.columnsOf z) :
    y = z := by
  obtain ⟨-, d, hd, rfl⟩ := mem_columnsOf_iff.mp hy
  obtain ⟨-, e, he, rfl⟩ := mem_columnsOf_iff.mp hz
  rw [Option.some_inj.mp (hd.symm.trans he)]

theorem lt_of_mem_columnsOf {s : State} {z c : Nat} (h : c ∈ s.columnsOf z) :
    c < s.columns.length := by
  obtain ⟨-, d, hd, -⟩ := mem_columnsOf_iff.mp h
  exact s.lt_of_defn hd

theorem zonesWhere_nodup (p : Nat → Bool) : (Quad.zonesWhere p).Nodup :=
  List.Nodup.filter _ (by decide)

/-! ### Hand-on of many columns -/

/-- The frame a hand-on sends, if it makes a grant (03, R61). -/
def handOnFrames (s : State) (c : Nat) : List (Nat × FleetMsg) :=
  if (s.col c).grant = none then
    (((s.col c).waits.find? fun w => s.permitted c w.cls).map fun w =>
      (w.robot, FleetMsg.granted c w.cls s.holdMs)).toList
  else []

theorem handOn_link (s : State) (c : Nat) :
    (s.handOn c).link = (s.sendAll (s.handOnFrames c)).link := by
  unfold handOn handOnFrames
  cases held : (s.col c).grant with
  | some g => rfl
  | none =>
    simp only [Option.isSome_none, Bool.false_eq_true, if_false, if_true]
    cases first : takeFirst (fun w : WaitReq => s.permitted c w.cls) (s.col c).waits with
    | none =>
      have never := (takeFirst_eq_none _ _).mp first
      rw [List.find?_eq_none.mpr fun w hw => by simp [never w hw]]
      rfl
    | some p =>
      obtain ⟨w, rest⟩ := p
      obtain ⟨front, back, waits, -, permitted, below⟩ := takeFirst_eq_some _ _ _ _ first
      have found : ((s.col c).waits.find? fun w => s.permitted c w.cls) = some w :=
        List.find?_eq_some_iff_append.mpr ⟨permitted, front, back, waits, fun v hv => by
          simp [below v hv]⟩
      rw [found]
      rfl

theorem effective_congr {s t : State} (zones : t.zones = s.zones) (z : Nat) :
    t.effective z = s.effective z := by
  show ({ s with zones := t.zones } : State).effective z = s.effective z
  rw [zones]

theorem permitted_congr {s t : State} {c : Nat} (zones : t.zones = s.zones)
    (defn : t.defn c = s.defn c) (k : Cls) : t.permitted c k = s.permitted c k := by
  simp only [permitted, effective_congr zones, zoneOf, defn]

theorem handOn_defn (s : State) (c e : Nat) : (s.handOn c).defn e = s.defn e :=
  (BlockFrame.handOn s c).toFrame.defn e

theorem handOnFrames_congr {s t : State} {c : Nat} (beside : s.Beside t)
    (col : t.col c = s.col c) : t.handOnFrames c = s.handOnFrames c := by
  have defn : t.defn c = s.defn c := congrArg Column.defn col
  simp only [handOnFrames, col, permitted_congr beside.zones defn, holdMs, beside.params]

theorem handOnFrames_handOn (s : State) (c e : Nat) (h : e ≠ c) :
    (s.handOn c).handOnFrames e = s.handOnFrames e :=
  handOnFrames_congr (s.beside_handOn c) (handOn_col_ne h)

theorem handOnZone_link (s : State) (z : Nat) :
    (s.handOnZone z).link = (s.sendAll ((s.columnsOf z).flatMap s.handOnFrames)).link :=
  foldl_sends handOn_link handOnFrames_handOn (s.columnsOf_nodup z) s

theorem handOnZone_defn (s : State) (z c : Nat) : (s.handOnZone z).defn c = s.defn c :=
  (BlockFrame.handOnZone s z).toFrame.defn c

theorem handOnZone_col_of_not_mem {s : State} {z c : Nat} (h : c ∉ s.columnsOf z) :
    (s.handOnZone z).col c = s.col c :=
  foldl_untouched (fun u => u.col c) (fun _ _ he => handOn_col_ne fun k => h (k ▸ he)) s

theorem handOnZones_link (s : State) {zs : List Nat} (nodup : zs.Nodup) :
    (zs.foldl handOnZone s).link =
      (s.sendAll (zs.flatMap fun z => (s.columnsOf z).flatMap s.handOnFrames)).link := by
  refine foldl_sends (frames := fun s z => (s.columnsOf z).flatMap s.handOnFrames) handOnZone_link
    (fun s z y h => ?_) nodup s
  rw [columnsOf_congr (s.handOnZone_defn z)]
  refine List.flatMap_congr fun c hc => handOnFrames_congr (s.beside_handOnZone z) ?_
  exact handOnZone_col_of_not_mem fun k => h (zone_unique hc k)

theorem handOnZones_col_of_not_mem {s : State} {zs : List Nat} {c : Nat}
    (h : ∀ z ∈ zs, c ∉ s.columnsOf z) : (zs.foldl handOnZone s).col c = s.col c := by
  have both := foldl_keeps (fun u : State => (∀ e, u.defn e = s.defn e) ∧ u.col c = s.col c)
    handOnZone zs s ⟨fun _ => rfl, rfl⟩ fun u z hz ⟨defn, col⟩ =>
      ⟨fun _ => (u.handOnZone_defn z _).trans (defn _),
        (handOnZone_col_of_not_mem (by rw [columnsOf_congr defn]; exact h z hz)).trans col⟩
  exact both.2

/-- The state of a column after its hand-on depends on the column, the zones and the parameters. -/
theorem handOn_col_congr {s t : State} {c : Nat} (zones : t.zones = s.zones)
    (params : t.params = s.params) (col : t.col c = s.col c)
    (size : t.columns.length = s.columns.length) : (t.handOn c).col c = (s.handOn c).col c := by
  have permitted := permitted_congr zones (congrArg Column.defn col)
  have write : ∀ f, (t.modCol c f).col c = (s.modCol c f).col c := fun f => by
    by_cases h : c < s.columns.length
    · rw [col_modCol_same _ h, col_modCol_same _ (size ▸ h), col]
    · have out : ∀ u : State, u.columns.length = s.columns.length →
          (u.modCol c f).col c = Column.blank := fun u e =>
        col_of_length_le _ (by simp only [modCol_columns, updateAt_length]; omega)
      rw [out t size, out s rfl]
  unfold handOn
  rw [col]
  simp only [permitted]
  split
  · exact col
  · split
    · exact col
    · rw [makeGrant_eq, makeGrant_eq, modCol_modCol, modCol_modCol]
      simp only [modCol_params, params]
      exact write _

theorem handOnZones_col_of_mem {s : State} {zs : List Nat} {z c : Nat} (nodup : zs.Nodup)
    (hz : z ∈ zs) (hc : c ∈ s.columnsOf z) :
    (zs.foldl handOnZone s).col c = (s.handOn c).col c := by
  have apart : ∀ (u : State) (y : Nat), BlockFrame s u → y ≠ z → c ∉ u.columnsOf y :=
    fun u y frame h k => h (zone_unique (columnsOf_congr frame.toFrame.defn y ▸ k) hc)
  obtain ⟨u, ⟨beside, frame⟩, col, whole⟩ := foldl_at (fun u => s.Beside u ∧ BlockFrame s u)
    (fun u => u.col c) (f := handOnZone) nodup hz ⟨.refl s, .refl s⟩
    (fun u y _ ⟨b, f⟩ => ⟨b.trans (u.beside_handOnZone y), f.trans (.handOnZone u y)⟩)
    fun u y _ ⟨_, f⟩ h => handOnZone_col_of_not_mem (apart u y f h)
  have here : c ∈ u.columnsOf z := by
    rw [columnsOf_congr frame.toFrame.defn]
    exact hc
  obtain ⟨v, ⟨beside', frame'⟩, col', inZone⟩ := foldl_at (fun v => u.Beside v ∧ BlockFrame u v)
    (fun v => v.col c) (f := handOn) (u.columnsOf_nodup z) here ⟨.refl u, .refl u⟩
    (fun v e _ ⟨b, f⟩ => ⟨b.trans (v.beside_handOn e), f.trans (.handOn v e)⟩)
    fun v e _ _ h => handOn_col_ne h.symm
  have toU : (v.handOn c).col c = (u.handOn c).col c :=
    handOn_col_congr beside'.zones beside'.params col' frame'.toFrame.columns_length
  have toS : (u.handOn c).col c = (s.handOn c).col c :=
    handOn_col_congr beside.zones beside.params col frame.toFrame.columns_length
  exact whole.trans (inZone.trans (toU.trans toS))

end State

end Sys2Proof.Machine
end

section
/-! PROOFS. Columns that gain ZONE and zones that close (08, R165, R169). -/

namespace Sys2Proof.Machine

/-! ### Suspended deadlines -/

/-- A record whose deadline is SUSPENDED, unless it is stopped (02, R43). -/
def Handover.suspended (h : Handover) : Handover :=
  { h with deadline := h.deadline.map (Deadline.judge true) }

/-- A record is on a column of a list. -/
def Handover.onAny (h : Handover) (l : List Nat) : Bool := l.any fun c => h.column == some c

theorem Handover.onAny_iff {h : Handover} {l : List Nat} :
    h.onAny l = true ↔ ∃ c ∈ l, h.column = some c := by
  simp [Handover.onAny]

theorem Handover.suspended_number (h : Handover) : h.suspended.number = h.number := rfl

theorem Deadline.judge_of_judge (a b : Bool) (d : Deadline) : (d.judge a).judge b = d.judge b := by
  cases k : d.cond <;> cases a <;> cases b <;> simp [Deadline.judge, k]

/-! ### ZONE on a column -/

/-- A column with ZONE among its causes (07, R138). -/
def Column.zoned (k : Column) : Column := { k with causes := { k.causes with zone := true } }

/-- A column of a zone that has closed (08, R165). -/
def Column.closed (k : Column) : Column :=
  { k with waits := [], causes := { k.causes with zone := true } }

namespace State

theorem judged_suspended_again (s : State) (h : Handover) : s.judged h.suspended = s.judged h := by
  unfold judged Handover.suspended
  cases h.column <;> simp [Function.comp_def, Deadline.judge_of_judge]

theorem addZoneCause_col_same {s : State} {c : Nat} (h : c < s.columns.length) :
    (s.addZoneCause c).col c = (s.col c).zoned := s.col_modCol_same h _

theorem addZoneCause_col_ne {s : State} {c e : Nat} (h : e ≠ c) :
    (s.addZoneCause c).col e = s.col e := s.col_modCol_ne h _

theorem addZoneCause_columns_length (s : State) (c : Nat) :
    (s.addZoneCause c).columns.length = s.columns.length := updateAt_length _ _ _

theorem addZoneCause_handovers {s : State} {c : Nat} (h : c < s.columns.length) :
    (s.addZoneCause c).handovers =
      s.handovers.map fun h => if h.onAny [c] then h.suspended else h := by
  refine List.map_congr_left fun r _ => ?_
  have one : r.onAny [c] = (r.column == some c) := by simp [Handover.onAny]
  have frozen : (s.modCol c fun k => { k with causes := { k.causes with zone := true } }).suspends c
      = true := by
    refine suspends_of_frozen (frozen_iff.mpr ?_)
    rw [s.col_modCol_same h]
    simp
  rw [one]
  split
  next on =>
    rw [judged_on (by simpa using on), frozen]
    rfl
  next => rfl

theorem addZoneCauses_columns_length (l : List Nat) (s : State) :
    (l.foldl addZoneCause s).columns.length = s.columns.length :=
  foldl_untouched (fun u => u.columns.length) (fun u c _ => u.addZoneCause_columns_length c) s

theorem addZoneCauses_col {l : List Nat} {s : State} (inTable : ∀ c ∈ l, c < s.columns.length)
    (c : Nat) : (l.foldl addZoneCause s).col c = if c ∈ l then (s.col c).zoned else s.col c := by
  induction l generalizing s with
  | nil => rfl
  | cons e l ih =>
    have rest := ih (s := s.addZoneCause e) fun d hd => by
      rw [addZoneCause_columns_length]
      exact inTable d (List.mem_cons_of_mem _ hd)
    rw [List.foldl_cons, rest]
    by_cases h : c = e
    · subst h
      rw [addZoneCause_col_same (inTable c List.mem_cons_self), if_pos List.mem_cons_self]
      split <;> rfl
    · simp only [addZoneCause_col_ne h, List.mem_cons, h, false_or]

theorem suspended_both (h : Handover) (a b : List Nat) :
    (let k := if h.onAny a then h.suspended else h
      if k.onAny b then k.suspended else k) =
      if h.onAny (a ++ b) then h.suspended else h := by
  have any : h.onAny (a ++ b) = (h.onAny a || h.onAny b) := List.any_append
  have on : h.suspended.onAny b = h.onAny b := rfl
  have twice : h.suspended.suspended = h.suspended := by
    simp [Handover.suspended, Function.comp_def, Deadline.judge_judge]
  rw [any]
  cases x : h.onAny a <;> cases y : h.onAny b <;> simp [on, twice, y]

theorem addZoneCauses_handovers {l : List Nat} {s : State}
    (inTable : ∀ c ∈ l, c < s.columns.length) :
    (l.foldl addZoneCause s).handovers =
      s.handovers.map fun h => if h.onAny l then h.suspended else h := by
  induction l generalizing s with
  | nil => exact (List.map_id' _).symm
  | cons e l ih =>
    have rest := ih (s := s.addZoneCause e) fun d hd => by
      rw [addZoneCause_columns_length]
      exact inTable d (List.mem_cons_of_mem _ hd)
    rw [List.foldl_cons, rest, addZoneCause_handovers (inTable e List.mem_cons_self), List.map_map]
    exact List.map_congr_left fun h _ => suspended_both h [e] l

theorem addZoneCauses_rest (l : List Nat) (s : State) :
    { l.foldl addZoneCause s with columns := s.columns, handovers := s.handovers } = s :=
  foldl_untouched (f := addZoneCause)
    (fun u => { u with columns := s.columns, handovers := s.handovers }) (fun _ _ _ => rfl) s

theorem addZoneCauses_link (l : List Nat) (s : State) : (l.foldl addZoneCause s).link = s.link :=
  foldl_untouched (f := addZoneCause) (fun u => u.link) (fun _ _ _ => rfl) s

/-! ### The lists of a zone that closes -/

/-- The frames that refuse a wait list (03, R72). -/
def refusals (s : State) (r : Status) (c : Nat) : List (Nat × FleetMsg) :=
  (s.col c).waits.map fun w => (w.robot, .refused r (.column c))

theorem refuseWaits_eq (s : State) (c : Nat) (r : Status) :
    s.refuseWaits c r = (s.modCol c fun q => { q with waits := [] }).sendAll (s.refusals r c) :=
  (List.foldl_map (l := (s.col c).waits)
    (f := fun w : WaitReq => (w.robot, FleetMsg.refused r (.column c)))
    (g := fun (u : State) f => u.send f.1 f.2)).symm

theorem sendAll_col (s : State) (fs : List (Nat × FleetMsg)) (c : Nat) :
    (s.sendAll fs).col c = s.col c :=
  congrArg (fun u => u.col c) (s.sendAll_rest fs)

theorem refuseWaits_col_ne {s : State} {c e : Nat} (h : e ≠ c) (r : Status) :
    (s.refuseWaits c r).col e = s.col e := by
  rw [refuseWaits_eq, sendAll_col, s.col_modCol_ne h]

theorem refuseWaits_col_same {s : State} {c : Nat} (h : c < s.columns.length) (r : Status) :
    (s.refuseWaits c r).col c = { s.col c with waits := [] } := by
  rw [refuseWaits_eq, sendAll_col, s.col_modCol_same h]

theorem refuseWaits_columns_length (s : State) (c : Nat) (r : Status) :
    (s.refuseWaits c r).columns.length = s.columns.length :=
  (BlockFrame.refuseWaits s c r).toFrame.columns_length

theorem refuseWaits_handovers (s : State) (c : Nat) (r : Status) :
    (s.refuseWaits c r).handovers = s.handovers := by
  rw [refuseWaits_eq]
  exact congrArg (fun u => u.handovers)
    ((s.modCol c fun q => { q with waits := [] }).sendAll_rest (s.refusals r c))

theorem refuseWaits_link (s : State) (r : Status) (c : Nat) :
    (s.refuseWaits c r).link = (s.sendAll (s.refusals r c)).link := by
  rw [refuseWaits_eq]
  exact sendAll_link_congr _ rfl

/-- The wait lists of columns are emptied, their robots refused (03, R72). -/
def refuseAll (s : State) (r : Status) (l : List Nat) : State :=
  l.foldl (fun u c => u.refuseWaits c r) s

theorem refuseAll_frame (s : State) (r : Status) (l : List Nat) : BlockFrame s (s.refuseAll r l) :=
  BlockFrame.foldl (fun u c => u.refuseWaits c r) (fun u c => .refuseWaits u c r) l s

theorem refuseAll_col {l : List Nat} {s : State} (r : Status)
    (inTable : ∀ c ∈ l, c < s.columns.length) (c : Nat) :
    (s.refuseAll r l).col c = if c ∈ l then { s.col c with waits := [] } else s.col c := by
  induction l generalizing s with
  | nil => rfl
  | cons e l ih =>
    have rest := ih (s := s.refuseWaits e r) fun d hd => by
      rw [refuseWaits_columns_length]
      exact inTable d (List.mem_cons_of_mem _ hd)
    refine Eq.trans rest ?_
    by_cases h : c = e
    · subst h
      rw [refuseWaits_col_same (inTable c List.mem_cons_self), if_pos List.mem_cons_self]
      split <;> rfl
    · simp only [refuseWaits_col_ne h, List.mem_cons, h, false_or]

theorem refuseAll_handovers (s : State) (r : Status) (l : List Nat) :
    (s.refuseAll r l).handovers = s.handovers :=
  foldl_untouched (fun u => u.handovers) (fun u c _ => u.refuseWaits_handovers c r) s

theorem refuseAll_link {l : List Nat} (nodup : l.Nodup) (s : State) (r : Status) :
    (s.refuseAll r l).link = (s.sendAll (l.flatMap (s.refusals r))).link :=
  foldl_sends (frames := fun u c => u.refusals r c) (fun u c => u.refuseWaits_link r c)
    (fun u c e h => by simp only [refusals, refuseWaits_col_ne h]) nodup s

theorem closeZone_eq (s : State) (z : Nat) :
    s.closeZone z = (s.columnsOf z).foldl addZoneCause (s.refuseAll .zoneClosed (s.columnsOf z)) :=
  rfl

theorem closeZone_inTable (s : State) (z : Nat) :
    ∀ c ∈ s.columnsOf z, c < (s.refuseAll .zoneClosed (s.columnsOf z)).columns.length :=
  fun c hc => by
    rw [(s.refuseAll_frame _ _).toFrame.columns_length]
    exact lt_of_mem_columnsOf hc

theorem closeZone_defn (s : State) (z c : Nat) : (s.closeZone z).defn c = s.defn c :=
  (BlockFrame.closeZone s z).toFrame.defn c

theorem closeZone_col (s : State) (z c : Nat) :
    (s.closeZone z).col c = if c ∈ s.columnsOf z then (s.col c).closed else s.col c := by
  rw [closeZone_eq, addZoneCauses_col (s.closeZone_inTable z),
    refuseAll_col _ fun _ => lt_of_mem_columnsOf]
  split <;> rfl

theorem closeZone_handovers (s : State) (z : Nat) :
    (s.closeZone z).handovers =
      s.handovers.map fun h => if h.onAny (s.columnsOf z) then h.suspended else h := by
  rw [closeZone_eq, addZoneCauses_handovers (s.closeZone_inTable z), refuseAll_handovers]

theorem closeZone_link (s : State) (z : Nat) :
    (s.closeZone z).link =
      (s.sendAll ((s.columnsOf z).flatMap (s.refusals .zoneClosed))).link := by
  rw [closeZone_eq, addZoneCauses_link, refuseAll_link (s.columnsOf_nodup z)]

theorem closeZones_link {zs : List Nat} (nodup : zs.Nodup) (s : State) :
    (zs.foldl closeZone s).link =
      (s.sendAll (zs.flatMap fun z => (s.columnsOf z).flatMap (s.refusals .zoneClosed))).link := by
  refine foldl_sends (frames := fun s z => (s.columnsOf z).flatMap (s.refusals .zoneClosed))
    closeZone_link (fun s z y h => ?_) nodup s
  rw [columnsOf_congr (s.closeZone_defn z)]
  refine List.flatMap_congr fun c hc => ?_
  have other : (s.closeZone z).col c = s.col c := by
    rw [closeZone_col, if_neg fun k => h (zone_unique hc k)]
  simp only [refusals, other]

theorem closeZones_defn (zs : List Nat) (s : State) (c : Nat) :
    (zs.foldl closeZone s).defn c = s.defn c :=
  foldl_untouched (fun u => u.defn c) (fun u z _ => u.closeZone_defn z c) s

theorem closeZones_col (zs : List Nat) (s : State) (c : Nat) :
    (zs.foldl closeZone s).col c =
      if ∃ z ∈ zs, c ∈ s.columnsOf z then (s.col c).closed else s.col c := by
  induction zs generalizing s with
  | nil => simp
  | cons y zs ih =>
    rw [List.foldl_cons, ih, closeZone_col]
    simp only [columnsOf_congr (s.closeZone_defn y), List.mem_cons, exists_eq_or_imp]
    by_cases first : c ∈ s.columnsOf y
    · simp only [first, if_true, true_or]
      split <;> rfl
    · simp only [first, if_false, false_or]

theorem closeZones_handovers (zs : List Nat) (s : State) :
    (zs.foldl closeZone s).handovers =
      s.handovers.map fun h => if h.onAny (zs.flatMap s.columnsOf) then h.suspended else h := by
  induction zs generalizing s with
  | nil => exact (List.map_id' _).symm
  | cons y zs ih =>
    have same : (s.closeZone y).columnsOf = s.columnsOf :=
      funext fun z => columnsOf_congr (s.closeZone_defn y) z
    rw [List.foldl_cons, ih, closeZone_handovers, same, List.map_map, List.flatMap_cons]
    exact List.map_congr_left fun h _ => suspended_both h _ _

end State

end Sys2Proof.Machine
end

section
/-! PROOFS. How a transition ends (08, R156, R164, R166, R169). O53 is settled here. -/

namespace Sys2Proof

theorem Quad.set_get {α : Type} (q : Quad α) (z : Nat) : q.set z (q.get z) = q := by
  match z with
  | 0 | 1 | 2 | _ + 3 => rfl

end Sys2Proof

namespace Sys2Proof.Machine

theorem flatMap_filter {α β : Type} (p : α → Bool) (f : α → List β) (l : List α) :
    (l.filter p).flatMap f = l.flatMap fun a => if p a then f a else [] := by
  induction l with
  | nil => rfl
  | cons a l ih =>
    rw [List.flatMap_cons, ← ih, List.filter_cons]
    cases p a <;> simp

namespace State

/-! ### The echo -/

theorem ack_eq_driven_iff {s : State} :
    s.zones.ack = s.zones.driven ↔ ∀ z < 4, s.zones.ack.get z = s.zones.driven.get z :=
  ⟨fun h _ _ => by rw [h], fun h => Quad.ext_get _ _ h⟩

theorem judgeEcho_still {s : State}
    (h : ∀ t, s.zones.trans = some t → t.state = .changing → s.zones.ack ≠ s.zones.driven) :
    s.judgeEcho = s := by
  unfold judgeEcho
  cases trans : s.zones.trans with
  | none => rfl
  | some t =>
    refine if_neg fun both => ?_
    obtain ⟨changing, echo⟩ := Bool.and_eq_true_iff.mp both
    exact h t trans (by simpa using changing) (allEcho_iff.mp echo)

theorem judgeEcho_hold {s : State} {t : Transition} (trans : s.zones.trans = some t)
    (changing : t.state = .changing) (hold : t.kind = .hold) (echo : s.zones.ack = s.zones.driven) :
    s.judgeEcho = s.completeHold := by
  unfold judgeEcho
  rw [trans]
  simp [allEcho_iff.mpr echo, changing, hold]

/-! ### What a hand-on leaves -/

theorem handOn_causes (s : State) (c e : Nat) :
    ((s.handOn c).col e).causes = (s.col e).causes := by
  unfold handOn
  split
  · rfl
  · split
    · rfl
    · rw [makeGrant_eq, modCol_modCol]
      exact s.col_modCol_proj (·.causes) c e _ fun _ => rfl

theorem suspends_congr {s t : State} {c : Nat} (zones : t.zones = s.zones)
    (defn : t.defn c = s.defn c) (causes : (t.col c).causes = (s.col c).causes) :
    t.suspends c = s.suspends c := by
  have zone : t.zoneOf c = s.zoneOf c := congrArg (fun d => (d.map (·.zone)).getD 0) defn
  simp only [suspends, suspendConds, frozen, tightensFor, tightens, zones, zone, causes]

theorem handOnZones_handovers (zs : List Nat) (s : State) :
    (zs.foldl handOnZone s).handovers = s.handovers :=
  foldl_untouched (fun u => u.handovers)
    (fun u _ _ => foldl_untouched (fun u => u.handovers) (fun u c _ => u.handOn_handovers c) u) s

theorem handOnZones_causes (zs : List Nat) (s : State) (c : Nat) :
    ((zs.foldl handOnZone s).col c).causes = (s.col c).causes :=
  foldl_untouched (fun u => (u.col c).causes)
    (fun u _ _ => foldl_untouched (fun u => (u.col c).causes) (fun u e _ => u.handOn_causes e c) u) s

theorem handOnZones_frame (zs : List Nat) (s : State) : BlockFrame s (zs.foldl handOnZone s) :=
  BlockFrame.foldl handOnZone BlockFrame.handOnZone zs s

theorem handOnZones_suspends (zs : List Nat) (s : State) (c : Nat) :
    (zs.foldl handOnZone s).suspends c = s.suspends c :=
  suspends_congr (s.zones_foldl_handOnZone zs) ((handOnZones_frame zs s).toFrame.defn c)
    (handOnZones_causes zs s c)

theorem judgeZones_suspends (zs : List Nat) (s : State) (c : Nat) :
    (zs.foldl judgeZone s).suspends c = s.suspends c := by
  rw [judgeZones_eq]
  rfl

/-! ### The hold completes -/

/-- Every defined column gains ZONE (08, R169). -/
def holdCompleted (s : State) : State :=
  ((s.definedWhere fun _ _ => true).foldl addZoneCause
    (s.modZones fun q => { q with current := Quad.same .closed })).modZones fun q =>
      { q with trans := none }

theorem completeHold_eq (s : State) :
    s.completeHold = s.holdCompleted.notify (.modeChanged .hold s.zones.current (Quad.same .closed)
      ([0, 1, 2, 3].filter fun z => s.zones.current.get z != .closed) false) := rfl

theorem lt_of_mem_defined {s : State} {c : Nat} (h : c ∈ s.definedWhere fun _ _ => true) :
    c < s.columns.length := by
  obtain ⟨-, d, hd⟩ := mem_defined.mp h
  exact s.lt_of_defn hd

theorem holdCompleted_zones (s : State) :
    s.holdCompleted.zones = { s.zones with current := Quad.same .closed, trans := none } :=
  congrArg (fun q : ZoneCtl => { q with trans := none })
    (congrArg State.zones (addZoneCauses_rest (s.definedWhere fun _ _ => true)
      (s.modZones fun q => { q with current := Quad.same .closed })))

theorem holdCompleted_col (s : State) (c : Nat) :
    s.holdCompleted.col c = if c < 96 ∧ s.defn c ≠ none then (s.col c).zoned else s.col c := by
  have col := addZoneCauses_col (l := s.definedWhere fun _ _ => true)
    (s := s.modZones fun q => { q with current := Quad.same .closed })
    (fun _ => lt_of_mem_defined) c
  have defined : c ∈ s.definedWhere (fun _ _ => true) ↔ c < 96 ∧ s.defn c ≠ none :=
    mem_defined.trans (and_congr_right fun _ => Option.ne_none_iff_exists'.symm)
  refine col.trans ?_
  exact if_congr defined rfl rfl

theorem holdCompleted_handover {s : State} {n : Nat} {h : Handover} (known : s.handover n = some h) :
    s.holdCompleted.handover n =
      some (if h.onAny (s.definedWhere fun _ _ => true) then h.suspended else h) := by
  have all := addZoneCauses_handovers (l := s.definedWhere fun _ _ => true)
    (s := s.modZones fun q => { q with current := Quad.same .closed }) fun _ => lt_of_mem_defined
  have read := s.handover_modHandovers (fun h => h.onAny (s.definedWhere fun _ _ => true))
    Handover.suspended n Handover.suspended_number
  rw [known] at read
  refine Eq.trans ?_ read
  show List.find? _ _ = List.find? _ _
  exact congrArg _ all

theorem holdCompleted_rest (s : State) :
    { s.holdCompleted with columns := s.columns, handovers := s.handovers, zones := s.zones } = s := by
  have rest := addZoneCauses_rest (s.definedWhere fun _ _ => true)
    (s.modZones fun q => { q with current := Quad.same .closed })
  exact congrArg (fun u : State => { u with zones := s.zones }) rest

theorem suspended_eq (h : Handover) :
    h.suspended = { h with
      deadline := h.deadline.map fun e =>
        if e.cond = .stopped then e else { e with cond := .suspended } } := by
  unfold Handover.suspended
  rw [Deadline.judge_eq]
  rfl

/-! ### A transition fails -/

theorem handOnZones_eq (zs : List Nat) (s : State) :
    zs.foldl handOnZone s = (zs.flatMap s.columnsOf).foldl handOn s := by
  induction zs generalizing s with
  | nil => rfl
  | cons z zs ih =>
    have same : (s.handOnZone z).columnsOf = s.columnsOf :=
      funext fun y => columnsOf_congr (s.handOnZone_defn z) y
    rw [List.foldl_cons, ih, same, List.flatMap_cons, List.foldl_append]
    rfl

theorem handOn_withHandovers (s : State) (hs : List Handover) (c : Nat) :
    ({ s with handovers := hs } : State).handOn c = { s.handOn c with handovers := hs } := by
  unfold handOn
  by_cases held : (s.col c).grant.isSome = true
  · exact (if_pos held).trans (congrArg (fun u : State => { u with handovers := hs }) (if_pos held).symm)
  · refine (if_neg held).trans
      (Eq.trans ?_ (congrArg (fun u : State => { u with handovers := hs }) (if_neg held).symm))
    cases first : takeFirst (fun w => s.permitted c w.cls) (s.col c).waits with
    | none =>
      have other : takeFirst (fun w => ({ s with handovers := hs } : State).permitted c w.cls)
        (({ s with handovers := hs } : State).col c).waits = none := first
      rw [other]
    | some p =>
      have other : takeFirst (fun w => ({ s with handovers := hs } : State).permitted c w.cls)
        (({ s with handovers := hs } : State).col c).waits = some p := first
      rw [other]
      rfl

theorem handOns_withHandovers (l : List Nat) (s : State) (hs : List Handover) :
    l.foldl handOn { s with handovers := hs } = { l.foldl handOn s with handovers := hs } := by
  induction l generalizing s with
  | nil => rfl
  | cons c l ih => rw [List.foldl_cons, handOn_withHandovers, ih, List.foldl_cons]

end State

end Sys2Proof.Machine
end

section
/-! PROOFS. Success and failure of a NORMAL transition, zone by zone (08, R164, R166). O53 is settled
here. -/

namespace Sys2Proof.Machine

namespace State

/-! ### Success -/

/-- The zones a transition closes (08, R165). -/
def closingZones (s : State) (t : Transition) : List Nat :=
  Quad.zonesWhere fun z => t.targets.get z == .closed && s.zones.current.get z != .closed

/-- The zones whose mode a transition changes. -/
def changingZones (s : State) (t : Transition) : List Nat :=
  Quad.zonesWhere fun z => s.zones.current.get z != t.targets.get z

/-- The zones a transition loosens (03, R71). -/
def looseningZones (s : State) (t : Transition) : List Nat :=
  Quad.zonesWhere fun z => (s.zones.current.get z).stricter (t.targets.get z)

/-- The targets are the current modes and the newly CLOSED zones are closed (08, R164, R165). -/
def targetsReached (s : State) (t : Transition) : State :=
  ((s.closingZones t).foldl closeZone (s.modZones fun q => { q with current := t.targets })).modZones
    fun q => { q with trans := none }

/-- The state in which a NORMAL transition that succeeds makes its notice (08, R164). -/
def succeeded (s : State) (t : Transition) : State :=
  (s.looseningZones t).foldl handOnZone
    ((s.changingZones t).foldl judgeZone (s.targetsReached t))

theorem succeed_eq (s : State) (t : Transition) :
    s.succeed t = ((s.succeeded t).notify
      (.modeChanged t.requester s.zones.current t.targets (s.closingZones t) t.mixed)).afterNormal :=
  rfl

section
variable (s : State) (t : Transition)

theorem beside_closed :
    (s.modZones fun q => { q with current := t.targets }).Beside
      ((s.closingZones t).foldl closeZone (s.modZones fun q => { q with current := t.targets })) :=
  Beside.foldl beside_closeZone _ _

theorem targetsReached_zones :
    (s.targetsReached t).zones = { s.zones with current := t.targets, trans := none } :=
  congrArg (fun q : ZoneCtl => { q with trans := none }) (s.beside_closed t).zones

theorem targetsReached_rest :
    { s.targetsReached t with
      columns := s.columns, handovers := s.handovers, link := s.link, zones := s.zones } = s :=
  congrArg (fun u : State => { u with zones := s.zones }) (s.beside_closed t).rest

theorem beside_judged :
    (s.targetsReached t).Beside ((s.changingZones t).foldl judgeZone (s.targetsReached t)) :=
  beside_judgeZones _ _

theorem beside_succeeded : (s.targetsReached t).Beside (s.succeeded t) :=
  (s.beside_judged t).trans (Beside.foldl beside_handOnZone _ _)

theorem succeeded_zones :
    (s.succeeded t).zones = { s.zones with current := t.targets, trans := none } :=
  (s.beside_succeeded t).zones.trans (s.targetsReached_zones t)

theorem succeeded_rest :
    { s.succeeded t with
      columns := s.columns, handovers := s.handovers, link := s.link, zones := s.zones } = s :=
  (congrArg (fun u : State => { u with
    columns := s.columns, handovers := s.handovers, link := s.link, zones := s.zones })
    (s.beside_succeeded t).rest).trans (s.targetsReached_rest t)

theorem targetsReached_defn (c : Nat) : (s.targetsReached t).defn c = s.defn c :=
  closeZones_defn (s.closingZones t) (s.modZones fun q => { q with current := t.targets }) c

theorem targetsReached_col (c : Nat) :
    (s.targetsReached t).col c =
      if ∃ z ∈ s.closingZones t, c ∈ s.columnsOf z then (s.col c).closed else s.col c :=
  closeZones_col (s.closingZones t) (s.modZones fun q => { q with current := t.targets }) c

theorem judgedModes_col (c : Nat) :
    ((s.changingZones t).foldl judgeZone (s.targetsReached t)).col c = (s.targetsReached t).col c := by
  rw [judgeZones_eq]
  rfl

theorem judgedModes_defn (c : Nat) :
    ((s.changingZones t).foldl judgeZone (s.targetsReached t)).defn c = s.defn c :=
  (congrArg Column.defn (s.judgedModes_col t c)).trans (s.targetsReached_defn t c)

end

theorem mem_closingZones {s : State} {t : Transition} {z : Nat} :
    z ∈ s.closingZones t ↔
      z < 4 ∧ t.targets.get z = .closed ∧ s.zones.current.get z ≠ .closed := by
  rw [closingZones, Quad.mem_zonesWhere]
  simp

theorem mem_changingZones {s : State} {t : Transition} {z : Nat} :
    z ∈ s.changingZones t ↔ z < 4 ∧ t.targets.get z ≠ s.zones.current.get z := by
  rw [changingZones, Quad.mem_zonesWhere, bne_iff_ne, ne_comm]

theorem mem_looseningZones {s : State} {t : Transition} {z : Nat} :
    z ∈ s.looseningZones t ↔
      z < 4 ∧ (t.targets.get z).level < (s.zones.current.get z).level := by
  rw [looseningZones, Quad.mem_zonesWhere]
  exact and_congr_right fun _ => decide_eq_true_iff

/-- A zone that loosens does not close. -/
theorem not_closing_of_loosening {s : State} {t : Transition} {z : Nat}
    (h : z ∈ s.looseningZones t) : z ∉ s.closingZones t := fun k => by
  have loose := (mem_looseningZones.mp h).2
  rw [(mem_closingZones.mp k).2.1] at loose
  cases e : s.zones.current.get z <;> simp [e, Mode.level] at loose

theorem targetsReached_col_same {s : State} {t : Transition} {z c : Nat}
    (zone : c ∈ s.columnsOf z) (h : z ∉ s.closingZones t) :
    (s.targetsReached t).col c = s.col c := by
  rw [targetsReached_col, if_neg]
  rintro ⟨y, hy, hc⟩
  exact h (zone_unique zone hc ▸ hy)

/-- The effective mode of a zone after the transition (03, R58). -/
def reachedMode (s : State) (t : Transition) (z : Nat) : Mode :=
  if s.zones.hold then .closed else t.targets.get z

theorem targetsReached_permitted {s : State} {t : Transition} {c : Nat} {d : Defn}
    (defn : s.defn c = some d) (k : Cls) :
    (s.targetsReached t).permitted c k = modePermits (s.reachedMode t d.zone) k := by
  have zone : (s.targetsReached t).zoneOf c = d.zone :=
    zoneOf_defined ((s.targetsReached_defn t c).trans defn)
  rw [permitted, zone, effective, targetsReached_zones]
  rfl

theorem judgedModes_permitted {s : State} {t : Transition} {c : Nat} {d : Defn}
    (defn : s.defn c = some d) (k : Cls) :
    ((s.changingZones t).foldl judgeZone (s.targetsReached t)).permitted c k =
      modePermits (s.reachedMode t d.zone) k := by
  rw [permitted_congr (s.beside_judged t).zones
    (congrArg Column.defn (s.judgedModes_col t c)), targetsReached_permitted defn]

/-! #### The frames of a success -/

/-- The frames that refuse the requests in the zones that close (08, R165). -/
def closureFrames (s : State) (t : Transition) : List (Nat × FleetMsg) :=
  (s.closingZones t).flatMap fun z => (s.columnsOf z).flatMap (s.refusals .zoneClosed)

/-- The frame a column without a holder gets in a zone that loosens (03, R61, R71). -/
def grantIn (s : State) (m : Mode) (c : Nat) : Option (Nat × FleetMsg) :=
  if (s.col c).grant = none then
    ((s.col c).waits.find? fun w => modePermits m w.cls).map fun w =>
      (w.robot, .granted c w.cls (s.params.holdLimit * 1000))
  else none

/-- The frames of the hand-ons in the zones that loosen (03, R71). -/
def looseningFrames (s : State) (t : Transition) : List (Nat × FleetMsg) :=
  (s.looseningZones t).flatMap fun z => (s.columnsOf z).filterMap (s.grantIn (s.reachedMode t z))

theorem targetsReached_params (s : State) (t : Transition) : (s.targetsReached t).params = s.params :=
  (congrArg State.params (s.targetsReached_rest t) :)

theorem judgedModes_handOnFrames {s : State} {t : Transition} {z c : Nat}
    (loose : z ∈ s.looseningZones t) (zone : c ∈ s.columnsOf z) :
    ((s.changingZones t).foldl judgeZone (s.targetsReached t)).handOnFrames c =
      (s.grantIn (s.reachedMode t z) c).toList := by
  obtain ⟨-, d, defn, rfl⟩ := mem_columnsOf_iff.mp zone
  have col : ((s.changingZones t).foldl judgeZone (s.targetsReached t)).col c = s.col c :=
    (s.judgedModes_col t c).trans (targetsReached_col_same zone (not_closing_of_loosening loose))
  have params : ((s.changingZones t).foldl judgeZone (s.targetsReached t)).params = s.params :=
    (s.beside_judged t).params.trans (s.targetsReached_params t)
  simp only [handOnFrames, grantIn, col, judgedModes_permitted defn, holdMs, params]
  split <;> rfl

theorem judgedModes_link (s : State) (t : Transition) :
    ((s.changingZones t).foldl judgeZone (s.targetsReached t)).link =
      (s.sendAll (s.closureFrames t)).link := by
  rw [judgeZones_eq]
  refine Eq.trans (closeZones_link (zonesWhere_nodup _)
    (s.modZones fun q => { q with current := t.targets })) ?_
  exact sendAll_link_congr _ rfl

theorem succeeded_link (s : State) (t : Transition) :
    (s.succeeded t).link = (s.sendAll (s.closureFrames t ++ s.looseningFrames t)).link := by
  have frames : ((s.looseningZones t).flatMap fun z =>
      (((s.changingZones t).foldl judgeZone (s.targetsReached t)).columnsOf z).flatMap
        ((s.changingZones t).foldl judgeZone (s.targetsReached t)).handOnFrames) =
      s.looseningFrames t := by
    refine List.flatMap_congr fun z hz => ?_
    rw [columnsOf_congr (s.judgedModes_defn t), List.filterMap_eq_flatMap_toList]
    exact List.flatMap_congr fun c hc => judgedModes_handOnFrames hz hc
  have nodup : (s.looseningZones t).Nodup := zonesWhere_nodup _
  rw [succeeded, handOnZones_link _ nodup, frames, sendAll_append]
  exact sendAll_link_congr _ (s.judgedModes_link t)

/-! #### The columns of a success -/

theorem succeeded_col_of_not_loosening {s : State} {t : Transition} {c : Nat} {d : Defn}
    (defn : s.defn c = some d) (h : d.zone ∉ s.looseningZones t) :
    (s.succeeded t).col c = (s.targetsReached t).col c := by
  refine (handOnZones_col_of_not_mem fun z hz hc => h ?_).trans (s.judgedModes_col t c)
  rw [columnsOf_congr (s.judgedModes_defn t)] at hc
  obtain ⟨-, e, he, rfl⟩ := mem_columnsOf_iff.mp hc
  rwa [Option.some_inj.mp (defn.symm.trans he)]

theorem succeeded_col_of_loosening {s : State} {t : Transition} {z c : Nat}
    (loose : z ∈ s.looseningZones t) (zone : c ∈ s.columnsOf z) :
    (s.succeeded t).col c =
      (((s.changingZones t).foldl judgeZone (s.targetsReached t)).handOn c).col c := by
  refine handOnZones_col_of_mem (zonesWhere_nodup _) loose ?_
  rw [columnsOf_congr (s.judgedModes_defn t)]
  exact zone

/-- The column of a zone that loosens goes to its first permitted request (03, R61, R71). -/
theorem handOn_col_first {u : State} {c : Nat} {front rest : List WaitReq} {w : WaitReq}
    (free : (u.col c).grant = none) (waits : (u.col c).waits = front ++ w :: rest)
    (below : ∀ v ∈ front, u.permitted c v.cls = false) (permitted : u.permitted c w.cls = true) :
    (u.handOn c).col c =
      { u.col c with
        waits := front ++ rest
        grant := some ⟨w.robot, w.cls, some (u.params.holdLimit * 1000), none, none⟩ } := by
  have inTable : c < u.columns.length := u.lt_of_col_ne fun e => by
    rw [e] at waits
    exact absurd waits (by simp [Column.blank])
  rw [handOn_first free waits below permitted, makeGrant_eq, modCol_modCol]
  exact u.col_modCol_same inTable _

/-! #### The records of a success -/

theorem handover_congr {s t : State} (h : t.handovers = s.handovers) (n : Nat) :
    t.handover n = s.handover n := by
  simp only [handover, h]

theorem succeeded_suspends (s : State) (t : Transition) (c : Nat) :
    (s.succeeded t).suspends c = (s.targetsReached t).suspends c :=
  (handOnZones_suspends _ _ c).trans (judgeZones_suspends _ _ c)

theorem targetsReached_handover {s : State} {t : Transition} {n : Nat} {h : Handover}
    (known : s.handover n = some h) :
    (s.targetsReached t).handover n =
      some (if h.onAny ((s.closingZones t).flatMap s.columnsOf) then h.suspended else h) := by
  have all := closeZones_handovers (s.closingZones t)
    (s.modZones fun q => { q with current := t.targets })
  have read := s.handover_modHandovers (fun h => h.onAny ((s.closingZones t).flatMap s.columnsOf))
    Handover.suspended n Handover.suspended_number
  rw [known] at read
  refine Eq.trans (handover_congr (s := s.modHandovers _ _) ?_ n) read
  exact all

theorem succeeded_handover {s : State} {t : Transition} {n : Nat} {h : Handover}
    (known : s.handover n = some h) :
    (s.succeeded t).handover n =
      some (if s.onZones (s.changingZones t) h then (s.targetsReached t).judged h else h) := by
  have same : (s.succeeded t).handover n =
      ((s.changingZones t).foldl judgeZone (s.targetsReached t)).handover n :=
    handover_congr (handOnZones_handovers _ _) n
  have zones : ∀ k : Handover, (s.targetsReached t).onZones (s.changingZones t) k =
      s.onZones (s.changingZones t) k := fun k => by
    unfold onZones
    simp only [targetsReached_defn]
  rw [same, handover_judgeZones, targetsReached_handover known, Option.map_some, zones]
  refine congrArg some ?_
  by_cases closes : h.onAny ((s.closingZones t).flatMap s.columnsOf) = true
  · have changes : s.onZones (s.changingZones t) h = true := by
      obtain ⟨c, hc, column⟩ := Handover.onAny_iff.mp closes
      obtain ⟨z, hz, zone⟩ := List.mem_flatMap.mp hc
      obtain ⟨-, d, defn, rfl⟩ := mem_columnsOf_iff.mp zone
      obtain ⟨lt, target, current⟩ := mem_closingZones.mp hz
      exact onZones_iff.mpr ⟨c, d, column, defn,
        mem_changingZones.mpr ⟨lt, fun e => current (e.symm.trans target)⟩⟩
    have there : s.onZones (s.changingZones t) h.suspended = true := changes
    rw [if_pos closes, if_pos there, if_pos changes, judged_suspended_again]
  · rw [if_neg closes]

/-! ### Failure -/

/-- The driven modes are the current ones again (08, R166). -/
def drivenBack (s : State) : State := s.modZones fun q => { q with driven := q.current, trans := none }

/-- The state in which a NORMAL transition that fails makes its notice (08, R166). -/
def failed (s : State) (t : Transition) : State :=
  (s.tightenedZones t).foldl handOnZone ((s.tightenedZones t).foldl judgeZone s.drivenBack)

theorem failTransition_eq (s : State) (t : Transition) :
    s.failTransition t = ((s.failed t).notify
      (.modeFailed t.requester t.mixed t.targets s.zones.ack s.zones.current)).afterNormal := rfl

theorem mem_tightenedZones {s : State} {t : Transition} {z : Nat} :
    z ∈ s.tightenedZones t ↔
      z < 4 ∧ (s.zones.current.get z).level < (t.targets.get z).level := by
  rw [tightenedZones, Quad.mem_zonesWhere, tightens_iff]

/-- A failed transition hands its tightened zones on; judging the deadlines takes no part in it. -/
theorem failed_eq (s : State) (t : Transition) :
    s.failed t =
      { (s.tightenedZones t).foldl handOnZone s.drivenBack with
        handovers := ((s.tightenedZones t).foldl judgeZone s.drivenBack).handovers } := by
  have judged : (s.tightenedZones t).foldl judgeZone s.drivenBack =
      { s.drivenBack with
        handovers := ((s.tightenedZones t).foldl judgeZone s.drivenBack).handovers } := by
    rw [judgeZones_eq]
    rfl
  rw [failed, handOnZones_eq, handOnZones_eq]
  conv_lhs => rw [judged]
  exact handOns_withHandovers _ s.drivenBack _

theorem failed_zones (s : State) (t : Transition) :
    (s.failed t).zones = { s.zones with driven := s.zones.current, trans := none } := by
  rw [failed_eq]
  exact s.drivenBack.zones_foldl_handOnZone (s.tightenedZones t)

theorem failed_suspends (s : State) (t : Transition) (c : Nat) :
    (s.failed t).suspends c = s.drivenBack.suspends c :=
  (handOnZones_suspends _ _ c).trans (judgeZones_suspends _ _ c)

theorem failed_handover {s : State} {t : Transition} {n : Nat} {h : Handover}
    (known : s.handover n = some h) :
    (s.failed t).handover n =
      some (if s.onZones (s.tightenedZones t) h then s.drivenBack.judged h else h) := by
  have same : (s.failed t).handover n =
      ((s.tightenedZones t).foldl judgeZone s.drivenBack).handover n :=
    handover_congr (handOnZones_handovers _ _) n
  have known' : s.drivenBack.handover n = some h := known
  rw [same, handover_judgeZones, known']
  rfl

end State

end Sys2Proof.Machine
end

section
/-! PROOFS. The ends of a transition as the obligation states them. O53 is settled here. -/

namespace Sys2Proof.Machine

/-! ### The filter of a ZONE_ACK pair -/

theorem ackMoves_eq (s : State) (zone : Fin 4) (level : Mode) :
    s.ackMoves zone level =
      (if (s.lines.ack.get zone).seen = level then s
      else { s with lines := { s.lines with ack := s.lines.ack.set zone ⟨level, 0⟩ } }) := by
  unfold State.ackMoves Line.moved
  by_cases same : (s.lines.ack.get zone).seen = level
  · rw [if_pos same, if_pos same.symm, Quad.set_get]
  · rw [if_neg same, if_neg (Ne.symm same)]

theorem takes_ack_iff {s : State} {zone : Fin 4} {level : Mode} :
    (s.lines.ack.get zone).takes (s.zones.ack.get zone) level = true ↔
      s.zones.ack.get zone ≠ level ∧ 2 ≤ (s.lines.ack.get zone).steady ∧
        ((s.lines.ack.get zone).seen = level ∨
          (s.lines.ack.get zone).seen = s.zones.ack.get zone) := by
  rw [Line.takes_iff, ne_comm]
  rfl

theorem exec_zoneAckChange_not {s : State} {zone : Fin 4} {level : Mode}
    (h : ¬(s.lines.ack.get zone).takes (s.zones.ack.get zone) level = true) :
    exec (.zoneAckChange zone level) s = .next s := if_neg h

theorem exec_zoneAckChange {s : State} {zone : Fin 4} {level : Mode}
    (h : (s.lines.ack.get zone).takes (s.zones.ack.get zone) level = true) :
    exec (.zoneAckChange zone level) s = .next (s.takeAck zone level).judgeEcho.startTx := if_pos h

/-! ### A transition that succeeds -/

namespace State

theorem filter_zones (p : Nat → Bool) (q : Nat → Prop) [DecidablePred q]
    (h : ∀ z, p z = true ↔ q z) : Quad.zonesWhere p = [0, 1, 2, 3].filter fun z => decide (q z) :=
  List.filter_congr fun z _ => Bool.eq_iff_iff.mpr ((h z).trans decide_eq_true_iff.symm)

theorem closingZones_eq (s : State) (t : Transition) :
    s.closingZones t = [0, 1, 2, 3].filter fun z =>
      decide (t.targets.get z = .closed ∧ s.zones.current.get z ≠ .closed) :=
  filter_zones _ _ fun z => by simp

theorem looseningZones_eq (s : State) (t : Transition) :
    s.looseningZones t = [0, 1, 2, 3].filter fun z =>
      decide ((t.targets.get z).level < (s.zones.current.get z).level) :=
  filter_zones _ _ fun _ => decide_eq_true_iff

theorem closureFrames_eq (s : State) (t : Transition) :
    s.closureFrames t = [0, 1, 2, 3].flatMap fun z =>
      if t.targets.get z = .closed ∧ s.zones.current.get z ≠ .closed then
        ((List.range 96).filter fun c => (s.defn c).map (·.zone) == some z).flatMap fun c =>
          (s.col c).waits.map fun w => (w.robot, .refused .zoneClosed (.column c))
      else [] := by
  unfold closureFrames
  rw [closingZones_eq, flatMap_filter]
  refine List.flatMap_congr fun z _ => ?_
  rw [columnsOf_eq]
  simp only [decide_eq_true_iff]
  rfl

theorem looseningFrames_eq (s : State) (t : Transition) :
    s.looseningFrames t = [0, 1, 2, 3].flatMap fun z =>
      if (t.targets.get z).level < (s.zones.current.get z).level then
        ((List.range 96).filter fun c => (s.defn c).map (·.zone) == some z).filterMap fun c =>
          if (s.col c).grant = none then
            ((s.col c).waits.find? fun w =>
                modePermits (if s.zones.hold then .closed else t.targets.get z) w.cls).map fun w =>
              (w.robot, .granted c w.cls (s.params.holdLimit * 1000))
          else none
      else [] := by
  unfold looseningFrames
  rw [looseningZones_eq, flatMap_filter]
  refine List.flatMap_congr fun z _ => ?_
  rw [columnsOf_eq]
  simp only [decide_eq_true_iff]
  rfl

theorem succeeded_col_closing {s : State} {t : Transition} {c : Nat} {d : Defn} (hc : c < 96)
    (defn : s.defn c = some d) (closes : d.zone ∈ s.closingZones t) :
    (s.succeeded t).col c = (s.col c).closed := by
  rw [succeeded_col_of_not_loosening defn fun h => not_closing_of_loosening h closes,
    targetsReached_col, if_pos ⟨d.zone, closes, mem_columnsOf_iff.mpr ⟨hc, d, defn, rfl⟩⟩]

theorem succeeded_col_other {s : State} {t : Transition} {c : Nat} {d : Defn} (hc : c < 96)
    (defn : s.defn c = some d) (keeps : d.zone ∉ s.closingZones t)
    (tight : d.zone ∉ s.looseningZones t) : (s.succeeded t).col c = s.col c := by
  rw [succeeded_col_of_not_loosening defn tight,
    targetsReached_col_same (mem_columnsOf_iff.mpr ⟨hc, d, defn, rfl⟩) keeps]

section
variable {s : State} {t : Transition} {c : Nat} {d : Defn} (hc : c < 96) (defn : s.defn c = some d)
  (loose : d.zone ∈ s.looseningZones t)
include hc defn loose

theorem judgedModes_col_loosening :
    ((s.changingZones t).foldl judgeZone (s.targetsReached t)).col c = s.col c :=
  (s.judgedModes_col t c).trans (targetsReached_col_same (mem_columnsOf_iff.mpr ⟨hc, d, defn, rfl⟩)
    (not_closing_of_loosening loose))

theorem succeeded_col_held (held : (s.col c).grant ≠ none) : (s.succeeded t).col c = s.col c := by
  have col := judgedModes_col_loosening hc defn loose
  rw [succeeded_col_of_loosening loose (mem_columnsOf_iff.mpr ⟨hc, d, defn, rfl⟩),
    handOn_held (by rwa [col]), col]

theorem succeeded_col_none
    (never : ∀ w ∈ (s.col c).waits, modePermits (s.reachedMode t d.zone) w.cls = false) :
    (s.succeeded t).col c = s.col c := by
  have col := judgedModes_col_loosening hc defn loose
  rw [succeeded_col_of_loosening loose (mem_columnsOf_iff.mpr ⟨hc, d, defn, rfl⟩), handOn_none, col]
  intro w hw
  rw [col] at hw
  exact (judgedModes_permitted defn w.cls).trans (never w hw)

theorem succeeded_col_first {front rest : List WaitReq} {w : WaitReq}
    (free : (s.col c).grant = none) (waits : (s.col c).waits = front ++ w :: rest)
    (below : ∀ v ∈ front, modePermits (s.reachedMode t d.zone) v.cls = false)
    (permits : modePermits (s.reachedMode t d.zone) w.cls = true) :
    (s.succeeded t).col c =
      { s.col c with
        waits := front ++ rest
        grant := some ⟨w.robot, w.cls, some (s.params.holdLimit * 1000), none, none⟩ } := by
  have col := judgedModes_col_loosening hc defn loose
  have params := (s.beside_judged t).params.trans (s.targetsReached_params t)
  rw [succeeded_col_of_loosening loose (mem_columnsOf_iff.mpr ⟨hc, d, defn, rfl⟩),
    handOn_col_first (front := front) (rest := rest) (w := w) (by rwa [col]) (by rwa [col])
      (fun v hv => (judgedModes_permitted defn v.cls).trans (below v hv))
      ((judgedModes_permitted defn w.cls).trans permits), col, params]

end

/-- A record on a column of a zone whose mode changes is judged again (08, R164). -/
theorem succeeded_handover_moves {s : State} {t : Transition} {n c : Nat} {h : Handover}
    (known : s.handover n = some h) (column : h.column = some c)
    (moves : ∃ d, s.defn c = some d ∧ d.zone < 4 ∧
      t.targets.get d.zone ≠ s.zones.current.get d.zone) :
    (s.succeeded t).handover n = some { h with
      deadline := h.deadline.map fun e =>
        if e.cond = .stopped then e
        else { e with cond := if (s.succeeded t).suspends c then .suspended else .running } } := by
  obtain ⟨d, defn, lt, changes⟩ := moves
  have on : s.onZones (s.changingZones t) h = true :=
    onZones_iff.mpr ⟨c, d, column, defn, mem_changingZones.mpr ⟨lt, changes⟩⟩
  rw [succeeded_handover known, if_pos on, judged_on column, succeeded_suspends, Deadline.judge_eq]

theorem succeeded_handover_other {s : State} {t : Transition} {n : Nat} {h : Handover}
    (known : s.handover n = some h)
    (still : ∀ c, h.column = some c → ¬∃ d, s.defn c = some d ∧ d.zone < 4 ∧
      t.targets.get d.zone ≠ s.zones.current.get d.zone) :
    (s.succeeded t).handover n = some h := by
  rw [succeeded_handover known, if_neg]
  intro on
  obtain ⟨c, d, column, defn, zone⟩ := onZones_iff.mp on
  exact still c column ⟨d, defn, mem_changingZones.mp zone⟩

theorem notify_afterNormal {u : State} {q : ZoneCtl} (b : NoticeBody) (pending : Bool)
    (zones : u.zones = q) (h : q.holdPending = pending) :
    (u.notify b).afterNormal = if pending then (u.notify b).beginHold else u.notify b := by
  have same : (u.notify b).zones.holdPending = pending := by rw [notify_zones, zones, h]
  rw [afterNormal, same]

/-! ### A transition that fails -/

theorem drivenBack_columnsOf (s : State) (z : Nat) :
    s.drivenBack.columnsOf z = (List.range 96).filter fun c => (s.defn c).map (·.zone) == some z :=
  columnsOf_eq ..

theorem failed_link (s : State) (t : Transition) :
    (s.failed t).link =
      (([0, 1, 2, 3].flatMap fun z =>
        if (s.zones.current.get z).level < (t.targets.get z).level then
          (List.range 96).filter fun c => (s.defn c).map (·.zone) == some z
        else []).foldl handOn s.drivenBack).link := by
  have zones : s.tightenedZones t = [0, 1, 2, 3].filter fun z =>
      decide ((s.zones.current.get z).level < (t.targets.get z).level) :=
    filter_zones _ _ fun _ => tightens_iff
  rw [failed_eq, handOnZones_eq, zones, flatMap_filter]
  simp only [decide_eq_true_iff, drivenBack_columnsOf]

theorem failed_notices (s : State) (t : Transition) :
    (s.failed t).link.notices = s.link.notices := by
  have nodup : (s.tightenedZones t).Nodup := zonesWhere_nodup _
  rw [failed_eq]
  show ((s.tightenedZones t).foldl handOnZone s.drivenBack).link.notices = _
  rw [handOnZones_link _ nodup, sendAll_notices]
  rfl

theorem failed_col {s : State} {t : Transition} {c : Nat} {d : Defn} (hc : c < 96)
    (defn : s.defn c = some d) (tight : d.zone ∈ s.tightenedZones t) :
    (s.failed t).col c = (s.drivenBack.handOn c).col c := by
  have nodup : (s.tightenedZones t).Nodup := zonesWhere_nodup _
  rw [failed_eq]
  exact handOnZones_col_of_mem nodup tight
    (mem_columnsOf_iff (s := s.drivenBack).mpr ⟨hc, d, defn, rfl⟩)

theorem failed_col_other {s : State} {t : Transition} {c : Nat} {d : Defn}
    (defn : s.defn c = some d) (keeps : d.zone ∉ s.tightenedZones t) :
    (s.failed t).col c = s.col c := by
  rw [failed_eq]
  refine handOnZones_col_of_not_mem (s := s.drivenBack) fun z hz mem => keeps ?_
  obtain ⟨-, e, he, rfl⟩ := mem_columnsOf_iff.mp mem
  have same : d = e := Option.some_inj.mp (defn.symm.trans he)
  rwa [same]

theorem failed_handover_resumes {s : State} {t : Transition} {n c : Nat} {h : Handover}
    (known : s.handover n = some h) (column : h.column = some c)
    (resumes : ∃ d, s.defn c = some d ∧ d.zone < 4 ∧
      (s.zones.current.get d.zone).level < (t.targets.get d.zone).level) :
    (s.failed t).handover n = some { h with
      deadline := h.deadline.map fun e =>
        if e.cond = .stopped then e
        else { e with cond := if (s.failed t).suspends c then .suspended else .running } } := by
  obtain ⟨d, defn, tight⟩ := resumes
  have on : s.onZones (s.tightenedZones t) h = true :=
    onZones_iff.mpr ⟨c, d, column, defn, mem_tightenedZones.mpr tight⟩
  rw [failed_handover known, if_pos on, judged_on column, failed_suspends, Deadline.judge_eq]

theorem failed_handover_other {s : State} {t : Transition} {n : Nat} {h : Handover}
    (known : s.handover n = some h)
    (still : ∀ c, h.column = some c → ¬∃ d, s.defn c = some d ∧ d.zone < 4 ∧
      (s.zones.current.get d.zone).level < (t.targets.get d.zone).level) :
    (s.failed t).handover n = some h := by
  rw [failed_handover known, if_neg]
  intro on
  obtain ⟨c, d, column, defn, zone⟩ := onZones_iff.mp on
  exact still c column ⟨d, defn, mem_tightenedZones.mp zone⟩

end State

theorem exec_interlockLimitExpiry_not {s : State}
    (h : ∀ t, s.zones.trans = some t → ¬interlockDue t = true) :
    exec .interlockLimitExpiry s = .next s := by
  show execInterlockLimitExpiry s = .next s
  unfold execInterlockLimitExpiry
  cases trans : s.zones.trans with
  | none => rfl
  | some t => exact if_neg (h t trans)

theorem exec_interlockLimitExpiry {s : State} {t : Transition} (trans : s.zones.trans = some t)
    (due : interlockDue t = true) :
    exec .interlockLimitExpiry s = .next (s.failTransition t).startTx := by
  show execInterlockLimitExpiry s = _
  unfold execInterlockLimitExpiry
  rw [trans]
  exact if_pos due

/-- Settles O53: the echo and the limit lead to `succeed`, `completeHold` or `failTransition`, whose
zones, columns, frames and records are told one by one. -/
theorem transitionsSucceedOrFail : Obligations.TransitionsSucceedOrFail := by
  unfold Obligations.TransitionsSucceedOrFail
  refine ⟨fun zone level s => ?_, fun s => ?_, fun s => ?_⟩
  · intro line taken judged echo
    have takes : taken ↔ (s.lines.ack.get zone).takes (s.zones.ack.get zone) level = true :=
      takes_ack_iff.symm
    have echoes : echo ↔ judged.zones.ack = judged.zones.driven :=
      (State.ack_eq_driven_iff (s := judged)).symm
    refine ⟨ackMoves_eq s zone level, fun no => exec_zoneAckChange_not (mt takes.mpr no),
      fun yes silent => (exec_zoneAckChange (takes.mp yes)).trans ?_, ?_, ?_⟩
    · have still : judged.judgeEcho = judged := State.judgeEcho_still fun t trans changing e =>
        silent t trans changing (echoes.mpr e)
      exact congrArg (fun u : State => Host.Outcome.next u.startTx) still
    · intro t yes trans changing echoed normal closes loosens mode columns refused granted closed
      have succeeds : judged.judgeEcho = judged.succeed t :=
        (State.judgeEcho_normal (s := judged) trans changing normal).trans
          (if_pos (echoes.mp echoed))
      have closing : ∀ z, z < 4 → (closes z ↔ z ∈ judged.closingZones t) := fun z hz =>
        (State.mem_closingZones.trans (and_iff_right hz)).symm
      have loosening : ∀ z, z < 4 → (loosens z ↔ z ∈ judged.looseningZones t) := fun z hz =>
        (State.mem_looseningZones.trans (and_iff_right hz)).symm
      have rest := judged.succeeded_rest t
      have lines := congrArg State.lines rest
      have roster := congrArg State.roster rest
      have xpMap := congrArg State.xpMap rest
      have audit := congrArg State.audit rest
      refine ⟨judged.succeeded t, ?_, judged.succeeded_zones t, lines, roster, xpMap, audit, ?_,
        fun c d hc defn lt => ⟨fun shut => ?_, fun open_ tight => ?_,
          fun loose => ⟨fun held => ?_, fun never => ?_, fun front w rest free waits below permits => ?_⟩⟩,
        fun n h known => ?_⟩
      · refine (exec_zoneAckChange (takes.mp yes)).trans
          (congrArg (fun u : State => Host.Outcome.next u.startTx) (succeeds.trans ?_))
        rw [State.succeed_eq, judged.closingZones_eq]
        exact State.notify_afterNormal _ _ (judged.succeeded_zones t) rfl
      · rw [State.succeeded_link, judged.closureFrames_eq, judged.looseningFrames_eq]
        exact State.sendAll_link_congr (s := judged) (t := s) _ rfl
      · exact State.succeeded_col_closing hc defn ((closing d.zone lt).mp shut)
      · exact State.succeeded_col_other hc defn (mt (closing d.zone lt).mpr open_)
          (mt (loosening d.zone lt).mpr tight)
      · exact State.succeeded_col_held hc defn ((loosening d.zone lt).mp loose) held
      · exact State.succeeded_col_none hc defn ((loosening d.zone lt).mp loose) never
      · exact State.succeeded_col_first (s := judged) hc defn ((loosening d.zone lt).mp loose) free
          waits below permits
      · exact ⟨fun c column moves => State.succeeded_handover_moves (s := judged) known column moves,
          fun still => State.succeeded_handover_other (s := judged) known still⟩
    · intro t yes trans changing echoed hold
      have completes : judged.judgeEcho = judged.completeHold :=
        State.judgeEcho_hold (s := judged) trans changing hold (echoes.mp echoed)
      exact (exec_zoneAckChange (takes.mp yes)).trans
        (congrArg (fun u : State => Host.Outcome.next u.startTx) completes)
  · refine ⟨s.holdCompleted, s.completeHold_eq, s.holdCompleted_zones, s.holdCompleted_col,
      fun n h known => ⟨fun on => ?_, fun off => ?_⟩, s.holdCompleted_rest⟩
    · obtain ⟨c, hc, column, defined⟩ := on
      have mem := State.mem_defined.mpr ⟨hc, Option.ne_none_iff_exists'.mp defined⟩
      rw [State.holdCompleted_handover known, if_pos (Handover.onAny_iff.mpr ⟨c, mem, column⟩),
        State.suspended_eq]
    · rw [State.holdCompleted_handover known, if_neg]
      intro on
      obtain ⟨c, mem, column⟩ := Handover.onAny_iff.mp on
      obtain ⟨hc, d, defn⟩ := State.mem_defined.mp mem
      exact absurd (off c hc column) (by simp [defn])
  · intro due
    have isDue : ∀ t, due t ↔ interlockDue t = true := fun t => (interlockDue_iff t).symm
    refine ⟨fun never => exec_interlockLimitExpiry_not fun t trans => mt (isDue t).mpr (never t trans),
      fun t trans now => ?_⟩
    intro looser
    have tightened : ∀ z, z < 4 →
        ((s.zones.current.get z).level < (t.targets.get z).level ↔ z ∈ s.tightenedZones t) :=
      fun z hz => (State.mem_tightenedZones.trans (and_iff_right hz)).symm
    have roster := (State.handOnZones_frame (s.tightenedZones t)
      ((s.tightenedZones t).foldl State.judgeZone s.drivenBack)).roster.trans
        (BlockFrame.foldl State.judgeZone BlockFrame.judgeZone (s.tightenedZones t) s.drivenBack).roster
    have zones := s.failed_zones t
    have back : ({ s with zones := (s.failed t).zones } : State) = s.drivenBack := by
      rw [zones]
      rfl
    refine ⟨s.failed t, ?_, zones, roster, s.failed_notices t, ?_,
      fun c d hc defn lt tight => ?_, fun c d defn lt slack => ?_, fun n h known =>
        ⟨fun c column resumes => State.failed_handover_resumes known column resumes,
          fun still => State.failed_handover_other known still⟩⟩
    · refine (exec_interlockLimitExpiry trans ((isDue t).mp now)).trans
        (congrArg (fun u : State => Host.Outcome.next u.startTx) ?_)
      rw [State.failTransition_eq]
      exact State.notify_afterNormal _ _ zones rfl
    · rw [back]
      exact s.failed_link t
    · rw [back]
      exact State.failed_col hc defn ((tightened d.zone lt).mp tight)
    · exact State.failed_col_other defn (mt (tightened d.zone lt).mpr slack)

end Sys2Proof.Machine
end

section
/-! PROOFS. What the end of an operation does to the records of its halves, and the remap that may
follow it (02, R53; 01, R19, R20; 04, R99, R100). -/

namespace Sys2Proof.Machine

/-! ### Records that return -/

/-- A record at the end of an operation that did not move its bin, `on` saying which columns suspend
deadlines (02, R53, R54). -/
def Handover.returned (h : Handover) (prior : HandoverState) (uncertain : Bool) (on : Nat → Bool) :
    Handover :=
  let parks := prior = .staged ∧ h.taker = .none
  { h with
    state := if parks then .parked else prior
    uncertain := h.uncertain || uncertain
    deadline :=
      if parks then none
      else h.deadline.map fun e =>
        { e with cond := if h.column.any on then .suspended else .running } }

theorem Handover.returned_number (h : Handover) (prior : HandoverState) (b : Bool) (on : Nat → Bool) :
    (h.returned prior b on).number = h.number := rfl

theorem Handover.returned_column (h : Handover) (prior : HandoverState) (b : Bool) (on : Nat → Bool) :
    (h.returned prior b on).column = h.column := rfl

theorem Handover.returned_congr {h : Handover} {on off : Nat → Bool} (prior : HandoverState)
    (b : Bool) (same : h.column.any on = h.column.any off) :
    h.returned prior b on = h.returned prior b off := by
  simp only [Handover.returned, same]

/-- A returned record on a column that suspends is SUSPENDED already (02, R43). -/
theorem Handover.returned_suspended {h : Handover} (prior : HandoverState) (b : Bool)
    {on off : Nat → Bool} {c : Nat} (column : h.column = some c) (sus : on c = true) :
    (h.returned prior b off).suspended = h.returned prior b on := by
  by_cases parks : prior = .staged ∧ h.taker = .none
  · simp [Handover.returned, Handover.suspended, parks]
  · have judged : ∀ (e : Deadline) (v : DeadlineCond), v ≠ .stopped →
        Deadline.judge true { e with cond := v } = { e with cond := .suspended } := fun e v hv => by
      cases v <;> simp_all [Deadline.judge]
    have never : ∀ x : Bool, (if x then DeadlineCond.suspended else .running) ≠ .stopped := by decide
    simp only [Handover.returned, Handover.suspended, parks, if_false, column, Option.any_some, sus,
      if_true, Option.map_map, Function.comp_def, judged _ _ (never _)]

namespace State

theorem resumed_eq (s : State) (h : Handover) :
    s.resumed h = { h with
      deadline := h.deadline.map fun e =>
        { e with cond := if h.column.any s.suspends then .suspended else .running } } := by
  unfold resumed judged
  cases h.column <;> simp [Function.comp_def, Deadline.judge]

theorem returnRecord_eq (u : Bool) (s : State) (p : Nat × HandoverState) :
    returnRecord u s p = s.modHandover p.1 fun h => h.returned p.2 u s.suspends := by
  unfold returnRecord
  congr 1
  funext h
  by_cases parks : p.2 = .staged ∧ h.taker = .none
  · have test : (p.2 == .staged && h.taker == .none) = true := by simp [parks.1, parks.2]
    rw [if_pos test, Handover.returned]
    simp only [parks, and_self, if_true]
  · have test : ¬(p.2 == .staged && h.taker == .none) = true := by simpa using parks
    rw [if_neg test, resumed_eq, Handover.returned]
    simp only [parks, if_false]

theorem returnRecords_rest (s : State) (u : Bool) (o : Operation) :
    { s.returnRecords u o with handovers := s.handovers } = s :=
  foldl_untouched (f := returnRecord u) (fun v => { v with handovers := s.handovers })
    (fun _ _ _ => rfl) s

/-- The records of a list of priors return one by one. -/
theorem returnList_handover (u : Bool) {l : List (Nat × HandoverState)} {s v : State} {n : Nat}
    {h : Handover} (nodup : (l.map Prod.fst).Nodup)
    (rest : { v with handovers := s.handovers } = s) (known : v.handover n = some h) :
    (∀ st, (n, st) ∈ l →
      (l.foldl (returnRecord u) v).handover n = some (h.returned st u s.suspends)) ∧
    (n ∉ l.map Prod.fst → (l.foldl (returnRecord u) v).handover n = some h) := by
  induction l generalizing v h with
  | nil => exact ⟨fun st mem => absurd mem (by simp), fun _ => known⟩
  | cons p l ih =>
    obtain ⟨m, st'⟩ := p
    rw [List.map_cons, List.nodup_cons] at nodup
    obtain ⟨fresh, nodup⟩ := nodup
    have suspends : v.suspends = s.suspends :=
      (show v.suspends = ({ v with handovers := s.handovers } : State).suspends from rfl).trans
        (by rw [rest])
    have step : returnRecord u v (m, st') = v.modHandover m fun h => h.returned st' u s.suspends := by
      rw [returnRecord_eq, suspends]
    have kept : { returnRecord u v (m, st') with handovers := s.handovers } = s := rest
    have number : ∀ k : Handover, (k.returned st' u s.suspends).number = k.number := fun _ => rfl
    by_cases same : n = m
    · subst same
      have now : (returnRecord u v (n, st')).handover n = some (h.returned st' u s.suspends) := by
        rw [step, v.handover_modHandover_same n _ number, known]
        rfl
      have others := (ih nodup kept now).2 fresh
      refine ⟨fun st mem => ?_, fun no => absurd List.mem_cons_self no⟩
      rcases List.mem_cons.mp mem with first | later
      · rw [(Prod.mk.inj first).2]
        exact others
      · exact absurd (List.mem_map_of_mem (f := Prod.fst) later) fresh
    · have now : (returnRecord u v (m, st')).handover n = some h := by
        rw [step, v.handover_modHandover_ne same _ number, known]
      obtain ⟨returns, stays⟩ := ih nodup kept now
      refine ⟨fun st mem => returns st ?_, fun no => stays fun k => no (List.mem_cons_of_mem _ k)⟩
      exact (List.mem_cons.mp mem).resolve_left fun e => same (Prod.mk.inj e).1

theorem returnRecords_handover (u : Bool) {o : Operation} {s : State} {n : Nat} {h : Handover}
    (nodup : (o.priors.map Prod.fst).Nodup) (known : s.handover n = some h) :
    (∀ st, (n, st) ∈ o.priors →
      (s.returnRecords u o).handover n = some (h.returned st u s.suspends)) ∧
    (n ∉ o.priors.map Prod.fst → (s.returnRecords u o).handover n = some h) :=
  returnList_handover u nodup rfl known

/-! ### The spare and the remap -/

theorem spareIn_eq_find (s : State) (z : Nat) :
    s.spareIn z = (List.range 96).find? fun e =>
      (s.defn e).map (·.zone) == some z && (s.mappedBy e).isNone && !(s.col e).retired := by
  rw [spareIn, columnsOf_eq, List.find?_filter]
  refine congrArg (fun p => List.find? p (List.range 96)) (funext fun e => ?_)
  unfold isSpare
  cases s.defn e with
  | none => rfl
  | some d => exact Bool.eq_iff_iff.mpr (by simp [and_assoc])

/-- The notice of the remap of a column, if it is ready (01, R19, R20). -/
def remapNotices (s : State) (c : Nat) : List NoticeBody :=
  match s.mappedBy c with
  | some x =>
    if (s.xp x).map (·.remapPending) = some true ∧ s.remapReady c = true then
      [.remapDone x c (s.spareIn (s.zoneOf c))]
    else []
  | none => []

/-- The map once the remap of a column is examined (01, R19, R20). -/
def remapMap (s : State) (c : Nat) : List (Option XpEntry) :=
  match s.mappedBy c with
  | some x =>
    if s.remapNotices c = [] then s.xpMap
    else updateAt s.xpMap x fun _ => (s.spareIn (s.zoneOf c)).map (⟨·, false⟩)
  | none => s.xpMap

/-- The remap of a column that is not called changes the map alone. -/
theorem examineRemap_not_called {s : State} {c : Nat} (h : s.audit.called ≠ some c) :
    s.examineRemap c = ({ s with xpMap := s.remapMap c }, s.remapNotices c) := by
  unfold remapMap
  cases mapped : s.mappedBy c with
  | none => simp [examineRemap_unmapped mapped, remapNotices, mapped]
  | some x =>
    cases entry : s.xp x with
    | none => simp [examineRemap, remapNotices, mapped, entry]
    | some e =>
      rw [examineRemap_mapped mapped entry]
      by_cases ready : e.remapPending = true ∧ s.remapReady c = true
      · have told : s.remapNotices c = [.remapDone x c (s.spareIn (s.zoneOf c))] := by
          simp [remapNotices, mapped, entry, ready]
        rw [if_pos ready, completeRemap_eq, if_neg h, told]
        simp
      · have told : s.remapNotices c = [] := by
          simp only [remapNotices, mapped, entry, Option.map_some, Option.some.injEq, ready, if_false]
        rw [if_neg ready, told]
        simp

/-! ### The audit unit at an end that did not move the bin -/

/-- The audit unit once a call on a column is over (06, R132, R134). -/
def callEnded (s : State) (c : Nat) : AuditUnit :=
  if s.audit.called = some c then
    { s.audit with
      state := .idle, called := none, callLimit := none, overdue := false,
      pointer := if c < 95 then c + 1 else 0 }
  else s.audit

theorem callEnded_called (s : State) (c : Nat) : (s.callEnded c).called ≠ some c := by
  unfold callEnded
  split
  · simp
  next no => exact no

theorem endCall_eq {s : State} {c : Nat} (h : s.audit.called = some c) :
    s.endCall c = { s with audit := s.callEnded c } := by
  have wrap : c + 1 < Config.columnCount ↔ c < 95 := Nat.succ_lt_succ_iff
  simp only [endCall, pointerAfter, callEnded, h, wrap, if_true]

/-- A column whose call failed (06, R132). -/
def unverifiedIf (k : Column) (called : Prop) [Decidable called] : Column :=
  { k with
    verification := if called then .unverified else k.verification
    seen := if called then false else k.seen }

theorem auditEnd_failing {s : State} {c : Nat} {out : EndOutcome} {cause : UnverifiedCause}
    (fails : (out = .failed ∧ cause = .opFailed) ∨ (out = .cutOff ∧ cause = .opCutOff)) :
    s.auditEnd c out =
      ({ s.modCol c fun k => unverifiedIf k (s.audit.called = some c) with audit := s.callEnded c },
        if s.audit.called = some c then [s.unverifiedNotice c cause] else []) := by
  have idle : s.audit.called ≠ some c → s.modCol c (fun k => unverifiedIf k (s.audit.called = some c))
      = s := fun no => by
    unfold modCol unverifiedIf
    simp only [no, if_false]
    rw [updateAt_id _ _ _ fun _ _ => rfl]
  have failing : s.auditEnd c out =
      if s.audit.called = some c then s.failCall c cause else (s, []) := by
    rcases fails with ⟨rfl, rfl⟩ | ⟨rfl, rfl⟩ <;> rfl
  rw [failing]
  by_cases called : s.audit.called = some c
  · rw [if_pos called, if_pos called, failCall, endCall_eq (s := s.setAudit c .unverified false) called]
    simp only [called, unverifiedIf, if_true]
    rfl
  · rw [if_neg called, if_neg called, idle called, callEnded, if_neg called]

end State

end Sys2Proof.Machine
end

section
/-! PROOFS. The cut-off of an operation (04, R100) and the end of its limit (R101). O42 is settled
here. -/

namespace Sys2Proof.Machine

/-- A column whose operation is over, with the inbound it took released (04, R94, R99, R100). -/
def Column.operationOver (k : Column) (o : Operation) : Column :=
  { k with op := none, inbound := if o.inboundTaken then false else k.inbound }

namespace State

theorem spareIn_congr {s t : State} (defn : ∀ e, t.defn e = s.defn e)
    (mapped : ∀ e, t.mappedBy e = s.mappedBy e)
    (retired : ∀ e, (t.col e).retired = (s.col e).retired) (z : Nat) : t.spareIn z = s.spareIn z := by
  rw [spareIn_eq_find, spareIn_eq_find]
  simp only [defn, mapped, retired]

theorem mappedBy_congr {s t : State} (h : t.xpMap = s.xpMap) (c : Nat) :
    t.mappedBy c = s.mappedBy c := by
  simp only [mappedBy, h]

theorem xp_congr {s t : State} (h : t.xpMap = s.xpMap) (x : Nat) : t.xp x = s.xp x := by
  simp only [xp, h]

/-- The remap's notice for a column without an operation (01, R19). -/
theorem remapNotices_idle {s : State} {c : Nat} (idle : (s.col c).op = none) :
    s.remapNotices c =
      match s.mappedBy c with
      | some x =>
        if (s.xp x).map (·.remapPending) = some true ∧ (s.col c).stack = [] ∧
            s.reservations c = 0 ∧ (s.col c).inbound = false then
          [.remapDone x c (s.spareIn (s.zoneOf c))]
        else []
      | none => [] := by
  unfold remapNotices
  cases s.mappedBy c with
  | none => rfl
  | some x => simp only [remapReady_iff, idle, and_true]

/-! ### The operation is over -/

/-- An operation ends without moving a bin: its records return, and the column is free of it
(04, R99, R100). -/
def operationClosed (s : State) (c : Nat) (o : Operation) (u : Bool) : State :=
  (s.returnRecords u o).clearOp c o

section
variable (s : State) (c : Nat) (o : Operation) (u : Bool)

theorem operationClosed_rest :
    { s.operationClosed c o u with columns := s.columns, handovers := s.handovers } = s :=
  congrArg (fun v : State => { v with columns := s.columns }) (s.returnRecords_rest u o)

theorem returnRecords_columns : (s.returnRecords u o).columns = s.columns :=
  (congrArg State.columns (s.returnRecords_rest u o) :)

theorem operationClosed_columns :
    (s.operationClosed c o u).columns = (s.modCol c fun k => k.operationOver o).columns := by
  show updateAt (s.returnRecords u o).columns c _ = _
  rw [returnRecords_columns]
  rfl

theorem operationClosed_col (e : Nat) :
    (s.operationClosed c o u).col e = (s.modCol c fun k => k.operationOver o).col e :=
  congrArg (fun l : List Column => l.getD e Column.blank) (s.operationClosed_columns c o u)

end

/-! ### The cut-off -/

/-- The state of a cut-off before its remap is examined (04, R100; 06, R132). -/
def cutState (s : State) (c : Nat) (o : Operation) : State :=
  { ((s.operationClosed c o true).addSuspect c).modCol c fun k =>
      unverifiedIf k (s.audit.called = some c) with
    audit := s.callEnded c }

/-- COLUMN_UNVERIFIED of a call that a cut-off fails (06, R135). -/
def cutFails (s : State) (c : Nat) : List NoticeBody :=
  if s.audit.called = some c then
    [.columnUnverified c (s.mappedBy c) (s.zoneOf c) .opCutOff (s.col c).verification
      { (s.col c).causes with suspect := true } (s.col c).stack.length]
  else []

section
variable {s : State} {c : Nat} {o : Operation}

theorem cutState_rest (s : State) (c : Nat) (o : Operation) :
    { s.cutState c o with columns := s.columns, handovers := s.handovers, audit := s.audit } = s :=
  congrArg (fun v : State => { v with audit := s.audit }) (s.operationClosed_rest c o true)

theorem cutState_zones : (s.cutState c o).zones = s.zones :=
  (congrArg State.zones (s.cutState_rest c o) :)

theorem cutState_xpMap : (s.cutState c o).xpMap = s.xpMap :=
  (congrArg State.xpMap (s.cutState_rest c o) :)

theorem cutState_frame (s : State) (c : Nat) (o : Operation) : BlockFrame s (s.cutState c o) :=
  (((BlockFrame.returnRecords s true o).trans (.clearOp _ c o)).trans
    ((BlockFrame.addSuspect _ c).trans
      (.modCol _ c (fun k => unverifiedIf k (s.audit.called = some c)) (fun _ => rfl) fun _ => rfl))).trans
    (.audit _ _)

theorem suspectState_col_same (lt : c < s.columns.length) :
    ((s.operationClosed c o true).addSuspect c).col c =
      { (s.col c).operationOver o with causes := { (s.col c).causes with suspect := true } } := by
  have size : c < (s.operationClosed c o true).columns.length := by
    rw [operationClosed_columns]
    simpa using lt
  rw [addSuspect_col_same size, operationClosed_col, s.col_modCol_same lt]
  rfl

theorem cutState_col_same (lt : c < s.columns.length) :
    (s.cutState c o).col c =
      unverifiedIf
        { (s.col c).operationOver o with causes := { (s.col c).causes with suspect := true } }
        (s.audit.called = some c) := by
  have size : c < ((s.operationClosed c o true).addSuspect c).columns.length := by
    rw [(BlockFrame.addSuspect _ c).toFrame.columns_length, operationClosed_columns]
    simpa using lt
  refine Eq.trans (col_modCol_same _ size _) ?_
  rw [suspectState_col_same lt]

theorem cutState_col_ne {e : Nat} (h : e ≠ c) : (s.cutState c o).col e = s.col e := by
  refine Eq.trans (col_modCol_ne _ h _) ?_
  rw [addSuspect_col_ne h, operationClosed_col, s.col_modCol_ne h]

theorem cutState_suspends_same (lt : c < s.columns.length) : (s.cutState c o).suspends c = true := by
  refine suspends_of_frozen (frozen_iff.mpr ?_)
  rw [cutState_col_same lt]
  simp [unverifiedIf]

theorem cutState_suspends_ne {e : Nat} (h : e ≠ c) :
    (s.cutState c o).suspends e = s.suspends e :=
  suspends_congr cutState_zones ((s.cutState_frame c o).toFrame.defn e)
    (congrArg Column.causes (cutState_col_ne h))

theorem cutState_handover_eq {n : Nat} {h : Handover} (lt : c < s.columns.length)
    (known : (s.returnRecords true o).handover n = some h) :
    (s.cutState c o).handover n = some (if h.column = some c then h.suspended else h) := by
  have size : c < (s.operationClosed c o true).columns.length := by
    rw [operationClosed_columns]
    simpa using lt
  have read := addSuspect_handover (s := s.operationClosed c o true) size known
  rw [← suspended_eq] at read
  exact read

/-- A record of the operation's halves returns uncertain (02, R53, R54). -/
theorem cutState_handover_prior {n : Nat} {h : Handover} {st : HandoverState}
    (lt : c < s.columns.length) (nodup : (o.priors.map Prod.fst).Nodup)
    (known : s.handover n = some h) (prior : (n, st) ∈ o.priors) :
    (s.cutState c o).handover n = some (h.returned st true (s.cutState c o).suspends) := by
  rw [cutState_handover_eq lt ((returnRecords_handover true nodup known).1 st prior),
    Handover.returned_column]
  refine congrArg some ?_
  by_cases column : h.column = some c
  · rw [if_pos column]
    exact Handover.returned_suspended st true column (cutState_suspends_same lt)
  · rw [if_neg column]
    refine Handover.returned_congr st true ?_
    cases e : h.column with
    | none => rfl
    | some d =>
      have ne : d ≠ c := fun k => column (e.trans (congrArg some k))
      simp only [Option.any_some, cutState_suspends_ne ne]

/-- Another record on the column is SUSPENDED, and the others stay (02, R43). -/
theorem cutState_handover_other {n : Nat} {h : Handover} (lt : c < s.columns.length)
    (nodup : (o.priors.map Prod.fst).Nodup) (known : s.handover n = some h)
    (other : n ∉ o.priors.map Prod.fst) :
    (s.cutState c o).handover n = some
      (if h.column = some c then
        { h with
          deadline := h.deadline.map fun e =>
            if e.cond = .stopped then e else { e with cond := .suspended } }
      else h) := by
  rw [cutState_handover_eq lt ((returnRecords_handover true nodup known).2 other), suspended_eq]

theorem cutOff_eq (cause : SuspectCause) (op : (s.col c).op = some o) :
    s.cutOff c cause =
      ({ s.cutState c o with xpMap := (s.cutState c o).remapMap c },
        .columnSuspect c (s.mappedBy c) cause o.robot ::
          (s.cutFails c ++ (s.cutState c o).remapNotices c)) := by
  have lt : c < s.columns.length := s.lt_of_col_ne fun e => by
    rw [e] at op
    exact absurd op (by simp [Column.blank])
  have rest := congrArg (fun v : State => { v with columns := s.columns })
    (s.operationClosed_rest c o true)
  have audit : ((s.operationClosed c o true).addSuspect c).audit = s.audit :=
    (congrArg State.audit (s.operationClosed_rest c o true) :)
  have mapped : ((s.operationClosed c o true).addSuspect c).mappedBy c = s.mappedBy c :=
    mappedBy_congr (congrArg State.xpMap (s.operationClosed_rest c o true) :) c
  have zone : ((s.operationClosed c o true).addSuspect c).zoneOf c = s.zoneOf c :=
    congrArg (fun d => (d.map (·.zone)).getD 0) ((congrArg Column.defn
      (suspectState_col_same (o := o) lt)).trans rfl)
  have ended := auditEnd_failing (s := (s.operationClosed c o true).addSuspect c) (c := c)
    (.inr ⟨rfl, rfl⟩)
  have notices : (if ((s.operationClosed c o true).addSuspect c).audit.called = some c then
      [((s.operationClosed c o true).addSuspect c).unverifiedNotice c .opCutOff] else []) =
      s.cutFails c := by
    unfold unverifiedNotice cutFails
    rw [audit, mapped, zone, suspectState_col_same lt]
    rfl
  have state : ({ ((s.operationClosed c o true).addSuspect c).modCol c fun k =>
      unverifiedIf k (((s.operationClosed c o true).addSuspect c).audit.called = some c) with
      audit := ((s.operationClosed c o true).addSuspect c).callEnded c } : State) =
      s.cutState c o := by
    unfold cutState callEnded
    simp only [audit]
  rw [notices, state] at ended
  have remap := examineRemap_not_called (s := s.cutState c o) (c := c) (s.callEnded_called c)
  unfold cutOff
  rw [op]
  show (((((s.operationClosed c o true).addSuspect c).auditEnd c .cutOff).1.examineRemap c).1, _) = _
  rw [show ((s.returnRecords true o).clearOp c o).addSuspect c =
    (s.operationClosed c o true).addSuspect c from rfl, ended]
  dsimp only
  rw [remap]

end

/-- The remap's notice of a cut-off, in the terms of the state before it. -/
theorem cutState_remapNotices {s : State} {c : Nat} {o : Operation} (lt : c < s.columns.length) :
    (s.cutState c o).remapNotices c =
      match s.mappedBy c with
      | some x =>
        if (s.xp x).map (·.remapPending) = some true ∧ (s.col c).stack = [] ∧
            (s.cutState c o).reservations c = 0 ∧
            (if o.inboundTaken then false else (s.col c).inbound) = false then
          [.remapDone x c (s.spareIn (s.zoneOf c))]
        else []
      | none => [] := by
  have col := cutState_col_same (o := o) lt
  have zone : (s.cutState c o).zoneOf c = s.zoneOf c :=
    congrArg (fun d => (d.map (·.zone)).getD 0) ((s.cutState_frame c o).toFrame.defn c)
  have retired : ∀ e, ((s.cutState c o).col e).retired = (s.col e).retired := fun e => by
    by_cases h : e = c
    · subst h
      rw [col]
      rfl
    · rw [cutState_col_ne h]
  have spare := spareIn_congr (s.cutState_frame c o).toFrame.defn
    (mappedBy_congr cutState_xpMap) retired
  rw [remapNotices_idle (by rw [col]; rfl), zone, spare, mappedBy_congr cutState_xpMap, col]
  cases s.mappedBy c with
  | none => rfl
  | some x =>
    refine if_congr ?_ rfl rfl
    rewrite [xp_congr cutState_xpMap]
    exact Iff.rfl

theorem cutState_remapMap {s : State} {c : Nat} {o : Operation} (lt : c < s.columns.length) :
    (s.cutState c o).remapMap c =
      match s.mappedBy c with
      | some x =>
        if (s.cutState c o).remapNotices c = [] then s.xpMap
        else updateAt s.xpMap x fun _ => (s.spareIn (s.zoneOf c)).map (⟨·, false⟩)
      | none => s.xpMap := by
  have zone : (s.cutState c o).zoneOf c = s.zoneOf c :=
    congrArg (fun d => (d.map (·.zone)).getD 0) ((s.cutState_frame c o).toFrame.defn c)
  have retired : ∀ e, ((s.cutState c o).col e).retired = (s.col e).retired := fun e => by
    by_cases h : e = c
    · subst h
      rw [cutState_col_same lt]
      rfl
    · rw [cutState_col_ne h]
  have spare := spareIn_congr (s.cutState_frame c o).toFrame.defn
    (mappedBy_congr cutState_xpMap) retired
  unfold remapMap
  rewrite [mappedBy_congr cutState_xpMap, zone, spare, cutState_xpMap]
  cases s.mappedBy c <;> rfl

end State

end Sys2Proof.Machine
end

section
/-! PROOFS. The operation limit that runs out (04, R101). O42 is settled here. -/

namespace Sys2Proof.Machine

namespace State

theorem modCol_id {s : State} {c : Nat} {f : Column → Column} (h : f (s.col c) = s.col c) :
    s.modCol c f = s := by
  rw [s.modCol_congr (g := id) h]
  unfold modCol
  rw [updateAt_id _ _ id fun _ _ => rfl]

/-- With no transition under way the end of a grant frees the column and does no more (03, R64). -/
theorem endGrant_still {s : State} {c : Nat} (h : s.zones.trans = none) :
    s.endGrant c = s.modCol c fun k => { k with grant := none } := by
  cases held : (s.col c).grant with
  | none =>
    have same : ({ s.col c with grant := none } : Column) = s.col c := by rw [← held]
    rw [modCol_id same, endGrant, held]
  | some g =>
    rw [endGrant_held held, reportGrantEnd]
    have none : (s.modCol c fun q => { q with grant := none }).zones.trans = none := h
    rw [none]

theorem notifyAll_rest (s : State) (bs : List NoticeBody) :
    { s.notifyAll bs with link := s.link } = s :=
  foldl_untouched (f := notify) (fun v => { v with link := s.link }) (fun _ _ _ => rfl) s

theorem notifyAll_fleet (s : State) (bs : List NoticeBody) :
    (s.notifyAll bs).link.fleet = s.link.fleet :=
  foldl_untouched (f := notify) (fun v => v.link.fleet) (fun v b _ => v.notify_link_fleet b) s

theorem send_fleet_congr {s t : State} (h : t.link.fleet = s.link.fleet) (a : Nat) (m : FleetMsg) :
    (t.send a m).link.fleet = (s.send a m).link.fleet := by
  unfold send modLink
  dsimp only
  rw [h]
  split <;> rfl

theorem handOn_notices (s : State) (c : Nat) : (s.handOn c).link.notices = s.link.notices := by
  rw [handOn_link, sendAll_notices]

/-! ### The limit -/

/-- The state in which the grant of a column ends, its operation cut off and its robot LOST
(04, R101). -/
def limitCut (s : State) (c : Nat) (o : Operation) : State :=
  { s.cutState c o with xpMap := (s.cutState c o).remapMap c }.loseRobot o.robot

theorem limitCut_eq (s : State) (c : Nat) (o : Operation) :
    s.limitCut c o = { s.cutState c o with
      xpMap := (s.cutState c o).remapMap c, roster := (s.limitCut c o).roster } := by
  unfold limitCut loseRobot modRobot
  split <;> rfl

section
variable {s : State} {c : Nat} {o : Operation} {r : Robot}

theorem limitCut_rest : { s.limitCut c o with
    columns := s.columns, handovers := s.handovers, audit := s.audit, xpMap := s.xpMap,
    roster := s.roster } = s := by
  rw [limitCut_eq]
  exact congrArg (fun v : State => { v with xpMap := s.xpMap, roster := s.roster })
    (s.cutState_rest c o)

theorem limitCut_zones : (s.limitCut c o).zones = s.zones :=
  (congrArg State.zones (limitCut_rest (s := s) (c := c) (o := o)) :)

theorem limitCut_columns : (s.limitCut c o).columns = (s.cutState c o).columns := by
  rw [limitCut_eq]

theorem limitCut_col (e : Nat) : (s.limitCut c o).col e = (s.cutState c o).col e := by
  rw [limitCut_eq]
  rfl

theorem limitCut_handovers : (s.limitCut c o).handovers = (s.cutState c o).handovers := by
  rw [limitCut_eq]

theorem limitCut_suspends (e : Nat) : (s.limitCut c o).suspends e = (s.cutState c o).suspends e := by
  rw [limitCut_eq]
  rfl

theorem limitCut_robot_same (known : s.robot o.robot = some r) :
    (s.limitCut c o).robot o.robot = some { r with state := .lost, readyTimer := none } := by
  have there : ({ s.cutState c o with xpMap := (s.cutState c o).remapMap c } : State).robot o.robot =
      some r := ((s.cutState_frame c o).robot o.robot).trans known
  rw [limitCut, loseRobot, robot_modRobot_same, there]
  rfl

theorem limitCut_robot_ne {e : Nat} (h : e ≠ o.robot) : (s.limitCut c o).robot e = s.robot e := by
  rw [limitCut, loseRobot, robot_modRobot_ne _ h]
  exact (s.cutState_frame c o).robot e

/-- The notices of an operation limit, those of the cut-off after ROBOT_LOST (04, R101). -/
def limitNotices (s : State) (c : Nat) (o : Operation) (r : Robot) : List NoticeBody :=
  .robotLost o.robot r.serial .opLimit c r.slot ::
    .columnSuspect c (s.mappedBy c) .opLimit o.robot ::
      (s.cutFails c ++ (s.cutState c o).remapNotices c)

theorem limitExpired_eq (op : (s.col c).op = some o) (known : s.robot o.robot = some r) :
    s.limitExpired c o =
      (((s.limitCut c o).endGrant c).notifyAll (s.limitNotices c o r)).handOn c := by
  have lost : ((s.limitCut c o).endGrant c).robotLostNotice o.robot .opLimit c =
      .robotLost o.robot r.serial .opLimit c r.slot := by
    rw [robotLostNotice, (BlockFrame.endGrant (s.limitCut c o) c).robot, limitCut_robot_same known]
    rfl
  unfold limitExpired
  rw [cutOff_eq .opLimit op]
  exact congrArg (fun b : NoticeBody => (((s.limitCut c o).endGrant c).notifyAll
    (b :: .columnSuspect c (s.mappedBy c) .opLimit o.robot ::
      (s.cutFails c ++ (s.cutState c o).remapNotices c))).handOn c) lost

/-- With no transition under way: the state that is handed on. -/
def limitFreed (s : State) (c : Nat) (o : Operation) (r : Robot) : State :=
  ((s.limitCut c o).modCol c fun k => { k with grant := none }).notifyAll (s.limitNotices c o r)

theorem limitFreed_rest : { s.limitFreed c o r with link := (s.limitCut c o).link } =
    (s.limitCut c o).modCol c fun k => { k with grant := none } :=
  notifyAll_rest _ _

theorem limitFreed_col (e : Nat) : (s.limitFreed c o r).col e =
    ((s.limitCut c o).modCol c fun k => { k with grant := none }).col e :=
  (congrArg (fun v : State => v.col e) (limitFreed_rest (s := s) (c := c) (o := o) (r := r)) :)

theorem limitFreed_col_same (lt : c < s.columns.length) :
    (s.limitFreed c o r).col c = { (s.limitCut c o).col c with grant := none } := by
  have size : c < (s.limitCut c o).columns.length := by
    rw [limitCut_columns, (s.cutState_frame c o).toFrame.columns_length]
    exact lt
  rw [limitFreed_col, col_modCol_same _ size]

theorem limitFreed_col_ne {e : Nat} (h : e ≠ c) : (s.limitFreed c o r).col e = s.col e := by
  rw [limitFreed_col, col_modCol_ne _ h, limitCut_col, cutState_col_ne h]

theorem limitFreed_zones : (s.limitFreed c o r).zones = s.zones :=
  (congrArg State.zones (limitFreed_rest (s := s) (c := c) (o := o) (r := r)) :).trans limitCut_zones

theorem limitFreed_permitted (lt : c < s.columns.length) (k : Cls) :
    (s.limitFreed c o r).permitted c k = s.permitted c k := by
  refine permitted_congr limitFreed_zones ?_ k
  have defn : (s.limitFreed c o r).defn c = (s.limitCut c o).defn c :=
    (congrArg Column.defn (limitFreed_col_same (o := o) (r := r) lt) :)
  have cut : (s.limitCut c o).defn c = (s.cutState c o).defn c := congrArg Column.defn (limitCut_col c)
  rw [defn, cut]
  exact (s.cutState_frame c o).toFrame.defn c

theorem limitCut_link : (s.limitCut c o).link = s.link :=
  (congrArg State.link (limitCut_rest (s := s) (c := c) (o := o)) :)

theorem limitCut_time : (s.limitCut c o).time = s.time :=
  (congrArg State.time (limitCut_rest (s := s) (c := c) (o := o)) :)

theorem limitFreed_link : (s.limitFreed c o r).link = (s.notifyAll (s.limitNotices c o r)).link :=
  notifyAll_link _ limitCut_link limitCut_time

theorem limitFreed_params : (s.limitFreed c o r).params = s.params :=
  (congrArg State.params (limitFreed_rest (s := s) (c := c) (o := o) (r := r)) :).trans
    (congrArg State.params (limitCut_rest (s := s) (c := c) (o := o)) :)

theorem limitFreed_waits (lt : c < s.columns.length) :
    ((s.limitFreed c o r).col c).waits = (s.col c).waits := by
  rw [limitFreed_col_same lt, limitCut_col, cutState_col_same lt]
  rfl

end

end State

theorem exec_operationLimitExpiry {s : State} {c : Nat} {o : Operation}
    (op : (s.col c).op = some o) :
    exec (.operationLimitExpiry c) s =
      if o.limit = 0 then .next (s.limitExpired c o).startTx else .next s := by
  show execOperationLimitExpiry c s = _
  unfold execOperationLimitExpiry
  rw [op]
  rfl

/-- Settles O42: the cut-off, the robot and the notices, then the end of the grant and the hand-on. -/
theorem operationLimitCutsOff : Obligations.OperationLimitCutsOff := by
  unfold Obligations.OperationLimitCutsOff
  intro c d o r s defn op known nodup
  have lt := s.lt_of_defn defn
  refine ⟨fun early => (exec_operationLimitExpiry op).trans (if_neg early), fun due => ?_⟩
  intro k called spare
  have zone : s.zoneOf c = d.zone := State.zoneOf_defined defn
  have spares : s.spareIn (s.zoneOf c) = spare := by rw [State.spareIn_eq_find, zone]
  have col := State.cutState_col_same (o := o) lt
  have inbound : ((s.limitCut c o).col c).inbound = if o.inboundTaken then false else k.inbound := by
    rw [State.limitCut_col, col]
    rfl
  have reserved : (s.limitCut c o).reservations c = (s.cutState c o).reservations c :=
    congrArg (List.countP _) State.limitCut_handovers
  refine ⟨s.limitCut c o, ?_⟩
  intro fails remaps notices t
  have isFails : s.cutFails c = fails := by
    unfold State.cutFails
    rw [zone]
  have isRemaps : (s.cutState c o).remapNotices c = remaps := by
    rewrite [State.cutState_remapNotices lt, spares]
    show _ = (match s.mappedBy c with | some x => _ | none => _)
    rewrite [reserved, inbound]
    cases s.mappedBy c <;> rfl
  have isNotices : s.limitNotices c o r = notices := by
    rw [State.limitNotices, isFails, isRemaps]
  have expired : s.limitExpired c o =
      (((s.limitCut c o).endGrant c).notifyAll notices).handOn c := by
    rw [State.limitExpired_eq op known, isNotices]
  have audit : (s.limitCut c o).audit = s.callEnded c := by
    rw [State.limitCut_eq]
    rfl
  have xpMap : (s.limitCut c o).xpMap = (s.cutState c o).remapMap c := by
    rw [State.limitCut_eq]
  have record : ∀ n, (s.limitCut c o).handover n = (s.cutState c o).handover n :=
    State.handover_congr State.limitCut_handovers
  have suspends : (s.limitCut c o).suspends = (s.cutState c o).suspends :=
    funext State.limitCut_suspends
  refine ⟨(exec_operationLimitExpiry op).trans ((if_pos due).trans
      (congrArg (fun u : State => Host.Outcome.next u.startTx) expired)),
    (State.limitCut_col c).trans col,
    fun e ne => (State.limitCut_col e).trans (State.cutState_col_ne ne), State.limitCut_zones,
    State.limitCut_link, ?_, audit, State.limitCut_robot_same known,
    fun e ne => State.limitCut_robot_ne ne, fun n q st here prior => ?_,
    (State.limitCut_suspends c).trans (State.cutState_suspends_same lt), fun n q here other => ?_,
    fun still => ?_⟩
  · rewrite [xpMap, State.cutState_remapMap lt, isRemaps, spares]
    cases s.mappedBy c <;> rfl
  · intro parks held
    rw [record, State.cutState_handover_prior lt nodup here prior, Handover.returned, Bool.or_true,
      ← suspends]
  · rw [record, State.cutState_handover_other lt nodup here other]
  · have tail : t = ((s.limitFreed c o r).handOn c).startTx := by
      show ((((s.limitCut c o).endGrant c).notifyAll notices).handOn c).startTx = _
      rw [State.endGrant_still ((congrArg ZoneCtl.trans State.limitCut_zones).trans still), ← isNotices]
      rfl
    have handedOn := (BlockFrame.handOn (s.limitFreed c o r) c)
    have freed := State.limitFreed_rest (s := s) (c := c) (o := o) (r := r)
    have roster : (s.limitFreed c o r).roster = (s.limitCut c o).roster :=
      (congrArg State.roster freed :)
    have handovers : (s.limitFreed c o r).handovers = (s.limitCut c o).handovers :=
      (congrArg State.handovers freed :)
    have waits := State.limitFreed_waits (s := s) (c := c) (o := o) (r := r) lt
    have permitted := State.limitFreed_permitted (s := s) (c := c) (o := o) (r := r) lt
    have free : ((s.limitFreed c o r).col c).grant = none :=
      congrArg Column.grant (State.limitFreed_col_same lt)
    have params := State.limitFreed_params (s := s) (c := c) (o := o) (r := r)
    have column : ∀ e, t.col e = ((s.limitFreed c o r).handOn c).col e := fun e => by
      rw [tail]
      rfl
    refine ⟨?_, ?_, ?_, ?_, fun e ne => ?_, fun never => ?_,
      fun front w rest split below permits => ⟨?_, ?_⟩⟩
    · rw [tail, State.startTx_zones, State.handOn_zones, State.limitFreed_zones]
    · rw [tail]
      exact handedOn.roster.trans roster
    · rw [tail, State.startTx_handovers, State.handOn_handovers, handovers]
    · rw [tail, State.startTx_link_notices, State.handOn_notices, State.limitFreed_link, isNotices]
    · rw [column, State.handOn_col_ne ne, State.limitFreed_col_ne ne]
    · rw [column, State.handOn_none, State.limitFreed_col_same lt]
      intro w hw
      rw [waits] at hw
      exact (permitted w.cls).trans (never w hw)
    · rw [column, State.handOn_col_first free (waits.trans split)
        (fun v hv => (permitted v.cls).trans (below v hv)) ((permitted w.cls).trans permits),
        State.limitFreed_col_same lt, params]
    · rw [tail, State.startTx_link_fleet, State.handOn_first free (waits.trans split)
        (fun v hv => (permitted v.cls).trans (below v hv)) ((permitted w.cls).trans permits),
        State.makeGrant_eq, State.modCol_params, params]
      refine State.send_fleet_congr ?_ _ _
      exact (congrArg LinkUnit.fleet State.limitFreed_link).trans (State.notifyAll_fleet _ _)

end Sys2Proof.Machine
end

section
/-! PROOFS. What the grid hold takes from one column (08, R168; 03, R74; 04, R100). -/

namespace Sys2Proof.Machine

namespace State

/-- The notices of a cut-off (04, R100; 06, R135; 01, R20). -/
def cutNotices (s : State) (c : Nat) (cause : SuspectCause) (o : Operation) : List NoticeBody :=
  .columnSuspect c (s.mappedBy c) cause o.robot ::
    (s.cutFails c ++ (s.cutState c o).remapNotices c)

/-- A column whose operation is cut off and whose grant is gone (08, R168). -/
def holdCut (s : State) (c : Nat) (o : Operation) : State :=
  (({ s.cutState c o with xpMap := (s.cutState c o).remapMap c } : State).notifyAll
    (s.cutNotices c .hold o)).modCol c fun k => { k with grant := none }

theorem refuseWaits_foldl (s : State) (c : Nat) (r : Status) (ws : List WaitReq)
    (h : (s.col c).waits = ws) :
    s.refuseWaits c r = ws.foldl (fun v w => v.send w.robot (.refused r (.column c)))
      (s.modCol c fun k => { k with waits := [] }) := by
  rw [← h]
  rfl

theorem foldl_refused (s : State) (c : Nat) (r : Status) (ws : List WaitReq) :
    ws.foldl (fun v w => v.send w.robot (.refused r (.column c))) s =
      s.sendAll (ws.map fun w => (w.robot, .refused r (.column c))) :=
  (List.foldl_map (l := ws) (f := fun w : WaitReq => (w.robot, FleetMsg.refused r (.column c)))
    (g := fun (u : State) f => u.send f.1 f.2)).symm

/-- An idle column loses its grant and its list (08, R168; 03, R74). -/
theorem holdColumn_idle {s : State} {c : Nat} (idle : (s.col c).op = none) :
    s.holdColumn c = (s.col c).waits.foldl
      (fun v w => v.send w.robot (.refused .holdActive (.column c)))
      (s.modCol c fun k => { k with grant := none, waits := [] }) := by
  have whole : (s.cutOff c .hold).emit = s := by
    unfold cutOff
    rw [idle]
    rfl
  have waits : ((s.modCol c fun q => { q with grant := none }).col c).waits = (s.col c).waits :=
    s.col_modCol_proj (·.waits) c c _ fun _ => rfl
  unfold holdColumn
  rw [whole, refuseWaits_foldl _ _ _ _ waits, modCol_modCol]
  rfl

theorem holdColumn_working {s : State} {c : Nat} {o : Operation} (op : (s.col c).op = some o) :
    s.holdColumn c = (s.holdCut c o).refuseWaits c .holdActive := by
  unfold holdColumn
  rw [cutOff_eq .hold op]
  rfl

section
variable {s : State} {c : Nat} {o : Operation}

theorem holdCut_rest : { s.holdCut c o with
    columns := s.columns, handovers := s.handovers, audit := s.audit, xpMap := s.xpMap,
    link := s.link } = s := by
  have cut := congrArg (fun v : State => { v with xpMap := s.xpMap }) (s.cutState_rest c o)
  have told := notifyAll_rest { s.cutState c o with xpMap := (s.cutState c o).remapMap c }
    (s.cutNotices c .hold o)
  exact (congrArg (fun v : State => { v with
    columns := s.columns, handovers := s.handovers, audit := s.audit, xpMap := s.xpMap,
    link := s.link }) told).trans (congrArg (fun v : State => { v with link := s.link }) cut)

theorem holdCut_told : { s.holdCut c o with link := s.link } =
    { s.cutState c o with xpMap := (s.cutState c o).remapMap c, link := s.link }.modCol c
      fun k => { k with grant := none } :=
  congrArg (fun v : State => { v.modCol c fun k => { k with grant := none } with link := s.link })
    (notifyAll_rest { s.cutState c o with xpMap := (s.cutState c o).remapMap c }
      (s.cutNotices c .hold o))

theorem holdCut_columns : (s.holdCut c o).columns =
    ((s.cutState c o).modCol c fun k => { k with grant := none }).columns :=
  (congrArg State.columns (holdCut_told (s := s) (c := c) (o := o)) :)

theorem holdCut_col (e : Nat) :
    (s.holdCut c o).col e = ((s.cutState c o).modCol c fun k => { k with grant := none }).col e :=
  (congrArg (fun v : State => v.col e) (holdCut_told (s := s) (c := c) (o := o)) :)

theorem holdCut_col_same (lt : c < s.columns.length) :
    (s.holdCut c o).col c = { (s.cutState c o).col c with grant := none } := by
  have size : c < (s.cutState c o).columns.length := by
    rw [(s.cutState_frame c o).toFrame.columns_length]
    exact lt
  rw [holdCut_col, col_modCol_same _ size]

theorem holdCut_col_ne {e : Nat} (h : e ≠ c) : (s.holdCut c o).col e = s.col e := by
  rw [holdCut_col, col_modCol_ne _ h, cutState_col_ne h]

theorem holdCut_columns_length : (s.holdCut c o).columns.length = s.columns.length := by
  rw [holdCut_columns, modCol_columns, updateAt_length,
    (s.cutState_frame c o).toFrame.columns_length]

theorem holdCut_handovers : (s.holdCut c o).handovers = (s.cutState c o).handovers :=
  (congrArg State.handovers (holdCut_told (s := s) (c := c) (o := o)) :)

theorem holdCut_audit : (s.holdCut c o).audit = s.callEnded c :=
  (congrArg State.audit (holdCut_told (s := s) (c := c) (o := o)) :)

theorem holdCut_xpMap : (s.holdCut c o).xpMap = (s.cutState c o).remapMap c :=
  (congrArg State.xpMap (holdCut_told (s := s) (c := c) (o := o)) :)

theorem holdCut_link : (s.holdCut c o).link = (s.notifyAll (s.cutNotices c .hold o)).link :=
  notifyAll_link _ (congrArg State.link (s.cutState_rest c o) :)
    (congrArg State.time (s.cutState_rest c o) :)

theorem holdCut_waits (lt : c < s.columns.length) :
    ((s.holdCut c o).col c).waits = (s.col c).waits := by
  rw [holdCut_col_same lt, cutState_col_same lt]
  rfl

theorem refuseWaits_rest (s : State) (c : Nat) (r : Status) :
    { s.refuseWaits c r with columns := s.columns, link := s.link } = s := by
  rw [refuseWaits_eq]
  exact congrArg (fun v : State => { v with columns := s.columns, link := s.link })
    ((s.modCol c fun q => { q with waits := [] }).sendAll_rest (s.refusals r c))

theorem holdColumn_col_working (op : (s.col c).op = some o) (lt : c < s.columns.length) :
    (s.holdColumn c).col c = { (s.cutState c o).col c with grant := none, waits := [] } := by
  rw [holdColumn_working op, refuseWaits_col_same (by rw [holdCut_columns_length]; exact lt),
    holdCut_col_same lt]

theorem holdColumn_col_idle (idle : (s.col c).op = none) :
    (s.holdColumn c).col c = { s.col c with grant := none, waits := [] } := by
  rw [holdColumn_idle idle, foldl_refused, sendAll_col]
  by_cases lt : c < s.columns.length
  · rw [s.col_modCol_same lt]
  · have out : ∀ u : State, u.columns.length = s.columns.length → u.col c = Column.blank :=
      fun u h => u.col_of_length_le (by omega)
    rw [out (s.modCol c _) (by simp), out s rfl]
    rfl

theorem holdColumn_col_ne {e : Nat} (h : e ≠ c) : (s.holdColumn c).col e = s.col e := by
  cases op : (s.col c).op with
  | none => rw [holdColumn_idle op, foldl_refused, sendAll_col, s.col_modCol_ne h]
  | some o => rw [holdColumn_working op, refuseWaits_col_ne h, holdCut_col_ne h]

end

section
variable {s : State} {c : Nat} {o : Operation} (op : (s.col c).op = some o)
include op

theorem lt_of_op : c < s.columns.length :=
  s.lt_of_col_ne fun e => by
    rw [e] at op
    exact absurd op (by simp [Column.blank])

theorem holdColumn_handovers : (s.holdColumn c).handovers = (s.cutState c o).handovers := by
  rw [holdColumn_working op, refuseWaits_handovers, holdCut_handovers]

theorem holdColumn_reservations : (s.holdColumn c).reservations c = (s.cutState c o).reservations c :=
  congrArg (List.countP _) (holdColumn_handovers op)

theorem holdColumn_zones : (s.holdColumn c).zones = s.zones := by
  rw [holdColumn_working op]
  have refused : ((s.holdCut c o).refuseWaits c .holdActive).zones = (s.holdCut c o).zones :=
    (congrArg State.zones ((s.holdCut c o).refuseWaits_rest c .holdActive) :)
  exact refused.trans (congrArg State.zones (holdCut_rest (s := s) (c := c) (o := o)) :)

theorem holdColumn_audit : (s.holdColumn c).audit = s.callEnded c := by
  rw [holdColumn_working op]
  have refused : ((s.holdCut c o).refuseWaits c .holdActive).audit = (s.holdCut c o).audit :=
    (congrArg State.audit ((s.holdCut c o).refuseWaits_rest c .holdActive) :)
  exact refused.trans holdCut_audit

theorem holdColumn_xpMap : (s.holdColumn c).xpMap = (s.cutState c o).remapMap c := by
  rw [holdColumn_working op]
  have refused : ((s.holdCut c o).refuseWaits c .holdActive).xpMap = (s.holdCut c o).xpMap :=
    (congrArg State.xpMap ((s.holdCut c o).refuseWaits_rest c .holdActive) :)
  exact refused.trans holdCut_xpMap

theorem holdColumn_link :
    (s.holdColumn c).link =
      ((s.col c).waits.foldl (fun v w => v.send w.robot (.refused .holdActive (.column c)))
        (s.notifyAll (s.cutNotices c .hold o))).link := by
  have lt := lt_of_op op
  rw [holdColumn_working op, refuseWaits_foldl _ _ _ _ (holdCut_waits lt), foldl_refused,
    foldl_refused]
  exact sendAll_link_congr _ holdCut_link

theorem holdColumn_suspends (e : Nat) : (s.holdColumn c).suspends e = (s.cutState c o).suspends e := by
  refine suspends_congr ((holdColumn_zones op).trans cutState_zones.symm) ?_ ?_
  · exact ((BlockFrame.holdColumn s c).toFrame.defn e).trans
      ((s.cutState_frame c o).toFrame.defn e).symm
  · by_cases h : e = c
    · subst h
      rw [holdColumn_col_working op (lt_of_op op)]
    · rw [holdColumn_col_ne h, cutState_col_ne h]

end

end State

end Sys2Proof.Machine
end

section
/-! PROOFS. The hold transition begins, and GRID_HOLD as the outside moves it (08, R167 to R170). -/

namespace Sys2Proof.Machine

/-! ### GRID_HOLD -/

theorem gridHoldMoves_eq (s : State) (level : Bool) :
    s.gridHoldMoves level =
      if s.lines.gridHold.seen = level then s
      else { s with lines := { s.lines with gridHold := ⟨level, 0⟩ } } := by
  unfold State.gridHoldMoves Line.moved
  by_cases same : s.lines.gridHold.seen = level
  · rw [if_pos same, if_pos same.symm]
  · rw [if_neg same, if_neg (Ne.symm same)]

/-- The filter of GRID_HOLD takes each level but the one that is there, once steady (10, R196). -/
theorem takes_gridHold_iff {s : State} {level : Bool} :
    s.lines.gridHold.takes s.zones.hold level = true ↔
      s.zones.hold = !level ∧ 2 ≤ s.lines.gridHold.steady := by
  have either : ∀ hold seen : Bool, level ≠ hold ∧ (seen = level ∨ seen = hold) ↔ hold = !level := by
    cases level <;> decide
  rw [Line.takes_iff, ← either s.zones.hold s.lines.gridHold.seen]
  show _ ∧ 2 ≤ _ ∧ _ ↔ _
  tauto

theorem exec_gridHoldAsserted {s : State} (off : s.zones.hold = false)
    (steady : 2 ≤ s.lines.gridHold.steady) :
    exec .gridHoldAsserted s = .next (s.takeGridHold true).assertHold.startTx :=
  if_pos (takes_gridHold_iff.mpr ⟨off, steady⟩)

theorem exec_gridHoldAsserted_not {s : State}
    (h : s.zones.hold = true ∨ ¬2 ≤ s.lines.gridHold.steady) :
    exec .gridHoldAsserted s = .next s := by
  refine if_neg fun takes => ?_
  obtain ⟨off, steady⟩ := takes_gridHold_iff.mp takes
  rcases h with on | early
  · rw [on] at off
    exact absurd off (by decide)
  · exact early steady

theorem exec_gridHoldReleased {s : State} (on : s.zones.hold = true)
    (steady : 2 ≤ s.lines.gridHold.steady) :
    exec .gridHoldReleased s = .next (s.takeGridHold false).releaseHold.startTx :=
  if_pos (takes_gridHold_iff.mpr ⟨on, steady⟩)

theorem exec_gridHoldReleased_not {s : State}
    (h : s.zones.hold = false ∨ ¬2 ≤ s.lines.gridHold.steady) :
    exec .gridHoldReleased s = .next s := by
  refine if_neg fun takes => ?_
  obtain ⟨on, steady⟩ := takes_gridHold_iff.mp takes
  rcases h with off | early
  · rw [off] at on
    exact absurd on (by decide)
  · exact early steady

namespace State

theorem assertHold_unconfigured {s : State} (h : s.sectionState = .unconfigured) :
    s.assertHold = (s.modZones fun q => { q with hold := true }).notify
      (.holdAsserted .unconfigured) := by
  unfold assertHold
  simp [running, h]

theorem assertHold_none {s : State} (h : s.sectionState = .running) (trans : s.zones.trans = none) :
    s.assertHold = ((s.modZones fun q => { q with hold := true }).notify
      (.holdAsserted .none)).beginHold := by
  unfold assertHold
  rw [trans]
  simp [running, h]

theorem assertHold_changing {s : State} {t : Transition} (h : s.sectionState = .running)
    (trans : s.zones.trans = some t) (changing : t.state = .changing) :
    s.assertHold =
      match t.kind with
      | .normal => ((s.modZones fun q => { q with hold := true }).modZones fun q =>
          { q with holdPending := true }).notify (.holdAsserted .changingNormal)
      | .hold => (s.modZones fun q => { q with hold := true }).notify
          (.holdAsserted .changingHold) := by
  unfold assertHold
  rw [trans]
  cases kind : t.kind <;> simp [running, h, changing, kind]

theorem assertHold_waiting {s : State} {t : Transition} (h : s.sectionState = .running)
    (trans : s.zones.trans = some t) (waiting : t.state = .waiting) :
    s.assertHold = ((((s.modZones fun q => { q with hold := true }).modZones fun q =>
      { q with trans := none }).notify (.holdAsserted .waiting)).notify
        (.requestOvertaken t.requester t.targets)).beginHold := by
  unfold assertHold
  rw [trans]
  simp [running, h, waiting]

/-! ### The hold begins -/

/-- The hold transition is the one under way (08, R168). -/
def holdBegun (s : State) : State :=
  s.modZones fun q =>
    { q with
      trans := some ⟨.changing, .hold, Quad.same .closed, Quad.same 0, .hold, false, none⟩
      holdPending := false }

/-- Every column's operation, grant and list are gone (08, R168). It is unfolded by its equation
alone: 96 columns are too many to compute with. -/
@[irreducible] def holdCleared (s : State) : State := (List.range 96).foldl holdColumn s.holdBegun

theorem holdCleared_eq (s : State) :
    s.holdCleared = (List.range 96).foldl holdColumn s.holdBegun := by
  delta holdCleared
  exact rfl

/-- CLOSED is driven in every zone, and every deadline on a column is SUSPENDED (08, R168). -/
def holdDriven (s : State) : State :=
  { s.holdCleared with
    zones := { s.holdCleared.zones with driven := Quad.same .closed }
    handovers := s.holdCleared.handovers.map fun h =>
      if h.column = none then h
      else
        { h with
          deadline := h.deadline.map fun e =>
            if e.cond = .stopped then e else { e with cond := .suspended } } }

theorem holdCleared_zones (s : State) : s.holdCleared.zones = s.holdBegun.zones := by
  rw [holdCleared_eq]
  exact foldl_keeps (fun u : State => u.zones = s.holdBegun.zones) holdColumn _ _ rfl fun _ c _ h =>
    (zones_blockKept s.holdBegun.zones).holdColumn c h

theorem holdCleared_frame (s : State) : BlockFrame s.holdBegun s.holdCleared := by
  rw [holdCleared_eq]
  exact BlockFrame.foldl holdColumn BlockFrame.holdColumn _ _

/-- The hold transition suspends the deadlines on every column (02, R43). -/
theorem hold_suspends {s : State} {t : Transition} (trans : s.zones.trans = some t)
    (changing : t.state = .changing) (hold : t.kind = .hold) (closed : t.targets = Quad.same .closed)
    (c : Nat) : s.suspends c = true := by
  have tightening : (s.suspendConds c).tightening = true := by
    unfold suspendConds
    simp [trans, tightensFor, changing, hold, closed, Mode.level]
  simp [suspends, tightening]

theorem beginHold_eq (s : State) :
    s.beginHold =
      if s.zones.ack = Quad.same .closed then s.holdDriven.completeHold else s.holdDriven := by
  have driven : (s.holdCleared.modZones fun q => { q with driven := Quad.same .closed }).judgeAll =
      s.holdDriven := by
    unfold judgeAll holdDriven modHandovers
    refine congrArg (fun hs : List Handover => { s.holdCleared with
      zones := { s.holdCleared.zones with driven := Quad.same .closed }, handovers := hs })
      (List.map_congr_left fun h _ => ?_)
    cases column : h.column with
    | none => exact if_neg (by simp [column])
    | some c =>
      have sus : (s.holdCleared.modZones fun q => { q with driven := Quad.same .closed }).suspends c
          = true := by
        refine hold_suspends (t := ⟨.changing, .hold, Quad.same .closed, Quad.same 0, .hold, false,
          none⟩) ?_ rfl rfl rfl c
        rw [modZones_zones, holdCleared_zones]
        rfl
      refine (if_pos (by simp [column])).trans ((judged_suspended column sus).trans ?_)
      rw [if_neg (by simp), column]
  have ack : s.holdDriven.zones.ack = s.zones.ack := by
    show s.holdCleared.zones.ack = _
    rw [holdCleared_zones]
    rfl
  have echo : s.holdDriven.allEcho = true ↔ s.zones.ack = Quad.same .closed := by
    rw [allEcho_iff, ack]
    rfl
  have unfolded : s.beginHold =
      if (s.holdCleared.modZones fun q => { q with driven := Quad.same .closed }).judgeAll.allEcho then
        (s.holdCleared.modZones fun q => { q with driven := Quad.same .closed }).judgeAll.completeHold
      else (s.holdCleared.modZones fun q => { q with driven := Quad.same .closed }).judgeAll := by
    rw [holdCleared_eq]
    rfl
  rw [unfolded, driven]
  exact if_congr echo rfl rfl

/-! ### The columns of the hold -/

/-- A column the hold has cleared (08, R168). -/
def HoldsNothing (k before : Column) : Prop :=
  k.op = none ∧ k.grant = none ∧ k.waits = [] ∧ k.stack = before.stack ∧
    k.retired = before.retired ∧
    k.causes = ⟨before.causes.discrepancy, before.causes.suspect || before.op.isSome,
      before.causes.zone⟩

theorem holdColumn_holdsNothing (s : State) (c : Nat) :
    HoldsNothing ((s.holdColumn c).col c) (s.col c) := by
  cases op : (s.col c).op with
  | none =>
    rw [holdColumn_col_idle op]
    exact ⟨op, rfl, rfl, rfl, rfl, by simp [op]⟩
  | some o =>
    rw [holdColumn_col_working op (lt_of_op op), cutState_col_same (lt_of_op op)]
    refine ⟨rfl, rfl, rfl, rfl, rfl, ?_⟩
    simp [unverifiedIf, op]

theorem holdCleared_col {s : State} {c : Nat} (hc : c < 96) :
    HoldsNothing (s.holdCleared.col c) (s.col c) := by
  obtain ⟨u, -, before, after⟩ := foldl_at (fun _ => True) (fun u => u.col c) (f := holdColumn)
    (s := s.holdBegun) List.nodup_range (List.mem_range.mpr hc) trivial (fun _ _ _ _ => trivial)
    fun _ _ _ _ h => holdColumn_col_ne h.symm
  have start : s.holdBegun.col c = s.col c := rfl
  have done := holdColumn_holdsNothing u c
  rw [before, start] at done
  rw [holdCleared_eq, after]
  exact done

/-! ### The records of the hold -/

/-- What the hold does to a record: its custody stays, and it turns uncertain with an operation
that names it (08, R168; 02, R53). -/
structure HeldBack (touched : Prop) (h k : Handover) : Prop where
  custody : k.custody = h.custody
  column : k.column = h.column
  taker : k.taker = h.taker
  stays : h.uncertain = true → k.uncertain = true
  marked : touched → k.uncertain = true
  unmarked : ¬touched → k.uncertain = h.uncertain ∧ k.state = h.state

theorem HeldBack.trans {p q r : Prop} {h k m : Handover} (a : HeldBack p h k) (b : HeldBack q k m)
    (or : r ↔ p ∨ q) : HeldBack r h m where
  custody := b.custody.trans a.custody
  column := b.column.trans a.column
  taker := b.taker.trans a.taker
  stays u := b.stays (a.stays u)
  marked t := (or.mp t).elim (fun p => b.stays (a.marked p)) b.marked
  unmarked t := by
    have no := mt or.mpr t
    obtain ⟨first, state⟩ := a.unmarked fun p => no (.inl p)
    obtain ⟨second, state'⟩ := b.unmarked fun q => no (.inr q)
    exact ⟨second.trans first, state'.trans state⟩

theorem HeldBack.deadline (h : Handover) (d : Option Deadline) (p : Prop) (no : ¬p) :
    HeldBack p h { h with deadline := d } where
  custody := rfl
  column := rfl
  taker := rfl
  stays u := u
  marked t := absurd t no
  unmarked _ := ⟨rfl, rfl⟩

theorem returnList_heldBack {l : List (Nat × HandoverState)} {n : Nat} :
    ∀ {s : State} {h : Handover}, s.handover n = some h →
      ∃ k, (l.foldl (returnRecord true) s).handover n = some k ∧
        HeldBack (n ∈ l.map Prod.fst) h k := by
  induction l with
  | nil => exact fun {s h} known => ⟨h, known, HeldBack.deadline h h.deadline _ (by simp)⟩
  | cons p l ih =>
    intro s h known
    have number : ∀ k : Handover, (k.returned p.2 true s.suspends).number = k.number := fun _ => rfl
    by_cases same : n = p.1
    · have now : (returnRecord true s p).handover n = some (h.returned p.2 true s.suspends) := by
        rw [returnRecord_eq, same, s.handover_modHandover_same p.1 _ number, ← same, known]
        rfl
      obtain ⟨k, there, back⟩ := ih now
      have first : HeldBack True h (h.returned p.2 true s.suspends) :=
        ⟨rfl, rfl, rfl, fun _ => Bool.or_true _, fun _ => Bool.or_true _, fun no => absurd trivial no⟩
      exact ⟨k, there, first.trans back (by simp [same])⟩
    · have now : (returnRecord true s p).handover n = some h := by
        rw [returnRecord_eq, s.handover_modHandover_ne same _ number, known]
      obtain ⟨k, there, back⟩ := ih now
      exact ⟨k, there, (HeldBack.deadline h h.deadline False id).trans back (by simp [same])⟩

theorem holdColumn_heldBack {s : State} {c n : Nat} {h : Handover} (known : s.handover n = some h) :
    ∃ k, (s.holdColumn c).handover n = some k ∧
      HeldBack (∃ o st, (s.col c).op = some o ∧ (n, st) ∈ o.priors) h k := by
  cases op : (s.col c).op with
  | none =>
    refine ⟨h, ?_, HeldBack.deadline h h.deadline _ (by simp)⟩
    rw [holdColumn_idle op, foldl_refused]
    have sent := sendAll_rest (s.modCol c fun k => { k with grant := none, waits := [] })
      ((s.col c).waits.map fun w => (w.robot, .refused .holdActive (.column c)))
    exact (handover_congr (congrArg State.handovers sent :) n).trans known
  | some o =>
    obtain ⟨k, there, back⟩ := returnList_heldBack (l := o.priors) known
    have touched : (∃ o' st, some o = some o' ∧ (n, st) ∈ o'.priors) ↔ n ∈ o.priors.map Prod.fst := by
      simp
    have after := cutState_handover_eq (c := c) (lt_of_op op) there
    rw [handover_congr (holdColumn_handovers op), after]
    refine ⟨_, rfl, back.trans (q := False) ?_ (by simp)⟩
    split
    · exact HeldBack.deadline k _ False id
    · exact HeldBack.deadline k k.deadline False id

theorem holdColumns_heldBack {n : Nat} : ∀ {l : List Nat} {s : State} {h : Handover}, l.Nodup →
    s.handover n = some h →
      ∃ k, (l.foldl holdColumn s).handover n = some k ∧
        HeldBack (∃ c o st, c ∈ l ∧ (s.col c).op = some o ∧ (n, st) ∈ o.priors) h k := by
  intro l
  induction l with
  | nil => exact fun {s h} _ known => ⟨h, known, HeldBack.deadline h h.deadline _ (by simp)⟩
  | cons c l ih =>
    intro s h nodup known
    obtain ⟨fresh, nodup⟩ := List.nodup_cons.mp nodup
    obtain ⟨k, now, first⟩ := holdColumn_heldBack (c := c) known
    obtain ⟨m, there, back⟩ := ih nodup now
    refine ⟨m, there, first.trans back ?_⟩
    have same : ∀ e ∈ l, (s.holdColumn c).col e = s.col e := fun e he =>
      holdColumn_col_ne fun k => fresh (k ▸ he)
    constructor
    · rintro ⟨e, o, st, mem, op, prior⟩
      rcases List.mem_cons.mp mem with rfl | later
      · exact .inl ⟨o, st, op, prior⟩
      · exact .inr ⟨e, o, st, later, by rw [same e later]; exact op, prior⟩
    · rintro (⟨o, st, op, prior⟩ | ⟨e, o, st, mem, op, prior⟩)
      · exact ⟨c, o, st, List.mem_cons_self, op, prior⟩
      · exact ⟨e, o, st, List.mem_cons_of_mem _ mem, by rw [← same e mem]; exact op, prior⟩

theorem holdCleared_heldBack {s : State} {n : Nat} {h : Handover} (known : s.handover n = some h) :
    ∃ k, s.holdCleared.handover n = some k ∧
      HeldBack (∃ c o st, c < 96 ∧ (s.col c).op = some o ∧ (n, st) ∈ o.priors) h k := by
  have known' : s.holdBegun.handover n = some h := known
  rw [holdCleared_eq]
  obtain ⟨k, there, back⟩ := holdColumns_heldBack List.nodup_range known'
  simp only [List.mem_range] at back
  exact ⟨k, there, back⟩

end State

end Sys2Proof.Machine
end

section
/-! PROOFS. The grid hold as the obligation states it (08, R167 to R170). O54 is settled here. -/

namespace Sys2Proof.Machine

namespace State

/-- CLOSED driven on a state whose columns are cleared (08, R168). -/
def closedDriven (u : State) : State :=
  { u with
    zones := { u.zones with driven := Quad.same .closed }
    handovers := u.handovers.map fun h =>
      if h.column = none then h
      else
        { h with
          deadline := h.deadline.map fun e =>
            if e.cond = .stopped then e else { e with cond := .suspended } } }

theorem holdDriven_eq (s : State) :
    s.holdDriven = ((List.range 96).foldl holdColumn s.holdBegun).closedDriven :=
  congrArg closedDriven s.holdCleared_eq

/-- The state the hold leaves: driven, and completed where all four zones echo (08, R168, R169). -/
theorem beginHold_zones (s : State) :
    s.beginHold.zones =
      if s.zones.ack = Quad.same .closed then
        { s.zones with
          current := Quad.same .closed, driven := Quad.same .closed, trans := none
          holdPending := false }
      else
        { s.zones with
          driven := Quad.same .closed
          trans := some ⟨.changing, .hold, Quad.same .closed, Quad.same 0, .hold, false, none⟩
          holdPending := false } := by
  have driven : s.holdDriven.zones = { s.holdBegun.zones with driven := Quad.same .closed } :=
    congrArg (fun q : ZoneCtl => { q with driven := Quad.same .closed }) s.holdCleared_zones
  rw [beginHold_eq]
  split
  · rw [completeHold_zones, driven]
    rfl
  · rw [driven]
    rfl

theorem holdDriven_col (s : State) (c : Nat) : s.holdDriven.col c = s.holdCleared.col c := rfl

theorem beginHold_col {s : State} {c : Nat} (hc : c < 96) :
    (s.beginHold.col c).op = none ∧ (s.beginHold.col c).grant = none ∧
      (s.beginHold.col c).waits = [] ∧ (s.beginHold.col c).stack = (s.col c).stack ∧
      (s.beginHold.col c).retired = (s.col c).retired ∧
      (s.beginHold.col c).causes =
        ⟨(s.col c).causes.discrepancy, (s.col c).causes.suspect || (s.col c).op.isSome,
          (s.col c).causes.zone ||
            (decide (s.zones.ack = Quad.same .closed) && (s.defn c).isSome)⟩ := by
  obtain ⟨op, grant, waits, stack, retired, causes⟩ := holdCleared_col (s := s) hc
  have defn : s.holdDriven.defn c = s.defn c := (s.holdCleared_frame).toFrame.defn c
  rw [beginHold_eq]
  by_cases echo : s.zones.ack = Quad.same .closed
  · rw [if_pos echo, completeHold_eq]
    have col : (s.holdDriven.holdCompleted.notify (.modeChanged .hold s.holdDriven.zones.current
        (Quad.same .closed) ([0, 1, 2, 3].filter fun z => s.holdDriven.zones.current.get z != .closed)
        false)).col c = s.holdDriven.holdCompleted.col c := rfl
    rw [col, holdCompleted_col, holdDriven_col, defn]
    cases known : s.defn c with
    | none =>
      rw [if_neg (by simp)]
      exact ⟨op, grant, waits, stack, retired, by simp [causes]⟩
    | some d =>
      rw [if_pos ⟨hc, by simp⟩]
      exact ⟨op, grant, waits, stack, retired, by simp [Column.zoned, causes, echo]⟩
  · rw [if_neg echo, holdDriven_col]
    exact ⟨op, grant, waits, stack, retired, by simp [causes, echo]⟩

theorem closedDriven_handover {u : State} {n : Nat} {h : Handover} (known : u.handover n = some h) :
    ∃ d, u.closedDriven.handover n = some { h with deadline := d } := by
  have read := u.handover_modHandovers (fun h => h.column != none)
    (fun h => { h with
      deadline := h.deadline.map fun e =>
        if e.cond = .stopped then e else { e with cond := .suspended } }) n fun _ => rfl
  have same : u.closedDriven.handovers = (u.modHandovers (fun h => h.column != none)
      (fun h => { h with
        deadline := h.deadline.map fun e =>
          if e.cond = .stopped then e else { e with cond := .suspended } })).handovers :=
    List.map_congr_left fun h _ => by cases column : h.column <;> simp [column]
  rw [handover_congr same, read, known, Option.map_some]
  split
  · exact ⟨_, rfl⟩
  · exact ⟨h.deadline, rfl⟩

theorem beginHold_handover {s : State} {n : Nat} {h : Handover} (known : s.handover n = some h) :
    ∃ k, s.beginHold.handover n = some k ∧
      HeldBack (∃ c o st, c < 96 ∧ (s.col c).op = some o ∧ (n, st) ∈ o.priors) h k := by
  obtain ⟨k, cleared, back⟩ := holdCleared_heldBack known
  obtain ⟨d, driven⟩ := closedDriven_handover cleared
  have later : ∀ e : Option Deadline, HeldBack
      (∃ c o st, c < 96 ∧ (s.col c).op = some o ∧ (n, st) ∈ o.priors) h { k with deadline := e } :=
    fun e => back.trans (HeldBack.deadline k e False id) (by simp)
  rw [beginHold_eq]
  split
  · have done := holdCompleted_handover (s := s.holdDriven) driven
    refine ⟨_, Eq.trans (handover_congr (s := s.holdDriven.holdCompleted) rfl n) done, ?_⟩
    split
    · exact later _
    · exact later _
  · exact ⟨_, driven, later d⟩

/-- What the hold leaves when it begins in a state that differs from another one in its zones, its
lines and its link alone (08, R167, R168). -/
theorem hold_outcome {s pre : State}
    (rest : { pre with zones := s.zones, lines := s.lines, link := s.link } = s)
    (zones : pre.zones = { s.zones with hold := true, trans := none }) :
    (pre.beginHold.zones.hold = true ∧ pre.beginHold.zones.holdPending = false ∧
      pre.beginHold.zones.driven = Quad.same .closed ∧ pre.beginHold.zones.ack = s.zones.ack ∧
      (s.zones.ack = Quad.same .closed →
        pre.beginHold.zones.trans = none ∧ pre.beginHold.zones.current = Quad.same .closed) ∧
      (s.zones.ack ≠ Quad.same .closed →
        pre.beginHold.zones.trans =
          some ⟨.changing, .hold, Quad.same .closed, Quad.same 0, .hold, false, none⟩ ∧
        pre.beginHold.zones.current = s.zones.current) ∧
      ∀ c < 96,
        (pre.beginHold.col c).op = none ∧ (pre.beginHold.col c).grant = none ∧
        (pre.beginHold.col c).waits = [] ∧ (pre.beginHold.col c).stack = (s.col c).stack ∧
        (pre.beginHold.col c).retired = (s.col c).retired ∧
        (pre.beginHold.col c).causes =
          ⟨(s.col c).causes.discrepancy, (s.col c).causes.suspect || (s.col c).op.isSome,
            (s.col c).causes.zone ||
              (decide (s.zones.ack = Quad.same .closed) && (s.defn c).isSome)⟩) ∧
    pre.beginHold.roster = s.roster ∧
    ∀ n h, s.handover n = some h → ∃ h', pre.beginHold.handover n = some h' ∧
      h'.custody = h.custody ∧ h'.column = h.column ∧ h'.taker = h.taker ∧
      ((∃ c o st, c < 96 ∧ (s.col c).op = some o ∧ (n, st) ∈ o.priors) → h'.uncertain = true) ∧
      ((∀ c o st, c < 96 → (s.col c).op = some o → (n, st) ∉ o.priors) →
        h'.uncertain = h.uncertain ∧ h'.state = h.state) := by
  have col : ∀ c, pre.col c = s.col c := fun c => (congrArg (fun u : State => u.col c) rest :)
  have defn : ∀ c, pre.defn c = s.defn c := fun c => congrArg Column.defn (col c)
  have ack : pre.zones.ack = s.zones.ack := (congrArg ZoneCtl.ack zones :)
  have after := pre.beginHold_zones
  rw [zones] at after
  refine ⟨⟨?_, ?_, ?_, ?_, fun echo => ?_, fun silent => ?_, fun c hc => ?_⟩, ?_, fun n h known => ?_⟩
  · rw [after]; split <;> rfl
  · rw [after]; split <;> rfl
  · rw [after]; split <;> rfl
  · rw [after]; split <;> rfl
  · rw [after, if_pos echo]
    exact ⟨rfl, rfl⟩
  · rw [after, if_neg silent]
    exact ⟨rfl, rfl⟩
  · have cleared := beginHold_col (s := pre) hc
    rw [col, defn, ack] at cleared
    exact cleared
  · exact (BlockFrame.beginHold pre).roster.trans (congrArg State.roster rest :)
  · obtain ⟨k, there, back⟩ := beginHold_handover (s := pre)
      ((congrArg (fun u : State => u.handover n) rest :).trans known)
    simp only [col] at back
    exact ⟨k, there, back.custody, back.column, back.taker, back.marked, fun none =>
      back.unmarked fun ⟨c, o, st, hc, op, prior⟩ => none c o st hc op prior⟩

/-! ### The notices the hold begins with -/

/-- GRID_HOLD is taken and its flag set (08, R167). -/
def heldLine (s : State) : State := (s.takeGridHold true).modZones fun q => { q with hold := true }

/-- GRID_HOLD is taken, and a transition in WAITING is dropped (08, R167). -/
def heldDropped (s : State) : State := s.heldLine.modZones fun q => { q with trans := none }

/-- The state in which the hold begins when no transition is under way (08, R167). -/
def heldIdle (s : State) : State := s.heldLine.notify (.holdAsserted .none)

/-- The state in which the hold begins when it overtakes a transition (08, R167). -/
def heldOvertaking (s : State) (t : Transition) : State :=
  (s.heldDropped.notify (.holdAsserted .waiting)).notify (.requestOvertaken t.requester t.targets)

theorem takeHold_none {s : State} (h : s.sectionState = .running) (trans : s.zones.trans = none) :
    (s.takeGridHold true).assertHold = s.heldIdle.beginHold :=
  assertHold_none (s := s.takeGridHold true) h trans

theorem takeHold_waiting {s : State} {t : Transition} (h : s.sectionState = .running)
    (trans : s.zones.trans = some t) (waiting : t.state = .waiting) :
    (s.takeGridHold true).assertHold = (s.heldOvertaking t).beginHold :=
  assertHold_waiting (s := s.takeGridHold true) h trans waiting

theorem heldOvertaking_rest (s : State) (t : Transition) :
    { s.heldOvertaking t with zones := s.zones, lines := s.lines, link := s.link } = s :=
  have told : { s.heldOvertaking t with link := s.link } = s.heldDropped := rfl
  congrArg (fun u : State => { u with zones := s.zones, lines := s.lines }) told

theorem heldOvertaking_zones (s : State) (t : Transition) :
    (s.heldOvertaking t).zones = { s.zones with hold := true, trans := none } := by
  rw [heldOvertaking, notify_zones, notify_zones]
  rfl

theorem beginHold_lines (s : State) : s.beginHold.lines = s.lines :=
  (BlockFrame.beginHold s).toFrame.lines

theorem heldIdle_notices {s : State} (room : s.link.notices.length < 32) :
    s.heldIdle.link.notices = s.link.notices ++ [⟨s.link.nextSeq, s.time, .holdAsserted .none⟩] :=
  notify_room (s := s.heldLine) _ room

theorem heldOvertaking_notices {s : State} (t : Transition) (room : s.link.notices.length < 31) :
    (s.heldOvertaking t).link.notices = s.link.notices ++
      [⟨s.link.nextSeq, s.time, .holdAsserted .waiting⟩,
        ⟨s.link.nextSeq + 1, s.time, .requestOvertaken t.requester t.targets⟩] := by
  have first := notify_room (s := s.heldDropped) (.holdAsserted .waiting) (Nat.lt_succ_of_lt room)
  have second : (s.heldDropped.notify (.holdAsserted .waiting)).link.notices.length <
      Config.noticeCap := by
    rw [first, List.length_append]
    exact Nat.succ_lt_succ room
  rw [heldOvertaking, notify_room _ second, first, notify_link_nextSeq, List.append_assoc]
  rfl

theorem beginHold_after_notices (s : State) :
    ∃ rest, s.beginHold.link.notices = s.link.notices ++ rest :=
  (BlockFrame.beginHold s).notices

end State

/-- The hold of a column as the first clause of O54 states it. -/
theorem holdColumn_clause (p : State) (c : Nat) (o : Operation) (op : (p.col c).op = some o) :
    let q := p.holdColumn c
    (p.cutState c o).remapNotices c =
      match p.mappedBy c with
      | some x =>
        if (p.xp x).map (·.remapPending) = some true ∧ (p.col c).stack = [] ∧ q.reservations c = 0 ∧
            (q.col c).inbound = false then [.remapDone x c (p.spareIn (p.zoneOf c))]
        else []
      | none => [] := by
  intro q
  have lt := State.lt_of_op op
  have inbound : (q.col c).inbound = if o.inboundTaken then false else (p.col c).inbound := by
    show ((p.holdColumn c).col c).inbound = _
    rw [State.holdColumn_col_working op lt, State.cutState_col_same lt]
    rfl
  rewrite [State.cutState_remapNotices lt, State.holdColumn_reservations op, inbound]
  cases p.mappedBy c <;> rfl

/-- Settles O54: a column's hold is its cut-off with the grant and the list gone; the hold is those
of all columns, and what it leaves is read off column by column and record by record. -/
theorem gridHoldTakesEveryGrantBack : Obligations.GridHoldTakesEveryGrantBack := by
  unfold Obligations.GridHoldTakesEveryGrantBack
  refine ⟨fun p c => ?_, fun p => ?_, fun s => ?_⟩
  · intro k q sends
    refine ⟨fun idle => State.holdColumn_idle idle, fun o op nodup => ?_⟩
    intro called spare fails remaps
    have lt := State.lt_of_op op
    have isRemaps : (p.cutState c o).remapNotices c = remaps := by
      rewrite [holdColumn_clause p c o op, State.spareIn_eq_find]
      show _ = (match p.mappedBy c with | some x => _ | none => _)
      cases p.mappedBy c <;> rfl
    have notices : p.cutNotices c .hold o =
        .columnSuspect c (p.mappedBy c) .hold o.robot :: (fails ++ remaps) := by
      rw [State.cutNotices, isRemaps]
      rfl
    refine ⟨?_, ?_, fun e ne => State.holdColumn_col_ne ne, State.holdColumn_zones op,
      (BlockFrame.holdColumn p c).roster, ?_, State.holdColumn_audit op, fun n h st known prior => ?_,
      fun n h known other => ?_⟩
    · rw [← notices]
      exact State.holdColumn_link op
    · exact (State.holdColumn_col_working op lt).trans (by rw [State.cutState_col_same lt]; rfl)
    · refine (State.holdColumn_xpMap op).trans ?_
      rewrite [State.cutState_remapMap lt, isRemaps, State.spareIn_eq_find]
      cases p.mappedBy c <;> rfl
    · intro parks held
      refine (State.handover_congr (State.holdColumn_handovers op) n).trans ?_
      rw [State.cutState_handover_prior lt nodup known prior, Handover.returned, Bool.or_true,
        ← funext (State.holdColumn_suspends op)]
    · refine (State.handover_congr (State.holdColumn_handovers op) n).trans ?_
      rw [State.cutState_handover_other lt nodup known other]
  · intro begun cleared
    have isCleared : p.holdCleared = cleared := p.holdCleared_eq
    clear_value cleared
    intro driven
    have isDriven : p.holdDriven = driven := congrArg State.closedDriven isCleared
    exact isDriven ▸ p.beginHold_eq
  · intro steady seen held asserts
    have asserted : ∀ {t : State}, s.zones.hold = false → steady →
        (s.takeGridHold true).assertHold = t → asserts t := fun off now e =>
      (exec_gridHoldAsserted off now).trans
        (congrArg (fun u : State => Host.Outcome.next u.startTx) e)
    refine ⟨gridHoldMoves_eq s, exec_gridHoldAsserted_not, exec_gridHoldReleased_not,
      fun on now => ?_, fun off now unconfigured => asserted off now
        (State.assertHold_unconfigured (s := s.takeGridHold true) unconfigured),
      fun t off now running trans changing => ⟨fun normal => asserted off now ?_,
        fun hold => asserted off now ?_⟩,
      fun off now running trans => asserted off now
        (State.assertHold_none (s := s.takeGridHold true) running trans),
      fun t off now running trans waiting => asserted off now
        (State.assertHold_waiting (s := s.takeGridHold true) running trans waiting),
      fun off now running waits => ?_⟩
    · intro cleared
      refine (exec_gridHoldReleased on now).trans
        (congrArg (fun u : State => Host.Outcome.next u.startTx) ?_)
      exact State.handOnLoosened_eq
        (cleared.notify (.holdReleased (s.zones.trans.map (·.state)) s.zones.current))
        (s.takeGridHold false)
    · rw [State.assertHold_changing (s := s.takeGridHold true) running trans changing, normal]
      rfl
    · rw [State.assertHold_changing (s := s.takeGridHold true) running trans changing, hold]
      rfl
    · cases trans : s.zones.trans with
      | none =>
        obtain ⟨⟨hold, pending, driven, ack, echoed, silent, columns⟩, roster, records⟩ :=
          State.hold_outcome (s := s) (pre := s.heldIdle) rfl
            (by simp [trans, State.heldIdle, State.heldLine, State.takeGridHold])
        obtain ⟨rest, notices⟩ := State.beginHold_after_notices s.heldIdle
        refine ⟨s.heldIdle.beginHold, asserted off now (State.takeHold_none running trans), hold,
          pending, driven, ack, State.beginHold_lines _, echoed, silent, columns, roster, records,
          fun _ room => ⟨rest, ?_⟩, fun t h => absurd h (by simp)⟩
        rw [notices, State.heldIdle_notices room, List.append_assoc]
        rfl
      | some t =>
        obtain ⟨⟨hold, pending, driven, ack, echoed, silent, columns⟩, roster, records⟩ :=
          State.hold_outcome (s := s) (pre := s.heldOvertaking t)
            (s.heldOvertaking_rest t) (s.heldOvertaking_zones t)
        obtain ⟨rest, notices⟩ := State.beginHold_after_notices (s.heldOvertaking t)
        refine ⟨(s.heldOvertaking t).beginHold, asserted off now
            (State.takeHold_waiting running trans (waits t trans)), hold, pending, driven, ack,
          State.beginHold_lines _, echoed, silent, columns, roster, records,
          fun h => absurd h (by simp), fun t' same room => ⟨rest, ?_⟩⟩
        obtain rfl := Option.some_inj.mp same
        rw [notices, State.heldOvertaking_notices t room, List.append_assoc]
        rfl

end Sys2Proof.Machine
end

section
/-! PROOFS. RELEASE_FREEZE (07, R151, R152). O56 is settled here. -/

namespace Sys2Proof.Machine

/-- A column without ZONE among its causes (07, R152). -/
def Column.unzoned (k : Column) : Column := { k with causes := { k.causes with zone := false } }

namespace State

theorem removeZoneCause_col_same {s : State} {c : Nat} (h : c < s.columns.length) :
    (s.removeZoneCause c).col c = (s.col c).unzoned := s.col_modCol_same h _

theorem removeZoneCause_col_ne {s : State} {c e : Nat} (h : e ≠ c) :
    (s.removeZoneCause c).col e = s.col e := s.col_modCol_ne h _

theorem removeZoneCause_columns_length (s : State) (c : Nat) :
    (s.removeZoneCause c).columns.length = s.columns.length := updateAt_length _ _ _

theorem removeZoneCauses_col {l : List Nat} {s : State} (inTable : ∀ c ∈ l, c < s.columns.length)
    (c : Nat) :
    (l.foldl removeZoneCause s).col c = if c ∈ l then (s.col c).unzoned else s.col c := by
  induction l generalizing s with
  | nil => rfl
  | cons e l ih =>
    have rest := ih (s := s.removeZoneCause e) fun d hd => by
      rw [removeZoneCause_columns_length]
      exact inTable d (List.mem_cons_of_mem _ hd)
    rw [List.foldl_cons, rest]
    by_cases h : c = e
    · subst h
      rw [removeZoneCause_col_same (inTable c List.mem_cons_self), if_pos List.mem_cons_self]
      split <;> rfl
    · simp only [removeZoneCause_col_ne h, List.mem_cons, h, false_or]

theorem removeZoneCauses_rest (l : List Nat) (s : State) :
    { l.foldl removeZoneCause s with columns := s.columns, handovers := s.handovers } = s :=
  foldl_untouched (f := removeZoneCause)
    (fun u => { u with columns := s.columns, handovers := s.handovers }) (fun _ _ _ => rfl) s

theorem removeZoneCause_handover_off {s : State} {c n : Nat} {h : Handover}
    (known : s.handover n = some h) (off : h.column ≠ some c) :
    (s.removeZoneCause c).handover n = some h := by
  unfold removeZoneCause judgeColumn
  rw [handover_modHandovers _ _ _ _ (judged_number _)]
  have same : (s.modCol c fun k => { k with causes := { k.causes with zone := false } }).handover n =
      some h := known
  rw [same, Option.map_some, if_neg (by simpa using off)]

theorem removeZoneCause_handover_on {s : State} {c n : Nat} {h : Handover}
    (known : s.handover n = some h) (on : h.column = some c) :
    (s.removeZoneCause c).handover n = some { h with
      deadline := h.deadline.map (Deadline.judge ((s.removeZoneCause c).suspends c)) } := by
  have same : (s.modCol c fun k => { k with causes := { k.causes with zone := false } }).handover n =
      some h := known
  conv_lhs => unfold removeZoneCause judgeColumn
  rw [handover_modHandovers _ _ _ _ (judged_number _), same, Option.map_some, if_pos (by simpa using on),
    judged_on on]
  rfl

theorem column_of_frame {s u : State} {n : Nat} {h : Handover} (frame : BlockFrame s u)
    (known : s.handover n = some h) :
    ∃ k, u.handover n = some k ∧ k.column = h.column := by
  have fixed := frame.handover n
  rw [known] at fixed
  obtain ⟨k, there, same⟩ := Option.map_eq_some_iff.mp fixed
  exact ⟨k, there, congrArg (fun f => f.2.2.2.2.1) same⟩

/-- A record on a column whose ZONE is removed is judged by what the column is afterwards (07, R152). -/
theorem removeZoneCauses_handover_on {s : State} {l : List Nat} {c n : Nat} {h : Handover}
    (nodup : l.Nodup) (mem : c ∈ l) (known : s.handover n = some h) (on : h.column = some c) :
    (l.foldl removeZoneCause s).handover n = some { h with
      deadline := h.deadline.map (Deadline.judge ((l.foldl removeZoneCause s).suspends c)) } := by
  obtain ⟨u, ⟨beside, frame⟩, before, after⟩ := foldl_at (f := removeZoneCause) (s := s)
    (fun u => s.Beside u ∧ BlockFrame s u) (fun u => (u.handover n, (u.col c).causes)) nodup mem
    ⟨.refl s, .refl s⟩
    (fun u e _ ⟨b, f⟩ => ⟨b.trans ⟨_, _, _, rfl⟩, f.trans (.removeZoneCause u e)⟩)
    fun u e _ ⟨_, f⟩ ne => by
      obtain ⟨k, there, column⟩ := column_of_frame f known
      have off : k.column ≠ some e := fun h' => ne (Option.some_inj.mp (h'.symm.trans (column.trans on)))
      rw [removeZoneCause_col_ne ne.symm, removeZoneCause_handover_off there off, there]
  obtain ⟨record, -⟩ := Prod.mk.inj before
  obtain ⟨record', causes⟩ := Prod.mk.inj after
  have whole : BlockFrame s (l.foldl removeZoneCause s) :=
    BlockFrame.foldl removeZoneCause BlockFrame.removeZoneCause l s
  have zones : (l.foldl removeZoneCause s).zones = (u.removeZoneCause c).zones :=
    (congrArg State.zones (removeZoneCauses_rest l s) :).trans beside.zones.symm
  have defn : (l.foldl removeZoneCause s).defn c = (u.removeZoneCause c).defn c :=
    (whole.toFrame.defn c).trans ((frame.trans (.removeZoneCause u c)).toFrame.defn c).symm
  rw [record', removeZoneCause_handover_on (record.trans known) on,
    suspends_congr zones defn causes]

theorem removeZoneCauses_handover_off {s : State} {l : List Nat} {n : Nat} {h : Handover}
    (known : s.handover n = some h) (off : ∀ c, h.column = some c → c ∉ l) :
    (l.foldl removeZoneCause s).handover n = some h :=
  foldl_keeps (fun u : State => u.handover n = some h) removeZoneCause l s known fun _ c hc k =>
    removeZoneCause_handover_off k fun on => off c on hc

/-- A column is still frozen without ZONE when DISCREPANCY or SUSPECT is left (07, R152). -/
theorem stillFrozen_eq {s : State} {l : List Nat} (inTable : ∀ c ∈ l, c < s.columns.length) :
    (l.foldl removeZoneCause s).stillFrozen l =
      l.filter fun c => (s.col c).causes.discrepancy || (s.col c).causes.suspect := by
  refine List.filter_congr fun c hc => ?_
  unfold frozen
  rw [removeZoneCauses_col inTable, if_pos hc]
  simp [Column.unzoned, Causes.any]

/-- The answer of a release whose zone is not CLOSED (07, R152). -/
theorem releaseFreeze_open {s : State} {z : Nat} {l : List Nat} (h : s.effective z ≠ .closed)
    (inTable : ∀ c ∈ l, c < s.columns.length) :
    let removed := l.countP fun c => (s.col c).causes.zone
    let still := l.filter fun c => (s.col c).causes.discrepancy || (s.col c).causes.suspect
    s.releaseFreeze z l =
      ⟨l.foldl removeZoneCause s, if still = [] then .ok else .needsReconcile,
        if still = [] then .freezeReleased removed
        else .stillFrozen removed still.length
          ((still.take 16).map fun c => (c, { (s.col c).causes with zone := false }))⟩ := by
  intro removed still
  unfold releaseFreeze
  rw [if_neg h]
  dsimp only
  rw [stillFrozen_eq inTable]
  by_cases none : still = []
  · rw [if_pos (List.isEmpty_iff.mpr none), if_pos none, if_pos none]
  · rw [if_neg (mt List.isEmpty_iff.mp none), if_neg none, if_neg none]
    refine congrArg (fun cs => Answer.mk _ _ (.stillFrozen removed still.length cs))
      (List.map_congr_left fun c hc => ?_)
    have mem : c ∈ l := (List.mem_filter.mp (List.mem_of_mem_take hc)).1
    rw [removeZoneCauses_col inTable, if_pos mem]
    rfl

end State

/-! ### The request -/

/-- The columns a RELEASE_FREEZE names (07, R151). -/
def State.freezeColumns (s : State) : Body.FreezeTarget → List Nat
  | .column c => [c]
  | .zone z => (List.range 96).filter fun c => (s.defn c).map (·.zone) == some z

/-- The zone a RELEASE_FREEZE concerns (07, R151). -/
def State.freezeZone (s : State) : Body.FreezeTarget → Nat
  | .column c => s.zoneOf c
  | .zone z => z

/-- What a RELEASE_FREEZE names is there (07, R151). -/
def State.freezeNamed (s : State) : Body.FreezeTarget → Bool
  | .column c => (s.defn c).isSome
  | .zone z => decide (z ≤ 3)

/-- The refusal of a target that is not there (07, R151). -/
def Body.FreezeTarget.missing : Body.FreezeTarget → Status
  | .column _ => .unknownColumn
  | .zone _ => .outOfRange

section
variable {q : Body.FreezeTarget} {s : State}

theorem takeReleaseFreeze_missing (h : s.freezeNamed q = false) :
    takeReleaseFreeze q s = refuse s q.missing := by
  cases q with
  | column c => exact if_pos (by simpa [State.freezeNamed, Option.isSome_eq_false_iff] using h)
  | zone z => exact if_pos (by simpa [State.freezeNamed] using h)

theorem takeReleaseFreeze_named (h : s.freezeNamed q = true) :
    takeReleaseFreeze q s = s.releaseFreeze (s.freezeZone q) (s.freezeColumns q) := by
  cases q with
  | column c =>
    have defined : (s.defn c).isSome = true := h
    exact if_neg (by simp [Option.isSome_iff_ne_none.mp defined])
  | zone z =>
    have inRange : z ≤ 3 := by simpa [State.freezeNamed] using h
    refine (if_neg (by omega)).trans ?_
    rw [State.columnsOf_eq]
    rfl

theorem freezeColumns_inTable (h : s.freezeNamed q = true) :
    ∀ c ∈ s.freezeColumns q, c < s.columns.length := by
  cases q with
  | column c =>
    intro e he
    obtain rfl : e = c := by simpa [State.freezeColumns] using he
    obtain ⟨d, hd⟩ := Option.isSome_iff_exists.mp h
    exact s.lt_of_defn hd
  | zone z =>
    intro e he
    have mem : e ∈ s.columnsOf z := by
      rw [State.columnsOf_eq]
      exact he
    exact State.lt_of_mem_columnsOf mem

theorem freezeColumns_nodup (s : State) (q : Body.FreezeTarget) : (s.freezeColumns q).Nodup := by
  cases q with
  | column c => exact List.nodup_singleton c
  | zone z => exact List.nodup_range.filter _

end

/-- Settles O56: ZONE leaves the named columns one by one, and each record is judged by what its own
column is after all of them. -/
theorem releaseFreezeRemovesTheZoneCause : Obligations.ReleaseFreezeRemovesTheZoneCause := by
  unfold Obligations.ReleaseFreezeRemovesTheZoneCause
  intro tag body q s decodes running takes u answers zone columns named
  have taken : ∀ {t : Answer}, takeReleaseFreeze q u = t →
      exec (.releaseFreeze tag body) s = .next (t.made 19 tag) := fun e =>
    (hostRequest_running (take := takeReleaseFreeze) takes decodes running).trans
      (congrArg (fun t : Answer => Host.Outcome.next (t.made 19 tag)) e)
  have isZone : u.freezeZone q = zone := by cases q <;> rfl
  have isColumns : u.freezeColumns q = columns := by cases q <;> rfl
  have isNamed : u.freezeNamed q = named := by cases q <;> rfl
  refine ⟨fun missing => ?_, fun there shut => ?_, fun there open_ => ?_⟩
  · have answer := taken (takeReleaseFreeze_missing (isNamed.trans missing))
    rewrite [refuse_made] at answer
    cases q with
    | column c => exact answer
    | zone z => exact answer
  · have closed : u.releaseFreeze zone columns = refuse u .zoneClosed := if_pos shut
    have answer := taken ((takeReleaseFreeze_named (isNamed.trans there)).trans
      (by rw [isZone, isColumns, closed]))
    rw [refuse_made] at answer
    exact answer
  · intro removed still
    have inTable : ∀ c ∈ columns, c < u.columns.length := by
      rw [← isColumns]
      exact freezeColumns_inTable (isNamed.trans there)
    have nodup : columns.Nodup := isColumns ▸ freezeColumns_nodup u q
    have opened : u.releaseFreeze zone columns =
        ⟨columns.foldl State.removeZoneCause u, if still = [] then .ok else .needsReconcile,
          if still = [] then .freezeReleased removed
          else .stillFrozen removed still.length
            ((still.take 16).map fun c => (c, { (s.col c).causes with zone := false }))⟩ :=
      State.releaseFreeze_open open_ inTable
    have answer := taken ((takeReleaseFreeze_named (isNamed.trans there)).trans
      (by rw [isZone, isColumns, opened]))
    refine ⟨columns.foldl State.removeZoneCause u, answer, fun c hc => ?_, fun c hc => ?_,
      fun n h known => ?_, State.removeZoneCauses_rest columns u⟩
    · exact (State.removeZoneCauses_col inTable c).trans (if_pos hc)
    · exact (State.removeZoneCauses_col inTable c).trans (if_neg hc)
    · have known' : u.handover n = some h := known
      by_cases on : ∃ c ∈ columns, h.column = some c
      · obtain ⟨c, mem, column⟩ := on
        refine ⟨_, State.removeZoneCauses_handover_on nodup mem known' column,
          fun e column' _ => ?_, fun off => absurd mem (off c column)⟩
        rw [← Option.some_inj.mp (column.symm.trans column'), Deadline.judge_eq]
      · have off : ∀ c, h.column = some c → c ∉ columns := fun c column mem => on ⟨c, mem, column⟩
        exact ⟨h, State.removeZoneCauses_handover_off known' off,
          fun c column mem => absurd mem (off c column), fun _ => rfl⟩

end Sys2Proof.Machine
end

section
/-! PROOFS. What the end of an operation shares with a fault: a stack that differs (04, R97), the
count of a fault and the remap that follows (01, R11 to R20), the grace of a revoked grant (03,
R67). -/

namespace Sys2Proof.Machine

namespace State

theorem col_congr {s t : State} (h : t.columns = s.columns) (e : Nat) : t.col e = s.col e := by
  simp only [col, h]

/-! ### Notices beside a state -/

theorem notifyAll_eq (s : State) (bs : List NoticeBody) :
    s.notifyAll bs = { s with link := (s.notifyAll bs).link } :=
  (congrArg (fun v : State => { v with link := (s.notifyAll bs).link }) (s.notifyAll_rest bs) :)

theorem notifyAll_of {s t : State} {bs : List NoticeBody} (link : t.link = (s.notifyAll bs).link)
    (rest : { t with link := s.link } = s) : t = s.notifyAll bs := by
  rw [notifyAll_eq, ← link]
  exact (congrArg (fun v : State => { v with link := t.link }) rest :)

section
variable (s : State) (bs : List NoticeBody)

@[simp] theorem notifyAll_columns : (s.notifyAll bs).columns = s.columns := by rw [notifyAll_eq]
@[simp] theorem notifyAll_handovers : (s.notifyAll bs).handovers = s.handovers := by rw [notifyAll_eq]
@[simp] theorem notifyAll_audit : (s.notifyAll bs).audit = s.audit := by rw [notifyAll_eq]
@[simp] theorem notifyAll_zones : (s.notifyAll bs).zones = s.zones := by rw [notifyAll_eq]
@[simp] theorem notifyAll_roster : (s.notifyAll bs).roster = s.roster := by rw [notifyAll_eq]
@[simp] theorem notifyAll_xpMap : (s.notifyAll bs).xpMap = s.xpMap := by rw [notifyAll_eq]
@[simp] theorem notifyAll_params : (s.notifyAll bs).params = s.params := by rw [notifyAll_eq]
@[simp] theorem notifyAll_lockFlags : (s.notifyAll bs).lockFlags = s.lockFlags := by rw [notifyAll_eq]
@[simp] theorem notifyAll_lastNumber : (s.notifyAll bs).lastNumber = s.lastNumber := by rw [notifyAll_eq]
@[simp] theorem notifyAll_time : (s.notifyAll bs).time = s.time := by rw [notifyAll_eq]

theorem notifyAll_modCol (c : Nat) (f : Column → Column) :
    (s.notifyAll bs).modCol c f = (s.modCol c f).notifyAll bs := by
  refine notifyAll_of (s.notifyAll_link bs rfl rfl) ?_
  rw [notifyAll_eq]
  rfl

theorem notifyAll_audits (q : AuditUnit) :
    { s.notifyAll bs with audit := q } = { s with audit := q }.notifyAll bs := by
  refine notifyAll_of (s.notifyAll_link bs rfl rfl) ?_
  rw [notifyAll_eq]

end

/-! ### The causes a column gains -/

/-- A column whose causes changed is judged again (07, R138, R139). -/
theorem judgeColumn_handover {s : State} {c n : Nat} {h : Handover} (known : s.handover n = some h) :
    (s.judgeColumn c).handover n = some (if h.column = some c then s.judged h else h) := by
  unfold judgeColumn
  rw [handover_modHandovers _ _ _ _ (judged_number _), known, Option.map_some]
  simp only [beq_iff_eq]

/-- The state with DISCREPANCY added to a column, if `b`. -/
def differing (s : State) (c : Nat) (b : Bool) : State := if b then s.addDiscrepancy c else s

section
variable {s : State} {c : Nat} {b : Bool}

theorem differing_rest (s : State) (c : Nat) (b : Bool) :
    { s.differing c b with columns := s.columns, handovers := s.handovers } = s := by
  cases b <;> rfl

theorem differing_frame (s : State) (c : Nat) (b : Bool) : BlockFrame s (s.differing c b) := by
  cases b
  · exact .refl s
  · exact .addDiscrepancy s c

theorem differing_columns (s : State) (c : Nat) (b : Bool) :
    (s.differing c b).columns = (s.modCol c fun k =>
      { k with causes := { k.causes with discrepancy := k.causes.discrepancy || b } }).columns := by
  cases b
  · refine congrArg State.columns (modCol_id (s := s) ?_).symm
    simp only [Bool.or_false]
  · show (s.modCol c _).columns = _
    refine congrArg State.columns (s.modCol_congr ?_)
    simp only [Bool.or_true]

theorem differing_col_same (lt : c < s.columns.length) :
    (s.differing c b).col c = { s.col c with
      causes := { (s.col c).causes with discrepancy := (s.col c).causes.discrepancy || b } } :=
  (congrArg (fun l : List Column => l.getD c Column.blank) (s.differing_columns c b)).trans
    (s.col_modCol_same lt _)

theorem differing_col_ne {e : Nat} (h : e ≠ c) : (s.differing c b).col e = s.col e :=
  (congrArg (fun l : List Column => l.getD e Column.blank) (s.differing_columns c b)).trans
    (s.col_modCol_ne h _)

theorem differing_suspends_same (lt : c < s.columns.length) (yes : b = true) :
    (s.differing c b).suspends c = true := by
  refine suspends_of_frozen (frozen_iff.mpr ?_)
  rw [differing_col_same lt, yes]
  simp

theorem differing_suspends_ne {e : Nat} (h : e ≠ c ∨ b = false) :
    (s.differing c b).suspends e = s.suspends e := by
  cases b with
  | false => rfl
  | true =>
    refine suspends_congr rfl ((s.differing_frame c true).toFrame.defn e) ?_
    rw [differing_col_ne (h.resolve_right (by simp))]

/-- A record on a column that gains DISCREPANCY is SUSPENDED; the others stay (02, R43). -/
theorem differing_handover {n : Nat} {h : Handover} (lt : c < s.columns.length)
    (known : s.handover n = some h) :
    (s.differing c b).handover n =
      some (if b = true ∧ h.column = some c then h.suspended else h) := by
  cases b with
  | false => exact known.trans (by simp)
  | true =>
    have there : (s.modCol c fun k =>
        { k with causes := { k.causes with discrepancy := true } }).handover n = some h := known
    have sus : (s.modCol c fun k =>
        { k with causes := { k.causes with discrepancy := true } }).suspends c = true :=
      differing_suspends_same (b := true) lt rfl
    refine (judgeColumn_handover there).trans (congrArg some ?_)
    by_cases column : h.column = some c
    · rw [if_pos column, if_pos ⟨rfl, column⟩, judged_suspended column sus, suspended_eq]
    · rw [if_neg column, if_neg fun k => column k.2]

end

/-! ### The remap, in the terms of an earlier state -/

/-- A mapped column is no spare, so its own retirement does not matter to the choice of one (01, R20). -/
theorem spareIn_after {s t : State} {c x z : Nat} (defn : ∀ e, t.defn e = s.defn e)
    (mapped : ∀ e, t.mappedBy e = s.mappedBy e)
    (retired : ∀ e, e ≠ c → (t.col e).retired = (s.col e).retired) (m : s.mappedBy c = some x) :
    t.spareIn z = s.spareIn z := by
  rw [spareIn_eq_find, spareIn_eq_find]
  refine congrArg (fun p => List.find? p (List.range 96)) (funext fun e => ?_)
  rw [defn, mapped]
  by_cases same : e = c
  · rw [same, m]
    simp
  · rw [retired e same]

/-- The remap condition after changes that keep the map, the definitions and the retirement of the
other columns (01, R19, R20). -/
theorem remapNotices_after {s t : State} {c : Nat} (idle : (t.col c).op = none)
    (defn : ∀ e, t.defn e = s.defn e) (mapped : ∀ e, t.mappedBy e = s.mappedBy e)
    (retired : ∀ e, e ≠ c → (t.col e).retired = (s.col e).retired) :
    t.remapNotices c =
      match s.mappedBy c with
      | some x =>
        if (t.xp x).map (·.remapPending) = some true ∧ (t.col c).stack = [] ∧
            t.reservations c = 0 ∧ (t.col c).inbound = false then
          [.remapDone x c (s.spareIn (s.zoneOf c))]
        else []
      | none => [] := by
  have zone : t.zoneOf c = s.zoneOf c := congrArg (fun d => (d.map (·.zone)).getD 0) (defn c)
  rw [remapNotices_idle idle, mapped, zone]
  cases m : s.mappedBy c with
  | none => rfl
  | some x =>
    rw [spareIn_after defn mapped retired m]

theorem remapMap_after {s t : State} {c : Nat} (defn : ∀ e, t.defn e = s.defn e)
    (mapped : ∀ e, t.mappedBy e = s.mappedBy e)
    (retired : ∀ e, e ≠ c → (t.col e).retired = (s.col e).retired) :
    t.remapMap c =
      match s.mappedBy c with
      | some x =>
        if t.remapNotices c = [] then t.xpMap
        else updateAt t.xpMap x fun _ => (s.spareIn (s.zoneOf c)).map (⟨·, false⟩)
      | none => t.xpMap := by
  have zone : t.zoneOf c = s.zoneOf c := congrArg (fun d => (d.map (·.zone)).getD 0) (defn c)
  unfold remapMap
  rw [mapped, zone]
  cases m : s.mappedBy c with
  | none => rfl
  | some x =>
    rw [spareIn_after defn mapped retired m]

theorem remapNotices_congr {s t : State} (columns : t.columns = s.columns)
    (handovers : t.handovers = s.handovers) (xpMap : t.xpMap = s.xpMap) (c : Nat) :
    t.remapNotices c = s.remapNotices c := by
  have col : ∀ e, t.col e = s.col e := fun e => by simp only [State.col, columns]
  have defn : ∀ e, t.defn e = s.defn e := fun e => congrArg Column.defn (col e)
  have zone : t.zoneOf c = s.zoneOf c := congrArg (fun d => (d.map (·.zone)).getD 0) (defn c)
  have spare := spareIn_congr defn (mappedBy_congr xpMap) (fun e => congrArg Column.retired (col e))
  have ready : t.remapReady c = s.remapReady c := by
    simp only [remapReady, reservations, col, handovers]
  unfold remapNotices
  rw [mappedBy_congr xpMap, zone, spare, ready]
  simp only [xp_congr xpMap]

theorem remapMap_congr {s t : State} (columns : t.columns = s.columns)
    (handovers : t.handovers = s.handovers) (xpMap : t.xpMap = s.xpMap) (c : Nat) :
    t.remapMap c = s.remapMap c := by
  have col : ∀ e, t.col e = s.col e := fun e => by simp only [State.col, columns]
  have defn : ∀ e, t.defn e = s.defn e := fun e => congrArg Column.defn (col e)
  have zone : t.zoneOf c = s.zoneOf c := congrArg (fun d => (d.map (·.zone)).getD 0) (defn c)
  have spare := spareIn_congr defn (mappedBy_congr xpMap) (fun e => congrArg Column.retired (col e))
  unfold remapMap
  rw [mappedBy_congr xpMap, zone, spare, remapNotices_congr columns handovers xpMap, xpMap]

/-- The state once the remap of a column is examined (01, R19, R20). -/
def remapped (s : State) (c : Nat) : State := { s with xpMap := s.remapMap c }

/-- The remap condition of a column, its REMAP_DONE issued at once (01, R19). -/
theorem examineRemap_emit {s : State} {c : Nat} (h : s.audit.called ≠ some c) :
    (s.examineRemap c).emit = (s.remapped c).notifyAll (s.remapNotices c) := by
  rw [examineRemap_not_called h]
  rfl

theorem remapNotices_notifyAll (s : State) (bs : List NoticeBody) (c : Nat) :
    (s.notifyAll bs).remapNotices c = s.remapNotices c :=
  remapNotices_congr (s.notifyAll_columns bs) (s.notifyAll_handovers bs) (s.notifyAll_xpMap bs) c

theorem remapped_notifyAll (s : State) (bs : List NoticeBody) (c : Nat) :
    (s.notifyAll bs).remapped c = (s.remapped c).notifyAll bs := by
  refine notifyAll_of (s.notifyAll_link bs rfl rfl) ?_
  unfold remapped
  rw [remapMap_congr (s.notifyAll_columns bs) (s.notifyAll_handovers bs) (s.notifyAll_xpMap bs),
    notifyAll_eq]

/-! ### The count of a fault -/

end State

/-- A column with a fault counted against it (01, R11, R12). -/
def Column.faulted (k : Column) (f : LastFault) (threshold : Nat) : Column :=
  { k with
    faultCount := if k.retired then k.faultCount else k.faultCount + 1
    lastFault := if k.retired then k.lastFault else some f
    retired := k.retired || decide (k.retired = false ∧ threshold ≤ k.faultCount + 1) }

namespace State

/-- The next fault of a column retires it (01, R12). -/
abbrev AtThreshold (s : State) (c : Nat) : Prop :=
  (s.col c).retired = false ∧ s.params.faultThreshold ≤ (s.col c).faultCount + 1

/-- The map with the remap of a column pending (01, R14). -/
def pendingMap (s : State) (c : Nat) : List (Option XpEntry) :=
  match s.mappedBy c with
  | some x => updateAt s.xpMap x fun _ => some ⟨c, true⟩
  | none => s.xpMap

/-- The state of a fault before the remap condition is examined (01, R11, R12, R14). -/
def faulted (s : State) (c : Nat) (f : LastFault) : State :=
  { s.modCol c fun k => k.faulted f s.params.faultThreshold with
    xpMap := if s.AtThreshold c then s.pendingMap c else s.xpMap }

section
variable {s : State} {c : Nat} {f : LastFault} {d : Defn}

theorem faulted_col_same (lt : c < s.columns.length) :
    (s.faulted c f).col c = (s.col c).faulted f s.params.faultThreshold :=
  s.col_modCol_same lt _

theorem faulted_col_ne {e : Nat} (h : e ≠ c) : (s.faulted c f).col e = s.col e :=
  s.col_modCol_ne h _

theorem faulted_defn (e : Nat) : (s.faulted c f).defn e = s.defn e :=
  s.defn_modCol c e _ fun _ => rfl

theorem mappedBy_columns {s t : State} (h : ∀ y, (t.xp y).map (·.column) = (s.xp y).map (·.column))
    (e : Nat) : t.mappedBy e = s.mappedBy e := by
  refine Option.ext fun x => ?_
  rw [mappedBy_eq_some, mappedBy_eq_some]
  simp only [h]

theorem mappedBy_none {s : State} {c : Nat} (h : ∀ y, (s.xp y).map (·.column) ≠ some c) :
    s.mappedBy c = none :=
  Option.eq_none_iff_forall_ne_some.mpr fun y k => h y ((mappedBy_eq_some s c y).mp k).1

theorem lt_of_mapped {x : Nat} (h : (s.xp x).map (·.column) = some c) : x < s.xpMap.length := by
  by_contra big
  rw [xp, List.getD_eq_getElem?_getD, List.getElem?_eq_none (Nat.not_lt.mp big)] at h
  simp at h

/-- An entry written anew for the column it names already leaves which columns the map names. -/
theorem xp_setXp_column {x : Nat} {b : Bool} (m : s.mappedBy c = some x) (y : Nat) :
    ((s.setXp x (some ⟨c, b⟩)).xp y).map (·.column) = (s.xp y).map (·.column) := by
  have named := ((mappedBy_eq_some s c x).mp m).1
  by_cases same : y = x
  · rw [same, xp_setXp_same s (lt_of_mapped named), named]
    rfl
  · rw [xp_setXp_ne s same]

theorem faulted_xp_column (y : Nat) :
    ((s.faulted c f).xp y).map (·.column) = (s.xp y).map (·.column) := by
  have writes : (s.faulted c f).xpMap = if s.AtThreshold c then s.pendingMap c else s.xpMap := rfl
  by_cases at_ : s.AtThreshold c
  · rw [if_pos at_] at writes
    unfold pendingMap at writes
    cases m : s.mappedBy c with
    | none =>
      rw [m] at writes
      rw [xp_congr writes]
    | some x =>
      rw [m] at writes
      rw [xp_congr (s := s.setXp x (some ⟨c, true⟩)) writes, xp_setXp_column m]
  · rw [if_neg at_] at writes
    rw [xp_congr writes]

theorem faulted_mappedBy (e : Nat) : (s.faulted c f).mappedBy e = s.mappedBy e :=
  mappedBy_columns faulted_xp_column e

/-- COLUMN_RETIRED of a column whose faults reach the threshold (01, R14). -/
def retiredNotice (s : State) (c : Nat) (f : LastFault) (d : Defn) : NoticeBody :=
  .columnRetired c d.x d.y d.zone .faults ((s.col c).faultCount + 1) (some f) (s.mappedBy c)
    (s.col c).stack.length (s.reservations c) (s.col c).inbound

/-- A fault below the threshold is one write. -/
theorem countFault_below (defn : s.defn c = some d) (below : ¬s.AtThreshold c) :
    s.countFault c f = s.faulted c f := by
  rw [countFault_eq f (by simp [defn]), faulted, if_neg below]
  by_cases retired : (s.col c).retired = true
  · rw [if_pos retired]
    refine (modCol_id ?_).symm
    simp only [Column.faulted, retired, if_true, Bool.true_or]
    rw [← retired]
  · have usable : (s.col c).retired = false := by simpa using retired
    have small : (s.col c).faultCount + 1 < s.params.faultThreshold :=
      Nat.not_le.mp fun k => below ⟨usable, k⟩
    rw [if_neg retired, if_pos small]
    refine s.modCol_congr ?_
    simp [Column.faulted, usable, Nat.not_le.mpr small]

/-- A fault that retires the column, its remap examined at once (01, R12, R14, R20). -/
theorem countFault_retires (defn : s.defn c = some d) (at_ : s.AtThreshold c)
    (called : s.audit.called ≠ some c) :
    s.countFault c f =
      ((s.faulted c f).remapped c).notifyAll
        (s.retiredNotice c f d :: (s.faulted c f).remapNotices c) := by
  obtain ⟨usable, reached⟩ := at_
  have counted := s.col_modCol_same (s.lt_of_defn defn)
    fun q : Column => { q with faultCount := q.faultCount + 1, lastFault := some f }
  have written : (s.modCol c fun q =>
      { q with faultCount := q.faultCount + 1, lastFault := some f }).modCol c
        (fun k => { k with retired := true }) =
      s.modCol c fun k => k.faulted f s.params.faultThreshold := by
    rw [modCol_modCol]
    refine s.modCol_congr ?_
    simp [Column.faulted, usable, reached]
  have column : (s.modCol c fun q =>
      { q with faultCount := q.faultCount + 1, lastFault := some f }).defn c = some d :=
    (s.defn_modCol c c (fun q => { q with faultCount := q.faultCount + 1, lastFault := some f })
      fun _ => rfl).trans defn
  rw [countFault_eq f (by simp [defn]), if_neg (by simp [usable]), if_neg (Nat.not_lt.mpr reached)]
  unfold retire
  have pending : (match s.mappedBy c with
      | some x => (s.modCol c fun k => k.faulted f s.params.faultThreshold).setXp x (some ⟨c, true⟩)
      | none => s.modCol c fun k => k.faulted f s.params.faultThreshold) = s.faulted c f := by
    unfold faulted pendingMap
    rw [if_pos ⟨usable, reached⟩]
    cases s.mappedBy c <;> rfl
  dsimp only
  rw [column, counted, written]
  show (((match s.mappedBy c with
      | some x => (s.modCol c fun k => k.faulted f s.params.faultThreshold).setXp x (some ⟨c, true⟩)
      | none => s.modCol c fun k => k.faulted f s.params.faultThreshold).notify
        (s.retiredNotice c f d)).examineRemap c).emit = _
  rw [pending, examineRemap_emit (s := (s.faulted c f).notify (s.retiredNotice c f d)) called]
  have told := (s.faulted c f).remapped_notifyAll [s.retiredNotice c f d] c
  have notices := (s.faulted c f).remapNotices_notifyAll [s.retiredNotice c f d] c
  rw [← List.singleton_append, notifyAll_append, ← told, ← notices]
  rfl

end

end State

end Sys2Proof.Machine
end

section
/-! PROOFS. The tail of a FAILED end: the fault counted, the remap condition examined and the grace
of a revoked grant started (04, R99). -/

namespace Sys2Proof.Machine

/-- A column whose operation ended, the grace of its revoked grant started (03, R67). -/
def Column.graced (k : Column) (ms : Nat) : Column :=
  { k with
    grant := k.grant.map fun g => if g.revoke = none then g else { g with grace := some ms } }

namespace State

theorem startGrace_eq (s : State) (c : Nat) :
    s.startGrace c = s.modCol c fun k => k.graced (s.params.releaseGrace * 1000) := by
  refine s.modCol_congr ?_
  unfold Column.graced
  cases (s.col c).grant with
  | none => rfl
  | some g => cases h : g.revoke <;> simp [h, graceMs]

theorem MapInjective.congr {s t : State} (inj : s.MapInjective)
    (h : ∀ y, (t.xp y).map (·.column) = (s.xp y).map (·.column)) : t.MapInjective := by
  intro x y e f he hf same
  have hx := h x
  have hy := h y
  rw [he] at hx
  rw [hf] at hy
  obtain ⟨e', he', colE⟩ := Option.map_eq_some_iff.mp hx.symm
  obtain ⟨f', hf', colF⟩ := Option.map_eq_some_iff.mp hy.symm
  exact inj x y e' f' he' hf' (colE.trans (same.trans colF.symm))

/-- A remap examined again has nothing left to do, when no two XPs map one column (01, R16, R20). -/
theorem remapNotices_again {s : State} {c : Nat} (inj : s.MapInjective) :
    (s.remapped c).remapNotices c = [] := by
  cases m : s.mappedBy c with
  | none =>
    have same : s.remapMap c = s.xpMap := by simp only [remapMap, m]
    unfold remapped
    rw [same]
    simp only [remapNotices, m]
  | some x =>
    by_cases waits : s.remapNotices c = []
    · have same : s.remapMap c = s.xpMap := by simp only [remapMap, m, waits, if_true]
      unfold remapped
      rw [same]
      exact waits
    · have writes : s.remapped c =
          s.setXp x ((s.spareIn (s.zoneOf c)).map (⟨·, false⟩)) := by
        simp only [remapped, remapMap, m, waits, if_false, setXp]
      have named := ((mappedBy_eq_some s c x).mp m).1
      have free : (s.remapped c).mappedBy c = none := by
        rw [writes]
        refine mappedBy_none fun y => ?_
        by_cases same : y = x
        · rw [same, xp_setXp_same s (lt_of_mapped named), Option.map_map, Function.comp_def]
          intro spare
          obtain ⟨d, hd, rfl⟩ := Option.map_eq_some_iff.mp spare
          have unmapped := (spareIn_eq_some.mp hd).1.2.2.1
          rw [m] at unmapped
          exact absurd unmapped (by simp)
        · rw [xp_setXp_ne s same]
          intro also
          obtain ⟨e, he, colE⟩ := Option.map_eq_some_iff.mp named
          obtain ⟨f, hf, colF⟩ := Option.map_eq_some_iff.mp also
          exact same (inj y x f e hf he (colF.trans colE.symm))
      simp only [remapNotices, free]

theorem remapMap_of_silent {s : State} {c : Nat} (h : s.remapNotices c = []) :
    s.remapMap c = s.xpMap := by
  unfold remapMap
  cases s.mappedBy c with
  | none => rfl
  | some x => exact if_pos h

/-! ### The tail -/

/-- The fault of a FAILED end, the remap condition and the grace (04, R99, steps 5 to 7). -/
def faultEnd (s : State) (c : Nat) (f : LastFault) : State :=
  ((s.countFault c f).examineRemap c).emit.startGrace c

/-- What the tail of a FAILED end writes to its column. -/
def faultedColumn (s : State) (c : Nat) (f : LastFault) : Column :=
  ((s.col c).faulted f s.params.faultThreshold).graced (s.params.releaseGrace * 1000)

/-- COLUMN_RETIRED of a FAILED end (01, R14). -/
def faultTells (s : State) (c : Nat) (f : LastFault) (d : Defn) : List NoticeBody :=
  if s.AtThreshold c then [s.retiredNotice c f d] else []

/-- REMAP_DONE of a FAILED end (01, R19, R20). -/
def faultRemaps (s : State) (c : Nat) : List NoticeBody :=
  match s.mappedBy c with
  | some x =>
    if (s.AtThreshold c ∨ (s.xp x).map (·.remapPending) = some true) ∧ (s.col c).stack = [] ∧
        s.reservations c = 0 ∧ (s.col c).inbound = false then
      [.remapDone x c (s.spareIn (s.zoneOf c))]
    else []
  | none => []

/-- The map after a FAILED end (01, R14, R20). -/
def faultMap (s : State) (c : Nat) : List (Option XpEntry) :=
  match s.mappedBy c with
  | some x =>
    if s.faultRemaps c ≠ [] then
      updateAt s.xpMap x fun _ => (s.spareIn (s.zoneOf c)).map (⟨·, false⟩)
    else if s.AtThreshold c then updateAt s.xpMap x fun _ => some ⟨c, true⟩
    else s.xpMap
  | none => s.xpMap

section
variable {s : State} {c : Nat} {f : LastFault} {d : Defn}

theorem faultEnd_below (defn : s.defn c = some d) (below : ¬s.AtThreshold c)
    (called : s.audit.called ≠ some c) :
    s.faultEnd c f =
      (((s.faulted c f).remapped c).modCol c
        fun k => k.graced (s.params.releaseGrace * 1000)).notifyAll
          ((s.faulted c f).remapNotices c) := by
  unfold faultEnd
  rw [countFault_below defn below, examineRemap_emit (s := s.faulted c f) called, startGrace_eq,
    notifyAll_params, notifyAll_modCol]
  rfl

theorem faultEnd_retires (defn : s.defn c = some d) (at_ : s.AtThreshold c)
    (called : s.audit.called ≠ some c) :
    s.faultEnd c f =
      ((((s.faulted c f).remapped c).remapped c).modCol c
        fun k => k.graced (s.params.releaseGrace * 1000)).notifyAll
          ((s.retiredNotice c f d :: (s.faulted c f).remapNotices c) ++
            ((s.faulted c f).remapped c).remapNotices c) := by
  have idle : (((s.faulted c f).remapped c).notifyAll
      (s.retiredNotice c f d :: (s.faulted c f).remapNotices c)).audit.called ≠ some c := by
    rw [notifyAll_audit]
    exact called
  unfold faultEnd
  rw [countFault_retires defn at_ called, examineRemap_emit idle, startGrace_eq, notifyAll_params,
    remapped_notifyAll, remapNotices_notifyAll, ← notifyAll_append, notifyAll_params,
    notifyAll_modCol]
  rfl

/-- What the tail of a FAILED end leaves beside the map and the link. -/
theorem faultEnd_rest (defn : s.defn c = some d) (called : s.audit.called ≠ some c) :
    { s.faultEnd c f with link := s.link, xpMap := s.xpMap } =
      s.modCol c fun k =>
        (k.faulted f s.params.faultThreshold).graced (s.params.releaseGrace * 1000) := by
  have writes : ∀ m, { (s.faulted c f).modCol c (fun k => k.graced (s.params.releaseGrace * 1000)) with
      xpMap := m } = { s.modCol c fun k =>
        (k.faulted f s.params.faultThreshold).graced (s.params.releaseGrace * 1000) with
          xpMap := m } := fun m => by
    have both := s.modCol_modCol c (fun k => k.faulted f s.params.faultThreshold)
      (fun k => k.graced (s.params.releaseGrace * 1000))
    exact congrArg (fun v : State => { v with xpMap := m }) both
  by_cases at_ : s.AtThreshold c
  · rw [faultEnd_retires defn at_ called, notifyAll_eq]
    exact writes s.xpMap
  · rw [faultEnd_below defn at_ called, notifyAll_eq]
    exact writes s.xpMap

theorem faulted_idle (idle : (s.col c).op = none) (lt : c < s.columns.length) :
    (s.faulted c f).remapNotices c =
      match s.mappedBy c with
      | some x =>
        if ((s.faulted c f).xp x).map (·.remapPending) = some true ∧ (s.col c).stack = [] ∧
            s.reservations c = 0 ∧ (s.col c).inbound = false then
          [.remapDone x c (s.spareIn (s.zoneOf c))]
        else []
      | none => [] := by
  have col := faulted_col_same (f := f) lt
  rw [remapNotices_after (s := s) (by rw [col]; exact idle) faulted_defn faulted_mappedBy
    fun e ne => by rw [faulted_col_ne ne], col]
  rfl

theorem faulted_remapNotices (idle : (s.col c).op = none) (lt : c < s.columns.length) :
    (s.faulted c f).remapNotices c = s.faultRemaps c := by
  rw [faulted_idle idle lt, faultRemaps]
  cases m : s.mappedBy c with
  | none => rfl
  | some x =>
    have named := ((mappedBy_eq_some s c x).mp m).1
    have pending : (((s.faulted c f).xp x).map (·.remapPending) = some true) ↔
        (s.AtThreshold c ∨ (s.xp x).map (·.remapPending) = some true) := by
      by_cases at_ : s.AtThreshold c
      · have writes : (s.faulted c f).xpMap = (s.setXp x (some ⟨c, true⟩)).xpMap := by
          show (if s.AtThreshold c then s.pendingMap c else s.xpMap) = _
          rw [if_pos at_, pendingMap, m]
          rfl
        rw [xp_congr writes, xp_setXp_same s (lt_of_mapped named)]
        exact ⟨fun _ => .inl at_, fun _ => rfl⟩
      · have writes : (s.faulted c f).xpMap = s.xpMap := if_neg at_
        rw [xp_congr writes]
        exact ⟨.inr, fun h => h.resolve_left at_⟩
    simp only [pending]

theorem faulted_remapMap (idle : (s.col c).op = none) (lt : c < s.columns.length) :
    (s.faulted c f).remapMap c = s.faultMap c := by
  rw [remapMap_after (s := s) faulted_defn faulted_mappedBy fun e ne => by rw [faulted_col_ne ne],
    faulted_remapNotices idle lt, faultMap]
  have writes : (s.faulted c f).xpMap = if s.AtThreshold c then s.pendingMap c else s.xpMap := rfl
  rw [writes]
  unfold pendingMap
  cases m : s.mappedBy c with
  | none => simp
  | some x =>
    dsimp only
    by_cases done : s.faultRemaps c = []
    · rw [if_pos done, if_neg (not_not.mpr done)]
    · rw [if_neg done, if_pos done]
      by_cases at_ : s.AtThreshold c
      · rw [if_pos at_, updateAt_updateAt]
        rfl
      · rw [if_neg at_]

/-- The notices and the map of the tail of a FAILED end (01, R14, R20). -/
theorem faultEnd_told (inj : s.MapInjective) (defn : s.defn c = some d)
    (idle : (s.col c).op = none) (called : s.audit.called ≠ some c) :
    (s.faultEnd c f).link = (s.notifyAll (s.faultTells c f d ++ s.faultRemaps c)).link ∧
      (s.faultEnd c f).xpMap = s.faultMap c := by
  have lt := s.lt_of_defn defn
  have notices := faulted_remapNotices (f := f) idle lt
  have map := faulted_remapMap (f := f) idle lt
  by_cases at_ : s.AtThreshold c
  · have still : (s.faulted c f).MapInjective := inj.congr faulted_xp_column
    have silent := remapNotices_again (c := c) still
    have again : ((s.faulted c f).remapped c).remapMap c = (s.faulted c f).remapMap c :=
      remapMap_of_silent silent
    rw [faultEnd_retires defn at_ called, silent, List.append_nil, notices, faultTells, if_pos at_]
    refine ⟨notifyAll_link _ rfl rfl, ?_⟩
    rw [notifyAll_xpMap]
    exact again.trans map
  · rw [faultEnd_below defn at_ called, notices, faultTells, if_neg at_]
    refine ⟨notifyAll_link _ rfl rfl, ?_⟩
    rw [notifyAll_xpMap]
    exact map

end

end State

end Sys2Proof.Machine
end

section
/-! PROOFS. A FAILED end (04, R99). O41 is settled here. -/

namespace Sys2Proof.Machine

namespace State

/-- The state of a FAILED end before the count of the fault, `b` saying whether the stack differs
(04, R99; 06, R132). -/
def failedState (s : State) (c : Nat) (o : Operation) (b : Bool) : State :=
  { ((s.operationClosed c o false).differing c b).modCol c fun k =>
      unverifiedIf k (s.audit.called = some c) with
    audit := s.callEnded c }

section
variable {s : State} {c : Nat} {o : Operation} {b : Bool}

theorem closedDiffering_rest (s : State) (c : Nat) (o : Operation) (b : Bool) :
    { (s.operationClosed c o false).differing c b with
      columns := s.columns, handovers := s.handovers } = s := by
  have closed := s.operationClosed_rest c o false
  have rest := (s.operationClosed c o false).differing_rest c b
  exact (congrArg (fun v : State => { v with columns := s.columns, handovers := s.handovers })
    rest).trans closed

theorem failedState_rest (s : State) (c : Nat) (o : Operation) (b : Bool) :
    { s.failedState c o b with columns := s.columns, handovers := s.handovers, audit := s.audit } =
      s :=
  congrArg (fun v : State => { v with audit := s.audit }) (s.closedDiffering_rest c o b)

theorem closed_inTable (lt : c < s.columns.length) :
    c < (s.operationClosed c o false).columns.length := by
  rw [operationClosed_columns]
  simpa using lt

theorem failedState_frame (s : State) (c : Nat) (o : Operation) (b : Bool) :
    BlockFrame s (s.failedState c o b) :=
  (((BlockFrame.returnRecords s false o).trans (.clearOp _ c o)).trans
    ((differing_frame _ c b).trans
      (.modCol _ c (fun k => unverifiedIf k (s.audit.called = some c)) (fun _ => rfl) fun _ => rfl))).trans
    (.audit _ _)

theorem failedState_col_same (lt : c < s.columns.length) :
    (s.failedState c o b).col c =
      unverifiedIf
        { (s.col c).operationOver o with
          causes := { (s.col c).causes with discrepancy := (s.col c).causes.discrepancy || b } }
        (s.audit.called = some c) := by
  have size : c < ((s.operationClosed c o false).differing c b).columns.length := by
    rw [(differing_frame _ c b).toFrame.columns_length]
    exact closed_inTable lt
  refine Eq.trans (col_modCol_same _ size _) ?_
  rw [differing_col_same (closed_inTable lt), operationClosed_col, s.col_modCol_same lt]
  rfl

theorem failedState_col_ne {e : Nat} (h : e ≠ c) : (s.failedState c o b).col e = s.col e := by
  refine Eq.trans (col_modCol_ne _ h _) ?_
  rw [differing_col_ne h, operationClosed_col, s.col_modCol_ne h]

theorem closed_suspends (s : State) (c : Nat) (o : Operation) (e : Nat) :
    (s.operationClosed c o false).suspends e = s.suspends e := by
  refine suspends_congr (congrArg State.zones (s.operationClosed_rest c o false) :) ?_ ?_
  · exact (congrArg Column.defn (operationClosed_col s c o false e)).trans
      (s.defn_modCol c e _ fun _ => rfl)
  · exact (congrArg Column.causes (operationClosed_col s c o false e)).trans
      (s.col_modCol_proj (·.causes) c e _ fun _ => rfl)

theorem failedState_suspends (e : Nat) :
    (s.failedState c o b).suspends e = ((s.operationClosed c o false).differing c b).suspends e :=
  suspends_congr rfl (defn_modCol _ c e _ fun _ => rfl)
    (col_modCol_proj _ (·.causes) c e _ fun _ => rfl)

theorem failedState_suspends_same (lt : c < s.columns.length) (yes : b = true) :
    (s.failedState c o b).suspends c = true :=
  (failedState_suspends c).trans (differing_suspends_same (closed_inTable lt) yes)

theorem failedState_suspends_ne {e : Nat} (h : e ≠ c ∨ b = false) :
    (s.failedState c o b).suspends e = s.suspends e :=
  (failedState_suspends e).trans ((differing_suspends_ne h).trans (s.closed_suspends c o e))

theorem failedState_handover_eq {n : Nat} {h : Handover} (lt : c < s.columns.length)
    (known : (s.returnRecords false o).handover n = some h) :
    (s.failedState c o b).handover n =
      some (if b = true ∧ h.column = some c then h.suspended else h) :=
  differing_handover (s := s.operationClosed c o false) (closed_inTable lt) known

/-- A record of the operation's halves returns, its uncertain flag as it was (02, R53). -/
theorem failedState_handover_prior {n : Nat} {h : Handover} {st : HandoverState}
    (lt : c < s.columns.length) (nodup : (o.priors.map Prod.fst).Nodup)
    (known : s.handover n = some h) (prior : (n, st) ∈ o.priors) :
    (s.failedState c o b).handover n =
      some (h.returned st false (s.failedState c o b).suspends) := by
  rw [failedState_handover_eq lt ((returnRecords_handover false nodup known).1 st prior),
    Handover.returned_column]
  refine congrArg some ?_
  by_cases here : b = true ∧ h.column = some c
  · rw [if_pos here]
    exact Handover.returned_suspended st false here.2 (failedState_suspends_same lt here.1)
  · rw [if_neg here]
    refine Handover.returned_congr st false ?_
    cases column : h.column with
    | none => rfl
    | some d =>
      have other : d ≠ c ∨ b = false := by
        by_cases same : d = c
        · exact .inr (by simpa [column, same] using here)
        · exact .inl same
      simp only [Option.any_some, failedState_suspends_ne other]

/-- Another record on the column is SUSPENDED by a MISMATCH, and the others stay (02, R43). -/
theorem failedState_handover_other {n : Nat} {h : Handover} (lt : c < s.columns.length)
    (nodup : (o.priors.map Prod.fst).Nodup) (known : s.handover n = some h)
    (other : n ∉ o.priors.map Prod.fst) :
    (s.failedState c o b).handover n =
      some (if b = true ∧ h.column = some c then h.suspended else h) :=
  failedState_handover_eq lt ((returnRecords_handover false nodup known).2 other)

end

/-! ### The observation -/

theorem tagOf_congr {s t : State} (frame : BlockFrame s t) (n : Nat) : t.tagOf n = s.tagOf n := by
  have tags := congrArg (Option.map fun p => p.2.1) (frame.handover n)
  rw [Option.map_map, Option.map_map] at tags
  exact congrArg (fun x : Option BinTag => x.getD 0) tags

theorem entryTag_congr {s t : State} (frame : BlockFrame s t) (e : Entry) :
    t.entryTag e = s.entryTag e := by
  cases e with
  | tracked n => exact tagOf_congr frame n
  | foreign u => rfl

theorem entryView_congr {s t : State} (frame : BlockFrame s t) : t.entryView = s.entryView := by
  funext e
  cases e with
  | tracked n => exact congrArg (EntryView.tracked n) (tagOf_congr frame n)
  | foreign u => rfl

theorem compare_congr {s t : State} (frame : BlockFrame s t) (c height : Nat) (tag : BinTag) :
    t.compare c height tag = s.compare c height tag := by
  unfold compare top
  rw [frame.stack]
  simp only [entryTag_congr frame]

/-- The DISCREPANCY of a FAILED end (04, R97). -/
def failedDiffers (s : State) (c : Nat) (o : Operation) (height : Nat) (tag : BinTag) :
    List NoticeBody :=
  if s.compare c height tag = .mismatch then [s.discrepancyNotice c o .failed height tag] else []

/-- COLUMN_UNVERIFIED of a call that a FAILED end fails (06, R135). -/
def failedFails (s : State) (c : Nat) (b : Bool) : List NoticeBody :=
  if s.audit.called = some c then
    [.columnUnverified c (s.mappedBy c) (s.zoneOf c) .opFailed (s.col c).verification
      { (s.col c).causes with discrepancy := (s.col c).causes.discrepancy || b }
      (s.col c).stack.length]
  else []

theorem mismatched_eq {s : State} {c : Nat} {o : Operation} {height : Nat} {tag : BinTag} :
    (if (s.operationClosed c o false).compare c height tag = .mismatch then
        (s.operationClosed c o false).mismatched c o .failed height tag
      else s.operationClosed c o false) =
      ((s.operationClosed c o false).differing c (s.compare c height tag = .mismatch)).notifyAll
        (s.failedDiffers c o height tag) := by
  have frame : BlockFrame s (s.operationClosed c o false) :=
    (BlockFrame.returnRecords s false o).trans (.clearOp _ c o)
  rw [compare_congr frame]
  unfold failedDiffers
  by_cases differs : s.compare c height tag = .mismatch
  · rw [if_pos differs, if_pos differs]
    have more := frame.trans (.addDiscrepancy _ c)
    have mapped : (s.operationClosed c o false).mappedBy c = s.mappedBy c :=
      mappedBy_congr (congrArg State.xpMap (s.operationClosed_rest c o false) :) c
    have notice : (s.operationClosed c o false).discrepancyNotice c o .failed height tag =
        s.discrepancyNotice c o .failed height tag := by
      unfold discrepancyNotice topView top
      rw [mapped, frame.stack, entryView_congr frame]
    unfold mismatched
    rw [notice, differs]
    rfl
  · rw [if_neg differs, if_neg differs]
    simp only [differs, decide_false]
    rfl

theorem failed_audit {s : State} {c : Nat} {o : Operation} {b : Bool} (lt : c < s.columns.length)
    (bs : List NoticeBody) :
    (((s.operationClosed c o false).differing c b).notifyAll bs).auditEnd c .failed =
      ((s.failedState c o b).notifyAll bs, s.failedFails c b) := by
  have audit : ((s.operationClosed c o false).differing c b).audit = s.audit :=
    (congrArg State.audit (s.closedDiffering_rest c o b) :)
  have told : (((s.operationClosed c o false).differing c b).notifyAll bs).audit = s.audit :=
    (notifyAll_audit _ bs).trans audit
  have col : (((s.operationClosed c o false).differing c b).notifyAll bs).col c =
      { (s.col c).operationOver o with
        causes := { (s.col c).causes with discrepancy := (s.col c).causes.discrepancy || b } } := by
    have same : (((s.operationClosed c o false).differing c b).notifyAll bs).col c =
        ((s.operationClosed c o false).differing c b).col c := by
      simp only [State.col, notifyAll_columns]
    rw [same, differing_col_same (closed_inTable lt), operationClosed_col, s.col_modCol_same lt]
    rfl
  have mapped : (((s.operationClosed c o false).differing c b).notifyAll bs).mappedBy c =
      s.mappedBy c := by
    have map : ((s.operationClosed c o false).differing c b).xpMap = s.xpMap :=
      (congrArg State.xpMap (s.closedDiffering_rest c o b) :)
    exact mappedBy_congr ((notifyAll_xpMap _ bs).trans map) c
  have zone : (((s.operationClosed c o false).differing c b).notifyAll bs).zoneOf c = s.zoneOf c :=
    congrArg (fun d => (d.map (·.zone)).getD 0) (congrArg Column.defn col)
  have ended : (((s.operationClosed c o false).differing c b).notifyAll bs).callEnded c =
      s.callEnded c := by
    unfold callEnded
    rw [told]
  rw [auditEnd_failing (.inl ⟨rfl, rfl⟩), told, ended, notifyAll_modCol, notifyAll_audits]
  refine Prod.ext rfl ?_
  unfold unverifiedNotice failedFails
  rw [mapped, zone, col]
  rfl

/-- The state of a FAILED end before its answer (04, R99). -/
def failedEnd (s : State) (c : Nat) (o : Operation) (height : Nat) (tag : BinTag) : State :=
  ((s.failedState c o (s.compare c height tag = .mismatch)).notifyAll
    (s.failedDiffers c o height tag ++ s.failedFails c (s.compare c height tag = .mismatch))).faultEnd
      c (.opFailed o.kind o.robot)

theorem endFailed_eq {s : State} {c : Nat} {o : Operation} {height : Nat} {tag : BinTag}
    (lt : c < s.columns.length) :
    s.endFailed c o height tag =
      (s.failedEnd c o height tag).send o.robot
        (.accepted (.compared c (s.compare c height tag))) := by
  have frame : BlockFrame s (s.operationClosed c o false) :=
    (BlockFrame.returnRecords s false o).trans (.clearOp _ c o)
  have compared := compare_congr frame c height tag
  unfold endFailed
  rw [show s.closeFailed c o = s.operationClosed c o false from rfl]
  dsimp only
  rw [mismatched_eq, failed_audit lt, compared]
  unfold failedEnd
  rw [notifyAll_append]
  rfl

section
variable {s : State} {c : Nat} {o : Operation} {height : Nat} {tag : BinTag} {d : Defn}

theorem withLinkMap_congr {t u : State} {l : LinkUnit} {m : List (Option XpEntry)} (l' : LinkUnit)
    (m' : List (Option XpEntry)) (h : { t with link := l, xpMap := m } = u) :
    { t with link := l', xpMap := m' } = { u with link := l', xpMap := m' } := by
  rw [← h]

theorem withLinkMap_fields {t u : State} {l : LinkUnit} {m : List (Option XpEntry)}
    (h : { t with link := l, xpMap := m } = u) :
    t.columns = u.columns ∧ t.handovers = u.handovers ∧ t.zones = u.zones ∧ t.roster = u.roster ∧
      t.audit = u.audit := by
  rw [← h]
  exact ⟨rfl, rfl, rfl, rfl, rfl⟩

theorem failedTold_defn {b : Bool} {bs : List NoticeBody} (defn : s.defn c = some d) :
    ((s.failedState c o b).notifyAll bs).defn c = some d :=
  ((BlockFrame.notifyAll _ bs).toFrame.defn c).trans
    (((s.failedState_frame c o b).toFrame.defn c).trans defn)

theorem failedTold_called {b : Bool} {bs : List NoticeBody} :
    ((s.failedState c o b).notifyAll bs).audit.called ≠ some c := by
  rw [notifyAll_audit]
  exact s.callEnded_called c

theorem failedEnd_rest (defn : s.defn c = some d) :
    { s.failedEnd c o height tag with link := s.link, xpMap := s.xpMap } =
      (s.failedState c o (s.compare c height tag = .mismatch)).modCol c fun k =>
        (k.faulted (.opFailed o.kind o.robot) s.params.faultThreshold).graced
          (s.params.releaseGrace * 1000) := by
  have tail := faultEnd_rest (f := .opFailed o.kind o.robot)
    (failedTold_defn (o := o) (b := s.compare c height tag = .mismatch) (bs :=
      s.failedDiffers c o height tag ++ s.failedFails c (s.compare c height tag = .mismatch)) defn)
    failedTold_called
  have still := s.failedState_rest c o (s.compare c height tag = .mismatch)
  have link : (s.failedState c o (s.compare c height tag = .mismatch)).link = s.link :=
    (congrArg State.link still :)
  have map : (s.failedState c o (s.compare c height tag = .mismatch)).xpMap = s.xpMap :=
    (congrArg State.xpMap still :)
  have params : (s.failedState c o (s.compare c height tag = .mismatch)).params = s.params :=
    (congrArg State.params still :)
  rw [notifyAll_params, params] at tail
  refine (withLinkMap_congr s.link s.xpMap tail).trans ?_
  rw [notifyAll_modCol, notifyAll_eq, ← link, ← map]
  rfl

theorem failedEnd_col (defn : s.defn c = some d) (e : Nat) :
    (s.failedEnd c o height tag).col e =
      ((s.failedState c o (s.compare c height tag = .mismatch)).modCol c fun k =>
        (k.faulted (.opFailed o.kind o.robot) s.params.faultThreshold).graced
          (s.params.releaseGrace * 1000)).col e := by
  obtain ⟨columns, -⟩ := withLinkMap_fields
    (failedEnd_rest (o := o) (height := height) (tag := tag) defn)
  exact col_congr columns e

theorem failedEnd_col_same (defn : s.defn c = some d) :
    (s.failedEnd c o height tag).col c =
      (((s.failedState c o (s.compare c height tag = .mismatch)).col c).faulted
        (.opFailed o.kind o.robot) s.params.faultThreshold).graced (s.params.releaseGrace * 1000) := by
  have size : c < (s.failedState c o (s.compare c height tag = .mismatch)).columns.length := by
    rw [(s.failedState_frame c o _).toFrame.columns_length]
    exact s.lt_of_defn defn
  rw [failedEnd_col defn, col_modCol_same _ size]

theorem failedEnd_col_ne (defn : s.defn c = some d) {e : Nat} (h : e ≠ c) :
    (s.failedEnd c o height tag).col e = s.col e := by
  rw [failedEnd_col defn, col_modCol_ne _ h, failedState_col_ne h]

theorem failedEnd_handovers (defn : s.defn c = some d) :
    (s.failedEnd c o height tag).handovers =
      (s.failedState c o (s.compare c height tag = .mismatch)).handovers := by
  obtain ⟨-, handovers, -⟩ := withLinkMap_fields
    (failedEnd_rest (o := o) (height := height) (tag := tag) defn)
  exact handovers

theorem failedEnd_suspends (defn : s.defn c = some d) :
    (s.failedEnd c o height tag).suspends =
      (s.failedState c o (s.compare c height tag = .mismatch)).suspends := by
  funext e
  obtain ⟨-, -, zones, -⟩ := withLinkMap_fields
    (failedEnd_rest (o := o) (height := height) (tag := tag) defn)
  have col := failedEnd_col (o := o) (height := height) (tag := tag) defn e
  refine suspends_congr zones ?_ ?_
  · exact (congrArg Column.defn col).trans (defn_modCol _ c e _ fun _ => rfl)
  · exact (congrArg Column.causes col).trans (col_modCol_proj _ (·.causes) c e _ fun _ => rfl)

/-- Notices issued before the tail of a FAILED end do not reach into it. -/
theorem faultTail_notifyAll (v : State) (bs : List NoticeBody) (c : Nat) (f : LastFault) (d : Defn) :
    (v.notifyAll bs).faultTells c f d = v.faultTells c f d ∧
      (v.notifyAll bs).faultRemaps c = v.faultRemaps c ∧
      (v.notifyAll bs).faultMap c = v.faultMap c := by
  rw [notifyAll_eq]
  exact ⟨rfl, rfl, rfl⟩

/-- The notices and the map of a FAILED end (04, R99; 01, R14, R20). -/
theorem failedEnd_told (inj : s.MapInjective) (defn : s.defn c = some d) :
    let v := s.failedState c o (s.compare c height tag = .mismatch)
    (s.failedEnd c o height tag).link =
        (s.notifyAll (s.failedDiffers c o height tag ++
          s.failedFails c (s.compare c height tag = .mismatch) ++
          v.faultTells c (.opFailed o.kind o.robot) d ++ v.faultRemaps c)).link ∧
      (s.failedEnd c o height tag).xpMap = v.faultMap c := by
  intro v
  generalize told : s.failedDiffers c o height tag ++
    s.failedFails c (s.compare c height tag = .mismatch) = bs
  have rest := s.failedState_rest c o (s.compare c height tag = .mismatch)
  have map : v.xpMap = s.xpMap := (congrArg State.xpMap rest :)
  have link : v.link = s.link := (congrArg State.link rest :)
  have time : v.time = s.time := (congrArg State.time rest :)
  have injective : (v.notifyAll bs).MapInjective := by
    intro x y
    rw [xp_congr ((v.notifyAll_xpMap bs).trans map), xp_congr ((v.notifyAll_xpMap bs).trans map)]
    exact inj x y
  have idle : ((v.notifyAll bs).col c).op = none := by
    have same : (v.notifyAll bs).col c = v.col c := by simp only [State.col, notifyAll_columns]
    rw [same, failedState_col_same (s.lt_of_defn defn)]
    rfl
  have tail := faultEnd_told (f := .opFailed o.kind o.robot) injective
    (failedTold_defn (o := o) (b := s.compare c height tag = .mismatch) (bs := bs) defn) idle
    failedTold_called
  obtain ⟨tells, remaps, after⟩ := v.faultTail_notifyAll bs c (.opFailed o.kind o.robot) d
  rw [tells, remaps, after, ← notifyAll_append, ← List.append_assoc] at tail
  unfold failedEnd
  rw [told]
  exact ⟨tail.1.trans (notifyAll_link _ link time), tail.2⟩

end

end State

end Sys2Proof.Machine
end

section
/-! PROOFS. A FAILED end as the obligation states it (04, R99). O41 is settled here. -/

namespace Sys2Proof.Machine

namespace State

/-- What DISCREPANCY on a MISMATCH does to the causes of a column (04, R97). -/
theorem causes_mismatch (k : Causes) (r : Compare) :
    { k with discrepancy := k.discrepancy || decide (r = .mismatch) } =
      if r = .mismatch then { k with discrepancy := true } else k := by
  by_cases h : r = .mismatch <;> simp [h]

section
variable {s : State} {c : Nat} {o : Operation} {height : Nat} {tag : BinTag} {d : Defn} {b : Bool}

theorem failedState_params : (s.failedState c o b).params = s.params :=
  (congrArg State.params (s.failedState_rest c o b) :)

theorem failedState_xpMap : (s.failedState c o b).xpMap = s.xpMap :=
  (congrArg State.xpMap (s.failedState_rest c o b) :)

theorem failedState_atThreshold (lt : c < s.columns.length) :
    (s.failedState c o b).AtThreshold c ↔ s.AtThreshold c := by
  unfold AtThreshold
  rw [failedState_col_same lt, failedState_params]
  rfl

theorem failedState_retired (lt : c < s.columns.length) (e : Nat) :
    ((s.failedState c o b).col e).retired = (s.col e).retired := by
  by_cases same : e = c
  · rw [same, failedState_col_same lt]
    rfl
  · rw [failedState_col_ne same]

/-- REMAP_DONE of a FAILED end, in the terms of the state before it. -/
theorem failedState_faultRemaps (defn : s.defn c = some d) :
    (s.failedState c o b).faultRemaps c =
      match s.mappedBy c with
      | some x =>
        if (s.AtThreshold c ∨ (s.xp x).map (·.remapPending) = some true) ∧ (s.col c).stack = [] ∧
            (s.failedState c o b).reservations c = 0 ∧
            (if o.inboundTaken then false else (s.col c).inbound) = false then
          [.remapDone x c (s.spareIn d.zone)]
        else []
      | none => [] := by
  have lt := s.lt_of_defn defn
  have frame := (s.failedState_frame c o b).toFrame
  have zone : (s.failedState c o b).zoneOf c = d.zone := zoneOf_defined ((frame.defn c).trans defn)
  have spare := spareIn_congr frame.defn (mappedBy_congr failedState_xpMap)
    (failedState_retired (o := o) (b := b) lt)
  unfold faultRemaps
  rw [mappedBy_congr failedState_xpMap, zone, spare]
  simp only [failedState_atThreshold lt, xp_congr failedState_xpMap, failedState_col_same lt]
  cases s.mappedBy c <;> rfl

theorem failedState_faultMap (defn : s.defn c = some d) :
    (s.failedState c o b).faultMap c =
      match s.mappedBy c with
      | some x =>
        if (s.failedState c o b).faultRemaps c ≠ [] then
          updateAt s.xpMap x fun _ => (s.spareIn d.zone).map (⟨·, false⟩)
        else if s.AtThreshold c then updateAt s.xpMap x fun _ => some ⟨c, true⟩
        else s.xpMap
      | none => s.xpMap := by
  have lt := s.lt_of_defn defn
  have frame := (s.failedState_frame c o b).toFrame
  have zone : (s.failedState c o b).zoneOf c = d.zone := zoneOf_defined ((frame.defn c).trans defn)
  have spare := spareIn_congr frame.defn (mappedBy_congr failedState_xpMap)
    (failedState_retired (o := o) (b := b) lt)
  unfold faultMap
  rw [mappedBy_congr failedState_xpMap, zone, spare, failedState_xpMap]
  cases s.mappedBy c with
  | none => rfl
  | some x => simp only [failedState_atThreshold lt]

/-- COLUMN_RETIRED of a FAILED end, in the terms of the state before it. -/
theorem failedState_faultTells (lt : c < s.columns.length) (f : LastFault) :
    (s.failedState c o b).faultTells c f d =
      if s.AtThreshold c then
        [.columnRetired c d.x d.y d.zone .faults ((s.col c).faultCount + 1) (some f) (s.mappedBy c)
          (s.col c).stack.length ((s.failedState c o b).reservations c)
          (if o.inboundTaken then false else (s.col c).inbound)]
      else [] := by
  unfold faultTells retiredNotice
  rw [mappedBy_congr failedState_xpMap]
  simp only [failedState_atThreshold lt, failedState_col_same lt]
  rfl

end

end State

/-- Settles O41: the records and the column, then the fault, whose remap is examined twice. -/
theorem failedEndReturnsTheRecords : Obligations.FailedEndReturnsTheRecords := by
  unfold Obligations.FailedEndReturnsTheRecords
  intro addr cb h t3 t2 t1 t0 r d o s a c tag known here defn op own small nodup
    k result called retires spare
  have lt := s.lt_of_defn defn
  have compared : s.compare c h.toNat tag = result := rfl
  have zone : s.zoneOf c = d.zone := State.zoneOf_defined defn
  have spares : s.spareIn d.zone = spare := State.spareIn_eq_find s d.zone
  have taken := takeOpEnd_working (c := c) (res := 1) (height := h.toNat) (tag := tag) here defn op own
  rw [show OpResult.ofByte? 1 = some .failed from rfl] at taken
  dsimp only at taken
  rw [if_neg (Nat.not_lt.mpr small), State.endFailed_eq lt, compared, own] at taken
  have colSame := State.failedEnd_col_same (o := o) (height := h.toNat) (tag := tag) defn
  rw [State.failedState_col_same lt, compared, State.causes_mismatch, own] at colSame
  have reserved : (s.failedEnd c o h.toNat tag).reservations c =
      (s.failedState c o (result = .mismatch)).reservations c :=
    congrArg (List.countP _) (State.failedEnd_handovers defn)
  have suspends := State.failedEnd_suspends (o := o) (height := h.toNat) (tag := tag) defn
  refine ⟨s.failedEnd c o h.toNat tag, ?_⟩
  intro differs fails tells remaps
  have isDiffers : s.failedDiffers c o h.toNat tag = differs := by
    unfold State.failedDiffers
    rw [compared]
    unfold State.discrepancyNotice
    rw [own]
    rfl
  have isFails : s.failedFails c (result = .mismatch) = fails := by
    unfold State.failedFails
    rw [State.causes_mismatch, zone]
    show _ = if called then _ else _
    rw [colSame]
    rfl
  have isTells : (s.failedState c o (result = .mismatch)).faultTells c (.opFailed o.kind o.robot) d =
      tells := by
    rw [State.failedState_faultTells lt, ← reserved, own]
    show _ = if retires then _ else _
    rw [colSame]
    rfl
  have isRemaps : (s.failedState c o (result = .mismatch)).faultRemaps c = remaps := by
    rw [State.failedState_faultRemaps defn, ← reserved, spares]
    show _ = match s.mappedBy c with | some x => _ | none => _
    rw [colSame]
    cases s.mappedBy c <;> rfl
  have isMap := State.failedState_faultMap (o := o) (b := result = .mismatch) defn
  rw [isRemaps, spares] at isMap
  have still := s.failedState_rest c o (result = .mismatch)
  obtain ⟨-, -, zones, roster, audit⟩ := State.withLinkMap_fields
    (State.failedEnd_rest (o := o) (height := h.toNat) (tag := tag) defn)
  refine ⟨(exec_opEnd known).trans (congrArg (fun t : State => Host.Outcome.next t.startTx) taken),
    ?_, fun e ne => State.failedEnd_col_ne defn ne, ?_, ?_, fun inj => ?_, ?_,
    fun n q st there prior => ?_, fun n q there other => ?_⟩
  · exact colSame
  · exact roster.trans (congrArg State.roster still :)
  · exact zones.trans (congrArg State.zones still :)
  · obtain ⟨link, map⟩ := State.failedEnd_told (o := o) (height := h.toNat) (tag := tag) inj defn
    rw [compared, isDiffers, isFails, isTells, isRemaps] at link
    refine ⟨link, map.trans (isMap.trans ?_)⟩
    cases s.mappedBy c <;> rfl
  · exact audit
  · have record := State.failedState_handover_prior (b := result = .mismatch) lt nodup there prior
    rw [← compared, ← suspends, ← State.handover_congr (State.failedEnd_handovers defn)] at record
    refine record.trans ?_
    unfold Handover.returned
    rw [Bool.or_false]
  · have record := State.failedState_handover_other (b := result = .mismatch) lt nodup there other
    rw [← compared, ← State.handover_congr (State.failedEnd_handovers defn), compared,
      State.suspended_eq] at record
    refine record.trans ?_
    simp only [decide_eq_true_eq]

end Sys2Proof.Machine
end

section
/-! PROOFS. What the halves of an OK end write (04, R92 to R94; 02, R50 to R52). -/

namespace Sys2Proof.Machine

/-- A robot after the set half of an OK end (04, R93). -/
def Robot.afterSet (r : Robot) (p : Option SetHalf) : Robot :=
  if p = none then r else { r with slot := .empty, loadConfirmed := false }

/-- A column after an OK end's stack change, its operation over and its settle mark written but for a
SCAN (04, R92, R94). -/
def Column.okOver (k : Column) (o : Operation) (stack : List Entry) (now : Word32) : Column :=
  { k with
    stack := stack
    op := none
    inbound := if o.inboundTaken then false else k.inbound
    settleMark :=
      if o.kind = .scan then k.settleMark else some ⟨now, (k.defn.map (·.settle)).getD 0⟩ }

namespace State

/-! ### The set half -/

section
variable {s : State} {c a i n : Nat} {r : Robot} {h : Handover} {p : Option SetHalf}

theorem finishSet_rest (s : State) (c a i : Nat) (p : Option SetHalf) :
    { s.finishSet c a i p with handovers := s.handovers, roster := s.roster } = s := by
  have slot : ∀ t : State, { t with handovers := s.handovers } = s →
      { t.setSlot a .empty false with handovers := s.handovers, roster := s.roster } = s := fun t h => by
    rw [setSlot_rest]
    exact congrArg (fun v : State => { v with roster := s.roster }) h
  cases p with
  | none => rfl
  | some q => cases q <;> exact slot _ rfl

theorem finishSet_robot_same (known : s.robot a = some r) :
    (s.finishSet c a i p).robot a = some (r.afterSet p) := by
  cases p with
  | none => exact known
  | some q =>
    cases q with
    | reserved n => exact robot_setSlot_same (s := s.modHandover n (s.setDown c i false)) _ _ known
    | relocation n => exact robot_setSlot_same (s := s.modHandover n (s.setDown c i true)) _ _ known
    | untracked u => exact robot_setSlot_same _ _ known

theorem finishSet_robot_ne {e : Nat} (ne : e ≠ a) : (s.finishSet c a i p).robot e = s.robot e := by
  cases p with
  | none => rfl
  | some q =>
    cases q with
    | reserved n => exact robot_setSlot_ne (s := s.modHandover n (s.setDown c i false)) _ _ ne
    | relocation n => exact robot_setSlot_ne (s := s.modHandover n (s.setDown c i true)) _ _ ne
    | untracked u => exact robot_setSlot_ne _ _ ne

theorem finishSet_handover_ne (other : p.bind SetHalf.handover ≠ some n) :
    (s.finishSet c a i p).handover n = s.handover n := by
  cases p with
  | none => rfl
  | some q =>
    cases q with
    | reserved m =>
      have ne : n ≠ m := fun e => other (congrArg some e.symm)
      exact (handover_congr (setSlot_handovers _ a _ _) n).trans
        (s.handover_modHandover_ne ne (s.setDown c i false) fun _ => rfl)
    | relocation m =>
      have ne : n ≠ m := fun e => other (congrArg some e.symm)
      exact (handover_congr (setSlot_handovers _ a _ _) n).trans
        (s.handover_modHandover_ne ne (s.setDown c i true) fun _ => rfl)
    | untracked u => exact handover_congr (setSlot_handovers _ a _ _) n

/-- The record of a set half is set down (02, R50). -/
theorem finishSet_handover (known : s.handover n = some h)
    (named : p = some (.reserved n) ∨ p = some (.relocation n)) :
    (s.finishSet c a i p).handover n =
      some (s.setDown c i (decide (p = some (.relocation n))) h) := by
  rcases named with rfl | rfl
  · refine (handover_congr (setSlot_handovers _ a _ _) n).trans ?_
    rw [s.handover_modHandover_same n (s.setDown c i false) fun _ => rfl, known]
    rfl
  · refine (handover_congr (setSlot_handovers _ a _ _) n).trans ?_
    rw [s.handover_modHandover_same n (s.setDown c i true) fun _ => rfl, known]
    simp

end

/-! ### The lift half -/

/-- HANDOVER_DONE of a bin lifted by its taker (02, R52). -/
def liftTells (s : State) (a : Nat) (l : Option LiftHalf) : List NoticeBody :=
  match l with
  | some (.taker n) =>
    match s.handover n with
    | some h => [s.doneNotice h a]
    | none => []
  | _ => []

section
variable {s : State} {a n : Nat} {r : Robot} {h : Handover} {l : Option LiftHalf}

theorem finishLift_known (known : s.handover n = some h) :
    s.finishLift a (some (.taker n)) = s.complete a h := by
  rw [finishLift, known]

theorem finishLift_unknown (gone : s.handover n = none) :
    s.finishLift a (some (.taker n)) = s := by
  rw [finishLift, gone]

theorem finishLift_rest (s : State) (a : Nat) (l : Option LiftHalf) :
    { s.finishLift a l with handovers := s.handovers, roster := s.roster, link := s.link } = s := by
  have slot : ∀ (t : State) (sl : Slot) (b : Bool), { t with handovers := s.handovers } = s →
      { t.setSlot a sl b with handovers := s.handovers, roster := s.roster, link := s.link } = s :=
    fun t sl b h => by
      rw [setSlot_rest]
      exact congrArg (fun v : State => { v with roster := s.roster, link := s.link }) h
  cases l with
  | none => rfl
  | some q =>
    cases q with
    | taker n =>
      cases known : s.handover n with
      | none => rw [finishLift_unknown known]
      | some h =>
        rw [finishLift_known known]
        exact slot (s.freeHandover h.number) _ _ rfl
    | relocation n => exact slot (s.modHandover n (s.lifted a)) _ _ rfl
    | foreign u => exact slot s _ _ rfl

theorem finishLift_link (s : State) (a : Nat) (l : Option LiftHalf) :
    (s.finishLift a l).link = (s.notifyAll (s.liftTells a l)).link := by
  cases l with
  | none => rfl
  | some q =>
    cases q with
    | taker n =>
      cases known : s.handover n with
      | none =>
        have silent : s.liftTells a (some (.taker n)) = [] := by simp only [liftTells, known]
        rw [finishLift_unknown known, silent]
        rfl
      | some h =>
        have told : s.liftTells a (some (.taker n)) = [s.doneNotice h a] := by
          simp only [liftTells, known]
        rw [finishLift_known known, told]
        exact notifyAll_link (s := (s.freeHandover h.number).setSlot a (.untracked h.tag) false) (t := s)
          [s.doneNotice h a] (by simp) (by simp)
    | relocation n => exact setSlot_link _ a _ _
    | foreign u => exact setSlot_link _ a _ _

theorem finishLift_handover_ne (other : l.bind LiftHalf.handover ≠ some n) :
    (s.finishLift a l).handover n = s.handover n := by
  cases l with
  | none => rfl
  | some q =>
    cases q with
    | taker m =>
      have ne : n ≠ m := fun e => other (congrArg some e.symm)
      cases known : s.handover m with
      | none => rw [finishLift_unknown known]
      | some h =>
        rw [finishLift_known known]
        have number := s.number_of_handover known
        have freed : (s.complete a h).handovers = (s.freeHandover h.number).handovers := by
          unfold complete
          rw [notify_handovers, setSlot_handovers]
        exact (handover_congr freed n).trans (by rw [number, s.handover_freeHandover_ne ne])
    | relocation m =>
      have ne : n ≠ m := fun e => other (congrArg some e.symm)
      exact (handover_congr (setSlot_handovers _ a _ _) n).trans
        (s.handover_modHandover_ne ne (s.lifted a) fun _ => rfl)
    | foreign u => exact handover_congr (setSlot_handovers _ a _ _) n

/-- The record of a bin lifted by relocation is carried (02, R51). -/
theorem finishLift_handover (known : s.handover n = some h) :
    (s.finishLift a (some (.relocation n))).handover n = some (s.lifted a h) := by
  refine (handover_congr (setSlot_handovers _ a _ _) n).trans ?_
  rw [s.handover_modHandover_same n (s.lifted a) fun _ => rfl, known]
  rfl

/-- The record of a bin lifted by its taker is freed (02, R52). -/
theorem finishLift_taken : (s.finishLift a (some (.taker n))).handover n = none := by
  cases known : s.handover n with
  | none =>
    rw [finishLift_unknown known]
    exact known
  | some h =>
    rw [finishLift_known known]
    have number := s.number_of_handover known
    have freed : (s.complete a h).handovers = (s.freeHandover h.number).handovers := by
      unfold complete
      rw [notify_handovers, setSlot_handovers]
    refine (handover_congr freed n).trans ?_
    rw [number]
    exact s.handover_freeHandover_same n

theorem finishLift_robot_ne {e : Nat} (ne : e ≠ a) : (s.finishLift a l).robot e = s.robot e := by
  cases l with
  | none => rfl
  | some q =>
    cases q with
    | taker n =>
      cases there : s.handover n with
      | none => rw [finishLift_unknown there]
      | some h =>
        rw [finishLift_known there]
        exact robot_setSlot_ne (s := s.freeHandover h.number) _ _ ne
    | relocation n => exact robot_setSlot_ne (s := s.modHandover n (s.lifted a)) _ _ ne
    | foreign u => exact robot_setSlot_ne _ _ ne

/-- A robot after the lift half of an OK end (04, R93). -/
def liftedRobot (s : State) (r : Robot) (l : Option LiftHalf) : Robot :=
  match l with
  | some (.taker n) =>
    match s.handover n with
    | some q => { r with slot := .untracked q.tag, loadConfirmed := false }
    | none => r
  | some (.relocation n) => { r with slot := .tracked n, loadConfirmed := true }
  | some (.foreign u) => { r with slot := .untracked u, loadConfirmed := false }
  | none => r

theorem finishLift_robot_same (known : s.robot a = some r) :
    (s.finishLift a l).robot a = some (s.liftedRobot r l) := by
  cases l with
  | none => exact known
  | some q =>
    cases q with
    | taker n =>
      cases there : s.handover n with
      | none =>
        have same : s.liftedRobot r (some (.taker n)) = r := by simp only [liftedRobot, there]
        rw [finishLift_unknown there, same]
        exact known
      | some h =>
        have takes : s.liftedRobot r (some (.taker n)) =
            { r with slot := .untracked h.tag, loadConfirmed := false } := by
          simp only [liftedRobot, there]
        rw [finishLift_known there, takes]
        exact robot_setSlot_same (s := s.freeHandover h.number) _ _ known
    | relocation n => exact robot_setSlot_same (s := s.modHandover n (s.lifted a)) _ _ known
    | foreign u => exact robot_setSlot_same _ _ known

end

/-! ### The column -/

/-- The state of an OK end once its halves are applied and its operation is over (04, R92 to R94). -/
def okClosed (s : State) (c : Nat) (o : Operation) : State := (s.applyOperation c o).closeOk c o

/-- The state of an OK end whose set half is applied (04, R92). -/
def okSet (s : State) (c : Nat) (o : Operation) : State :=
  (s.modCol c fun k => { k with stack := o.stackAfter (s.col c).stack }).finishSet c o.robot
    ((o.stackAfter (s.col c).stack).length - 1) o.setHalf

section
variable {s : State} {c n : Nat} {o : Operation} {r : Robot} {h : Handover}

theorem applyOperation_eq (s : State) (c : Nat) (o : Operation) :
    s.applyOperation c o = (s.okSet c o).finishLift o.robot o.liftHalf := rfl

theorem okSet_rest (s : State) (c : Nat) (o : Operation) :
    { s.okSet c o with columns := s.columns, handovers := s.handovers, roster := s.roster } = s :=
  congrArg (fun v : State => { v with columns := s.columns }) (finishSet_rest (s.modCol c fun k =>
    { k with stack := o.stackAfter (s.col c).stack }) c o.robot _ o.setHalf)

theorem okSet_columns (s : State) (c : Nat) (o : Operation) :
    (s.okSet c o).columns =
      (s.modCol c fun k => { k with stack := o.stackAfter (s.col c).stack }).columns :=
  (congrArg State.columns (finishSet_rest (s.modCol c fun k =>
    { k with stack := o.stackAfter (s.col c).stack }) c o.robot
      ((o.stackAfter (s.col c).stack).length - 1) o.setHalf) :)

theorem closeOk_eq (s : State) (c : Nat) (o : Operation) :
    s.closeOk c o = s.modCol c fun k => k.okOver o k.stack s.time := by
  unfold closeOk Column.okOver
  dsimp only
  by_cases scan : o.kind = .scan
  · rw [if_pos scan]
    refine s.modCol_congr ?_
    rw [if_pos scan]
  · rw [if_neg scan]
    unfold markSettle clearOp
    rw [modCol_modCol]
    refine s.modCol_congr ?_
    rw [if_neg scan]
    rfl

theorem applied_rest (s : State) (c : Nat) (o : Operation) :
    { s.applyOperation c o with
      columns := s.columns, handovers := s.handovers, roster := s.roster, link := s.link } = s := by
  have set := s.okSet_rest c o
  have lift := (s.okSet c o).finishLift_rest o.robot o.liftHalf
  have both := congrArg (fun v : State => { v with
    columns := s.columns, handovers := s.handovers, roster := s.roster, link := s.link }) lift
  exact both.trans (congrArg (fun v : State => { v with link := s.link }) set)

theorem okClosed_rest (s : State) (c : Nat) (o : Operation) :
    { s.okClosed c o with
      columns := s.columns, handovers := s.handovers, roster := s.roster, link := s.link } = s := by
  unfold okClosed
  rw [closeOk_eq]
  exact s.applied_rest c o

theorem applied_columns (s : State) (c : Nat) (o : Operation) :
    (s.applyOperation c o).columns = (s.okSet c o).columns :=
  (congrArg State.columns ((s.okSet c o).finishLift_rest o.robot o.liftHalf) :)

theorem okClosed_columns (s : State) (c : Nat) (o : Operation) :
    (s.okClosed c o).columns =
      (s.modCol c fun k => k.okOver o (o.stackAfter (s.col c).stack) s.time).columns := by
  have time : (s.applyOperation c o).time = s.time := (congrArg State.time (s.applied_rest c o) :)
  unfold okClosed
  rw [closeOk_eq, time]
  show updateAt (s.applyOperation c o).columns c _ = _
  rw [applied_columns, okSet_columns]
  exact congrArg State.columns (s.modCol_modCol c _ _)

theorem okClosed_col_same (lt : c < s.columns.length) :
    (s.okClosed c o).col c = (s.col c).okOver o (o.stackAfter (s.col c).stack) s.time :=
  (col_congr (s.okClosed_columns c o) c).trans (s.col_modCol_same lt _)

theorem okClosed_col_ne {e : Nat} (ne : e ≠ c) : (s.okClosed c o).col e = s.col e :=
  (col_congr (s.okClosed_columns c o) e).trans (s.col_modCol_ne ne _)

theorem okClosed_defn (e : Nat) : (s.okClosed c o).defn e = s.defn e :=
  (congrArg Column.defn (col_congr (s.okClosed_columns c o) e)).trans
    (s.defn_modCol c e _ fun _ => rfl)

theorem okClosed_suspends (e : Nat) : (s.okClosed c o).suspends e = s.suspends e :=
  suspends_congr (congrArg State.zones (s.okClosed_rest c o) :) (okClosed_defn e)
    ((congrArg Column.causes (col_congr (s.okClosed_columns c o) e)).trans
      (s.col_modCol_proj (·.causes) c e _ fun _ => rfl))

theorem okClosed_handovers (s : State) (c : Nat) (o : Operation) :
    (s.okClosed c o).handovers = ((s.okSet c o).finishLift o.robot o.liftHalf).handovers := by
  unfold okClosed
  rw [closeOk_eq, applyOperation_eq]
  rfl

/-! #### Its records -/

theorem okClosed_handover_ne (set : o.setHalf.bind SetHalf.handover ≠ some n)
    (lift : o.liftHalf.bind LiftHalf.handover ≠ some n) :
    (s.okClosed c o).handover n = s.handover n := by
  rw [handover_congr (s.okClosed_handovers c o), finishLift_handover_ne lift, okSet,
    finishSet_handover_ne set]
  rfl

/-- The record of a set half stands on the column (02, R50). -/
theorem okClosed_handover_set (known : s.handover n = some h)
    (named : o.setHalf = some (.reserved n) ∨ o.setHalf = some (.relocation n))
    (lift : o.liftHalf.bind LiftHalf.handover ≠ some n) :
    (s.okClosed c o).handover n =
      some (s.setDown c ((o.stackAfter (s.col c).stack).length - 1)
        (decide (o.setHalf = some (.relocation n))) h) := by
  rw [handover_congr (s.okClosed_handovers c o), finishLift_handover_ne lift, okSet,
    finishSet_handover (s := s.modCol c fun k => { k with stack := o.stackAfter (s.col c).stack })
      (h := h) known named]
  have fresh : (s.modCol c fun k =>
      { k with stack := o.stackAfter (s.col c).stack }).freshCollect c = s.freshCollect c := by
    unfold freshCollect
    rw [show (s.modCol c fun k => { k with stack := o.stackAfter (s.col c).stack }).suspends c =
      s.suspends c from suspends_congr rfl (s.defn_modCol c c _ fun _ => rfl)
        (s.col_modCol_proj (·.causes) c c _ fun _ => rfl)]
    rfl
  unfold setDown
  rw [fresh]

/-- The record of a relocating lift is carried (02, R51). -/
theorem okClosed_handover_lift (known : s.handover n = some h)
    (named : o.liftHalf = some (.relocation n)) (set : o.setHalf.bind SetHalf.handover ≠ some n) :
    (s.okClosed c o).handover n = some (s.lifted o.robot h) := by
  have there : (s.okSet c o).handover n = some h := by
    rw [okSet, finishSet_handover_ne set]
    exact known
  have fresh : (s.okSet c o).params = s.params := (congrArg State.params (s.okSet_rest c o) :)
  rw [handover_congr (s.okClosed_handovers c o), named, finishLift_handover there]
  unfold lifted freshStage
  rw [fresh]

/-- A record lifted by its taker is gone (02, R52). -/
theorem okClosed_handover_taken (named : o.liftHalf = some (.taker n)) :
    (s.okClosed c o).handover n = none := by
  rw [handover_congr (s.okClosed_handovers c o), named, finishLift_taken]

/-! #### Its robot and its notice -/

theorem okClosed_roster (s : State) (c : Nat) (o : Operation) :
    (s.okClosed c o).roster = ((s.okSet c o).finishLift o.robot o.liftHalf).roster := by
  unfold okClosed
  rw [closeOk_eq, applyOperation_eq]
  rfl

theorem okClosed_link (s : State) (c : Nat) (o : Operation) :
    (s.okClosed c o).link = (s.notifyAll ((s.okSet c o).liftTells o.robot o.liftHalf)).link := by
  have link : (s.okSet c o).link = s.link := (congrArg State.link (s.okSet_rest c o) :)
  have time : (s.okSet c o).time = s.time := (congrArg State.time (s.okSet_rest c o) :)
  have same : (s.okClosed c o).link = ((s.okSet c o).finishLift o.robot o.liftHalf).link := by
    unfold okClosed
    rw [closeOk_eq, applyOperation_eq]
    rfl
  rw [same, finishLift_link]
  exact notifyAll_link _ link time

end

end State

end Sys2Proof.Machine
end

section
/-! PROOFS. What the comparison of an OK end does (04, R95 to R98; 06, R132). -/

namespace Sys2Proof.Machine

/-- The causes of a column after an OK end (04, R97, R98). -/
def Causes.compared (k : Causes) (r : Compare) (kind : OpKind) : Causes :=
  if r = .mismatch then { k with discrepancy := true }
  else if r = .credited ∧ kind = .scan then ⟨false, false, k.zone⟩
  else k

/-- A comparison that changes the causes of the column, after which its deadlines are judged again
(04, R97, R98). -/
abbrev Compare.Judges (r : Compare) (kind : OpKind) : Prop :=
  r = .mismatch ∨ (r = .credited ∧ kind = .scan)

/-- A column's verification and seen mark after an OK end (06, R132). -/
def Column.verifiedBy (k : Column) (r : Compare) (called : Prop) [Decidable called]
    (overdue : Bool) : Column :=
  { k with
    verification :=
      if r = .credited then (if called ∨ k.verification = .unverified then .fresh else k.verification)
      else if r = .heightOnly ∧ called ∧ overdue then .unverified
      else k.verification
    seen :=
      if called then (if r = .heightOnly ∧ ¬overdue then k.seen else false)
      else k.seen || r == .credited }

namespace State

/-! ### The stack compared -/

/-- The comparison's writes without its notice (04, R96 to R98). -/
def okActed (s : State) (c : Nat) (o : Operation) : Compare → State
  | .credited => s.credited c o
  | .heightOnly => s
  | .mismatch => s.addDiscrepancy c

section
variable {s : State} {c n : Nat} {o : Operation} {r : Compare} {h : Handover}

theorem actOn_eq (s : State) (c : Nat) (o : Operation) (height : Nat) (tag : BinTag) (r : Compare) :
    s.actOn c o height tag r =
      (s.okActed c o r).notifyAll
        (if r = .mismatch then [s.discrepancyNotice c o .ok height tag] else []) := by
  cases r <;> rfl

theorem okActed_rest (s : State) (c : Nat) (o : Operation) (r : Compare) :
    { s.okActed c o r with columns := s.columns, handovers := s.handovers } = s := by
  cases r with
  | credited =>
    show { s.credited c o with columns := s.columns, handovers := s.handovers } = s
    unfold credited
    dsimp only
    split <;> rfl
  | heightOnly => rfl
  | mismatch => rfl

theorem okActed_frame (s : State) (c : Nat) (o : Operation) (r : Compare) :
    BlockFrame s (s.okActed c o r) := by
  cases r with
  | credited =>
    have cleared : BlockFrame s (s.modHandovers (fun h => (s.involved c o).contains h.number)
        fun h => { h with uncertain := false }) := .modHandovers s _ _ fun _ => rfl
    show BlockFrame s (s.credited c o)
    unfold credited
    dsimp only
    split
    · exact cleared.trans (.confirmStack _ c)
    · exact cleared
  | heightOnly => exact .refl s
  | mismatch => exact .addDiscrepancy s c

theorem okActed_columns (s : State) (c : Nat) (o : Operation) (r : Compare) :
    (s.okActed c o r).columns =
      (s.modCol c fun k => { k with causes := k.causes.compared r o.kind }).columns := by
  have idle : ∀ v : Compare, ¬v.Judges o.kind →
      s.columns = (s.modCol c fun k => { k with causes := k.causes.compared v o.kind }).columns :=
    fun v no => by
      have differs : v ≠ .mismatch := fun k => no (.inl k)
      have scans : ¬(v = .credited ∧ o.kind = .scan) := fun k => no (.inr k)
      refine congrArg State.columns (modCol_id (s := s) ?_).symm
      simp only [Causes.compared, differs, scans, if_false]
  cases r with
  | credited =>
    show (s.credited c o).columns = _
    unfold credited
    dsimp only
    by_cases scan : o.kind = .scan
    · rw [if_pos scan]
      show (s.modCol c fun k => { k with causes := k.causes.confirmed }).columns = _
      refine congrArg State.columns (s.modCol_congr ?_)
      simp [Causes.compared, Causes.confirmed, scan]
    · rw [if_neg scan]
      exact idle .credited (by simp [scan])
  | heightOnly => exact idle .heightOnly (by simp)
  | mismatch =>
    show (s.modCol c _).columns = _
    exact congrArg State.columns (s.modCol_congr rfl)

theorem okActed_col_same (lt : c < s.columns.length) :
    (s.okActed c o r).col c =
      { s.col c with causes := (s.col c).causes.compared r o.kind } :=
  (col_congr (s.okActed_columns c o r) c).trans (s.col_modCol_same lt _)

theorem okActed_col_ne {e : Nat} (ne : e ≠ c) : (s.okActed c o r).col e = s.col e :=
  (col_congr (s.okActed_columns c o r) e).trans (s.col_modCol_ne ne _)

/-- A comparison that leaves the causes leaves what suspends deadlines. -/
theorem okActed_suspends {e : Nat} (still : e ≠ c ∨ ¬r.Judges o.kind) :
    (s.okActed c o r).suspends e = s.suspends e := by
  refine suspends_congr (congrArg State.zones (s.okActed_rest c o r) :)
    ((s.okActed_frame c o r).toFrame.defn e) ?_
  rcases still with ne | no
  · rw [okActed_col_ne ne]
  · have same : ∀ k : Column, ({ k with causes := k.causes.compared r o.kind } : Column).causes =
        k.causes := fun k => by
      have differs : r ≠ .mismatch := fun h => no (.inl h)
      have scans : ¬(r = .credited ∧ o.kind = .scan) := fun h => no (.inr h)
      simp only [Causes.compared, differs, scans, if_false]
    exact (congrArg Column.causes (col_congr (s.okActed_columns c o r) e)).trans
      (s.col_modCol_proj (·.causes) c e _ same)

theorem okActed_suspends_mismatch (lt : c < s.columns.length) (differs : r = .mismatch) :
    (s.okActed c o r).suspends c = true := by
  subst differs
  exact differing_suspends_same (s := s) (b := true) lt rfl

/-- A record whose uncertain flag a credited end clears (04, R96; 02, R54). -/
def clearedIf (h : Handover) (p : Prop) [Decidable p] : Handover :=
  { h with uncertain := if p then false else h.uncertain }

theorem clearedIf_no {p : Prop} [Decidable p] (no : ¬p) : clearedIf h p = h := by
  simp [clearedIf, no]

theorem credited_handover (known : s.handover n = some h) :
    (s.modHandovers (fun h => (s.involved c o).contains h.number)
      fun h => { h with uncertain := false }).handover n =
        some (clearedIf h (n ∈ s.involved c o)) := by
  have number := s.number_of_handover known
  have read := s.handover_modHandovers (fun h => (s.involved c o).contains h.number)
    (fun h => { h with uncertain := false }) n fun _ => rfl
  have mem : ((s.involved c o).contains h.number = true) ↔ n ∈ s.involved c o := by
    rw [number, List.contains_iff_mem]
  rw [read, known, Option.map_some]
  by_cases named : n ∈ s.involved c o
  · simp only [mem.mpr named, named, clearedIf, if_true]
  · rw [if_neg (mt mem.mp named), clearedIf_no named]

/-- A record after the comparison of an OK end (04, R96 to R98; 02, R43, R54). -/
theorem okActed_handover (known : s.handover n = some h) :
    (s.okActed c o r).handover n =
      some (clearedIf
        { h with
          deadline :=
            if r.Judges o.kind ∧ h.column = some c then
              h.deadline.map (Deadline.judge ((s.okActed c o r).suspends c))
            else h.deadline }
        (r = .credited ∧ n ∈ s.involved c o)) := by
  have judged : ∀ {v u : State} {k : Handover}, v.handover n = some k → u = v.judgeColumn c →
      u.handover n = some { k with
        deadline := if k.column = some c then k.deadline.map (Deadline.judge (u.suspends c))
          else k.deadline } := fun {v u k} there eq => by
    subst eq
    rw [judgeColumn_handover there]
    by_cases column : k.column = some c
    · rw [if_pos column, if_pos column, judged_on column]
      rfl
    · rw [if_neg column, if_neg column]
  cases r with
  | heightOnly =>
    have no : ¬Compare.heightOnly.Judges o.kind := by simp
    rw [show s.okActed c o .heightOnly = s from rfl, known]
    simp only [clearedIf, no, false_and, reduceCtorEq, if_false]
  | mismatch =>
    refine (judged (v := s.modCol c fun k =>
      { k with causes := { k.causes with discrepancy := true } }) known rfl).trans ?_
    have yes : Compare.mismatch.Judges o.kind := .inl rfl
    simp only [clearedIf, yes, true_and, reduceCtorEq, false_and, if_false]
    rfl
  | credited =>
    have cleared := credited_handover (c := c) (o := o) known
    show (s.credited c o).handover n = _
    by_cases scan : o.kind = .scan
    · have eq : s.credited c o = ((s.modHandovers (fun h => (s.involved c o).contains h.number)
          fun h => { h with uncertain := false }).modCol c
            fun k => { k with causes := k.causes.confirmed }).judgeColumn c := if_pos scan
      have there : ((s.modHandovers (fun h => (s.involved c o).contains h.number)
          fun h => { h with uncertain := false }).modCol c
            fun k => { k with causes := k.causes.confirmed }).handover n = _ := cleared
      have yes : Compare.credited.Judges o.kind := .inr ⟨rfl, scan⟩
      refine (judged there eq).trans ?_
      simp only [clearedIf, yes, true_and]
      rfl
    · have eq : s.credited c o = s.modHandovers (fun h => (s.involved c o).contains h.number)
          fun h => { h with uncertain := false } := if_neg scan
      have no : ¬Compare.credited.Judges o.kind := by simp [scan]
      rw [eq, cleared]
      simp only [clearedIf, no, false_and, if_false, true_and]

end

/-! ### The audit unit told of it -/

/-- The audit unit after an OK end (06, R132, R134). -/
def okAudit (s : State) (c : Nat) (r : Compare) : AuditUnit :=
  if s.audit.called = some c then
    (if r = .heightOnly ∧ ¬s.audit.overdue then { s.audit with state := .calling }
    else s.callEnded c)
  else s.audit

/-- COLUMN_UNVERIFIED of an overdue call that an OK end does not credit (06, R132, R135). -/
def okFails (s : State) (c : Nat) (r : Compare) : List NoticeBody :=
  if s.audit.called = some c ∧ r = .heightOnly ∧ s.audit.overdue then
    [s.unverifiedNotice c .callExpired]
  else []

theorem auditEnd_ok (s : State) (c : Nat) (r : Compare) :
    s.auditEnd c r.outcome =
      ({ s.modCol c fun k => k.verifiedBy r (s.audit.called = some c) s.audit.overdue with
          audit := s.okAudit c r }, s.okFails c r) := by
  have still : (s.col c).verifiedBy r (s.audit.called = some c) s.audit.overdue = s.col c →
      s.modCol c (fun k => k.verifiedBy r (s.audit.called = some c) s.audit.overdue) = s :=
    fun same => modCol_id
      (f := fun k => k.verifiedBy r (s.audit.called = some c) s.audit.overdue) same
  by_cases called : s.audit.called = some c
  · have ends : ∀ (v : Verification) (seen : Bool), (s.setAudit c v seen).endCall c =
        { s.setAudit c v seen with audit := s.callEnded c } :=
      fun v seen => endCall_eq (s := s.setAudit c v seen) called
    unfold auditEnd okAudit okFails
    rw [if_pos called, if_pos called]
    cases r with
    | credited =>
      dsimp only [Compare.outcome]
      rw [ends, if_neg (by simp), if_neg (by simp)]
      refine Prod.ext ?_ rfl
      refine congrArg (fun t : State => { t with audit := s.callEnded c }) (s.modCol_congr ?_)
      simp [Column.verifiedBy, called]
    | heightOnly =>
      dsimp only [Compare.outcome]
      by_cases overdue : s.audit.overdue = true
      · rw [if_pos overdue, if_neg (by simp [overdue]), if_pos ⟨called, rfl, overdue⟩, failCall,
          ends]
        refine Prod.ext ?_ rfl
        refine congrArg (fun t : State => { t with audit := s.callEnded c }) (s.modCol_congr ?_)
        simp [Column.verifiedBy, called, overdue]
      · rw [if_neg overdue, if_pos ⟨rfl, overdue⟩, if_neg fun k => overdue k.2.2,
          still (by simp [Column.verifiedBy, called, overdue])]
    | mismatch =>
      dsimp only [Compare.outcome]
      rw [ends, if_neg (by simp), if_neg (by simp)]
      refine Prod.ext ?_ rfl
      refine congrArg (fun t : State => { t with audit := s.callEnded c }) (s.modCol_congr ?_)
      simp [Column.verifiedBy, called]
  · unfold auditEnd okAudit okFails
    rw [if_neg called, if_neg called, if_neg fun k => called k.1]
    cases r with
    | credited =>
      refine Prod.ext ?_ rfl
      refine s.modCol_congr ?_
      simp [Column.verifiedBy, called]
    | heightOnly =>
      have uncredited : (Compare.heightOnly == .credited) = false := rfl
      rw [still (by simp [Column.verifiedBy, called, uncredited])]
      rfl
    | mismatch =>
      have uncredited : (Compare.mismatch == .credited) = false := rfl
      rw [still (by simp [Column.verifiedBy, called, uncredited])]
      rfl

end State

end Sys2Proof.Machine
end

section
/-! PROOFS. An OK end as a whole (04, R92 to R98). -/

namespace Sys2Proof.Machine

namespace State

/-- The comparison of an OK end (04, R95). -/
def okCompare (s : State) (c : Nat) (o : Operation) (height : Nat) (tag : BinTag) : Compare :=
  (s.okClosed c o).compare c height tag

/-- The state of an OK end before its remap is examined, without its notices (04, R92 to R98;
06, R132). -/
def okState (s : State) (c : Nat) (o : Operation) (r : Compare) : State :=
  { ((s.okClosed c o).okActed c o r).modCol c fun k =>
      k.verifiedBy r (s.audit.called = some c) s.audit.overdue with
    audit := s.okAudit c r }

/-- The DISCREPANCY of an OK end (04, R97). -/
def okDiffers (s : State) (c : Nat) (o : Operation) (r : Compare) (height : Nat) (tag : BinTag) :
    List NoticeBody :=
  if r = .mismatch then [(s.okClosed c o).discrepancyNotice c o .ok height tag] else []

section
variable {s : State} {c : Nat} {o : Operation} {r : Compare} {height : Nat} {tag : BinTag}

theorem okActed_whole (s : State) (c : Nat) (o : Operation) (r : Compare) :
    { (s.okClosed c o).okActed c o r with
      columns := s.columns, handovers := s.handovers, roster := s.roster, link := s.link } = s := by
  have acted := (s.okClosed c o).okActed_rest c o r
  have closed := s.okClosed_rest c o
  have both := congrArg (fun v : State => { v with
    columns := s.columns, handovers := s.handovers, roster := s.roster, link := s.link }) acted
  exact both.trans closed

theorem okState_rest (s : State) (c : Nat) (o : Operation) (r : Compare) :
    { s.okState c o r with
      columns := s.columns, handovers := s.handovers, roster := s.roster, link := s.link
      audit := s.audit } = s :=
  congrArg (fun v : State => { v with audit := s.audit }) (s.okActed_whole c o r)

theorem okActed_col_mid (lt : c < s.columns.length) :
    ((s.okClosed c o).okActed c o r).col c =
      { (s.col c).okOver o (o.stackAfter (s.col c).stack) s.time with
        causes := (s.col c).causes.compared r o.kind } := by
  have size : c < (s.okClosed c o).columns.length := by
    rw [okClosed_columns]
    simpa using lt
  rw [okActed_col_same size, okClosed_col_same lt]
  rfl

theorem okState_col_same (lt : c < s.columns.length) :
    (s.okState c o r).col c =
      Column.verifiedBy
        { (s.col c).okOver o (o.stackAfter (s.col c).stack) s.time with
          causes := (s.col c).causes.compared r o.kind }
        r (s.audit.called = some c) s.audit.overdue := by
  have size : c < ((s.okClosed c o).okActed c o r).columns.length := by
    rw [okActed_columns]
    simp only [modCol_columns, updateAt_length]
    rw [okClosed_columns]
    simpa using lt
  refine Eq.trans (col_modCol_same _ size _) ?_
  rw [okActed_col_mid lt]

theorem okState_col_ne {e : Nat} (ne : e ≠ c) : (s.okState c o r).col e = s.col e := by
  refine Eq.trans (col_modCol_ne _ ne _) ?_
  rw [okActed_col_ne ne, okClosed_col_ne ne]

theorem okState_frame (s : State) (c : Nat) (o : Operation) (r : Compare) :
    BlockFrame (s.okClosed c o) (s.okState c o r) :=
  ((okActed_frame _ c o r).trans (.modCol _ c
    (fun k => k.verifiedBy r (s.audit.called = some c) s.audit.overdue) (fun _ => rfl)
    fun _ => rfl)).trans (.audit _ _)

theorem okState_defn (e : Nat) : (s.okState c o r).defn e = s.defn e :=
  ((s.okState_frame c o r).toFrame.defn e).trans (okClosed_defn e)

theorem okState_suspends (e : Nat) :
    (s.okState c o r).suspends e = ((s.okClosed c o).okActed c o r).suspends e :=
  suspends_congr rfl (defn_modCol _ c e _ fun _ => rfl)
    (col_modCol_proj _ (·.causes) c e _ fun _ => rfl)

/-- An overdue call or a call that goes on keeps a bin on the column, so no remap is ready. -/
theorem okCompare_heightOnly (lt : c < s.columns.length)
    (h : s.okCompare c o height tag = .heightOnly) : o.stackAfter (s.col c).stack ≠ [] := by
  intro empty
  unfold okCompare compare top at h
  rw [okClosed_col_same lt] at h
  simp only [Column.okOver, empty, List.getLast?_nil] at h
  split at h <;> simp at h

theorem remapNotices_of_stack {c : Nat} {v : State} (h : (v.col c).stack ≠ []) :
    v.remapNotices c = [] := by
  unfold remapNotices
  cases v.mappedBy c with
  | none => rfl
  | some x => exact if_neg fun k => h (remapReady_iff.mp k.2).1

/-- The remap condition where it has something to wait for or no call to end (01, R19). -/
theorem examineRemap_free {v : State} {c : Nat}
    (h : v.audit.called ≠ some c ∨ (v.col c).stack ≠ []) :
    (v.examineRemap c).emit = (v.remapped c).notifyAll (v.remapNotices c) := by
  rcases h with called | stands
  · exact examineRemap_emit called
  · have waits : v.remapReady c = false :=
      Bool.eq_false_iff.mpr fun k => stands (remapReady_iff.mp k).1
    have silent := remapNotices_of_stack stands
    have same : v.remapped c = v := by
      unfold remapped
      rw [remapMap_of_silent silent]
    rw [examineRemap_waits waits, silent, same]
    rfl

/-- COLUMN_UNVERIFIED of an OK end, in the terms of the state before it (06, R132, R135). -/
def okUnverified (s : State) (c : Nat) (o : Operation) (r : Compare) : List NoticeBody :=
  if s.audit.called = some c ∧ r = .heightOnly ∧ s.audit.overdue then
    [.columnUnverified c (s.mappedBy c) (s.zoneOf c) .callExpired (s.col c).verification
      (s.col c).causes (o.stackAfter (s.col c).stack).length]
  else []

/-- The state of an OK end before its answer (04, R94). -/
def okEnd (s : State) (c : Nat) (o : Operation) (r : Compare) (height : Nat) (tag : BinTag) : State :=
  (((s.okState c o r).remapped c).modCol c fun k => k.graced (s.params.releaseGrace * 1000)).notifyAll
    (s.okDiffers c o r height tag ++ s.okUnverified c o r ++ (s.okState c o r).remapNotices c)

theorem ok_audit (lt : c < s.columns.length) (bs : List NoticeBody) :
    (((s.okClosed c o).okActed c o r).notifyAll bs).auditEnd c r.outcome =
      ((s.okState c o r).notifyAll bs, s.okUnverified c o r) := by
  have whole := s.okActed_whole c o r
  have audit : (((s.okClosed c o).okActed c o r).notifyAll bs).audit = s.audit :=
    (notifyAll_audit _ bs).trans (congrArg State.audit whole :)
  have map : ((s.okClosed c o).okActed c o r).xpMap = s.xpMap := (congrArg State.xpMap whole :)
  have col : (((s.okClosed c o).okActed c o r).notifyAll bs).col c =
      { (s.col c).okOver o (o.stackAfter (s.col c).stack) s.time with
        causes := (s.col c).causes.compared r o.kind } :=
    (col_congr (notifyAll_columns _ bs) c).trans (okActed_col_mid lt)
  have mapped : (((s.okClosed c o).okActed c o r).notifyAll bs).mappedBy c = s.mappedBy c :=
    mappedBy_congr ((notifyAll_xpMap _ bs).trans map) c
  have zone : (((s.okClosed c o).okActed c o r).notifyAll bs).zoneOf c = s.zoneOf c :=
    congrArg (fun d => (d.map (·.zone)).getD 0) (congrArg Column.defn col)
  have told : (((s.okClosed c o).okActed c o r).notifyAll bs).okAudit c r = s.okAudit c r := by
    unfold okAudit callEnded
    rw [audit]
  have fails : (((s.okClosed c o).okActed c o r).notifyAll bs).okFails c r = s.okUnverified c o r := by
    unfold okFails okUnverified unverifiedNotice
    rw [audit, mapped, zone, col]
    by_cases expired : s.audit.called = some c ∧ r = .heightOnly ∧ s.audit.overdue = true
    · rw [if_pos expired, if_pos expired]
      obtain ⟨-, rfl, -⟩ := expired
      rfl
    · rw [if_neg expired, if_neg expired]
  rw [auditEnd_ok, audit, told, fails, notifyAll_modCol, notifyAll_audits]
  rfl

theorem endOk_eq (lt : c < s.columns.length) :
    s.endOk c o height tag =
      (s.okEnd c o (s.okCompare c o height tag) height tag).send o.robot
        (.accepted (.compared c (s.okCompare c o height tag))) := by
  unfold endOk
  rw [show (s.applyOperation c o).closeOk c o = s.okClosed c o from rfl]
  dsimp only
  rw [show (s.okClosed c o).compare c height tag = s.okCompare c o height tag from rfl]
  generalize compared : s.okCompare c o height tag = r
  have free : ∀ bs, ((s.okState c o r).notifyAll bs).audit.called ≠ some c ∨
      (((s.okState c o r).notifyAll bs).col c).stack ≠ [] := fun bs => by
    rw [notifyAll_audit, col_congr (notifyAll_columns _ bs), okState_col_same lt]
    by_cases goes : s.audit.called = some c ∧ r = .heightOnly
    · exact .inr (okCompare_heightOnly lt (compared.trans goes.2))
    · refine .inl ?_
      show (s.okAudit c r).called ≠ some c
      unfold okAudit
      by_cases called : s.audit.called = some c
      · rw [if_pos called, if_neg fun k => goes ⟨called, k.1⟩]
        exact s.callEnded_called c
      · rw [if_neg called]
        exact called
  have params : (s.okState c o r).params = s.params := (congrArg State.params (s.okState_rest c o r) :)
  have tail : ∀ bs, (((s.okState c o r).notifyAll bs).examineRemap c).emit.startGrace c =
      (((s.okState c o r).remapped c).modCol c
        fun k => k.graced (s.params.releaseGrace * 1000)).notifyAll
          (bs ++ (s.okState c o r).remapNotices c) := fun bs => by
    rw [examineRemap_free (free bs), startGrace_eq, notifyAll_params, remapped_notifyAll,
      remapNotices_notifyAll, ← notifyAll_append, notifyAll_params, notifyAll_modCol, ← params]
    rfl
  rw [actOn_eq, ok_audit lt]
  show (((((s.okState c o r).notifyAll _).notifyAll (s.okUnverified c o r)).examineRemap c).emit.startGrace
    c).send _ _ = _
  rw [← notifyAll_append, tail]
  rfl

end

end State

end Sys2Proof.Machine
end

section
/-! PROOFS. The column, the robot and the notices of an OK end (04, R92 to R98). O39 is settled
here. -/

namespace Sys2Proof.Machine

theorem Operation.stackAfter_eq (o : Operation) (l : List Entry) :
    o.stackAfter l =
      (if o.liftHalf = none then l else l.dropLast) ++ (o.setHalf.map SetHalf.entry).toList := by
  rw [stackAfter]
  cases o.liftHalf <;> rfl

namespace State

section
variable {s : State} {c : Nat} {o : Operation} {r : Compare} {height : Nat} {tag : BinTag}

theorem okEnd_rest : { s.okEnd c o r height tag with
    columns := s.columns, handovers := s.handovers, roster := s.roster, link := s.link
    audit := s.audit, xpMap := s.xpMap } = s := by
  unfold okEnd
  rw [notifyAll_eq]
  exact congrArg (fun v : State => { v with xpMap := s.xpMap }) (s.okState_rest c o r)

theorem okEnd_columns : (s.okEnd c o r height tag).columns =
    ((s.okState c o r).modCol c fun k => k.graced (s.params.releaseGrace * 1000)).columns := by
  unfold okEnd
  rw [notifyAll_columns]
  rfl

theorem okEnd_col_same (lt : c < s.columns.length) : (s.okEnd c o r height tag).col c =
    ((s.okState c o r).col c).graced (s.params.releaseGrace * 1000) := by
  have size : c < (s.okState c o r).columns.length := by
    rw [(s.okState_frame c o r).toFrame.columns_length, okClosed_columns]
    simpa using lt
  rw [col_congr okEnd_columns, col_modCol_same _ size]

theorem okEnd_col_ne {e : Nat} (ne : e ≠ c) : (s.okEnd c o r height tag).col e = s.col e := by
  rw [col_congr okEnd_columns, col_modCol_ne _ ne, okState_col_ne ne]

theorem okEnd_handovers : (s.okEnd c o r height tag).handovers = (s.okState c o r).handovers := by
  unfold okEnd
  rw [notifyAll_handovers]
  rfl

theorem okEnd_roster : (s.okEnd c o r height tag).roster =
    ((s.okSet c o).finishLift o.robot o.liftHalf).roster := by
  unfold okEnd
  rw [notifyAll_roster]
  exact (s.okState_frame c o r).roster.trans (s.okClosed_roster c o)

theorem okEnd_audit : (s.okEnd c o r height tag).audit = s.okAudit c r := by
  unfold okEnd
  rw [notifyAll_audit]
  rfl

theorem okEnd_xpMap : (s.okEnd c o r height tag).xpMap = (s.okState c o r).remapMap c := by
  unfold okEnd
  rw [notifyAll_xpMap]
  rfl

theorem okEnd_link : (s.okEnd c o r height tag).link =
    (s.notifyAll ((s.okSet c o).liftTells o.robot o.liftHalf ++
      (s.okDiffers c o r height tag ++ s.okUnverified c o r ++
        (s.okState c o r).remapNotices c))).link := by
  have link : (s.okState c o r).link = (s.okClosed c o).link :=
    (congrArg State.link ((s.okClosed c o).okActed_rest c o r) :)
  have time : (s.okState c o r).time = s.time := (congrArg State.time (s.okState_rest c o r) :)
  unfold okEnd
  rw [notifyAll_append s]
  refine notifyAll_link _ (link.trans (s.okClosed_link c o)) ?_
  rw [notifyAll_time]
  exact time

theorem okEnd_entryTag : (s.okEnd c o r height tag).entryTag = (s.okClosed c o).entryTag := by
  have frame : BlockFrame (s.okClosed c o) (s.okState c o r) := s.okState_frame c o r
  funext e
  rw [← entryTag_congr frame]
  cases e with
  | tracked n =>
    exact congrArg (fun q : Option Handover => (q.map (fun h => h.tag)).getD 0)
      (handover_congr okEnd_handovers n)
  | foreign u => rfl

/-- The comparison, by the new stack and the tags of its records (04, R95). -/
theorem okCompare_eq (lt : c < s.columns.length) :
    s.okCompare c o height tag =
      if height ≠ (o.stackAfter (s.col c).stack).length then .mismatch
      else
        match (o.stackAfter (s.col c).stack).getLast? with
        | none => .credited
        | some e =>
          if tag = 0 then .heightOnly
          else if tag = (s.okClosed c o).entryTag e then .credited else .mismatch := by
  have stack : ((s.okClosed c o).col c).stack = o.stackAfter (s.col c).stack :=
    congrArg Column.stack (okClosed_col_same lt)
  unfold okCompare compare top
  rewrite [stack]
  cases (o.stackAfter (s.col c).stack).getLast? <;> rfl

theorem okEnd_entryView : (s.okEnd c o r height tag).entryView = (s.okClosed c o).entryView := by
  have frame : BlockFrame (s.okClosed c o) (s.okState c o r) := s.okState_frame c o r
  funext e
  rw [← entryView_congr frame]
  cases e with
  | tracked n =>
    exact congrArg (fun q : Option Handover => EntryView.tracked n ((q.map (fun h => h.tag)).getD 0))
      (handover_congr okEnd_handovers n)
  | foreign u => rfl

theorem okAudit_eq : s.okAudit c r =
    if s.audit.called = some c then
      (if r = .heightOnly ∧ ¬s.audit.overdue then { s.audit with state := .calling }
      else
        { s.audit with
          state := .idle, called := none, callLimit := none, overdue := false,
          pointer := if c < 95 then c + 1 else 0 })
    else s.audit := by
  unfold okAudit callEnded
  by_cases called : s.audit.called = some c
  · simp only [called, if_true]
  · rw [if_neg called, if_neg called]

/-! ### The remap -/

theorem okState_xpMap : (s.okState c o r).xpMap = s.xpMap :=
  (congrArg State.xpMap (s.okState_rest c o r) :)

theorem okState_retired (e : Nat) (ne : e ≠ c) :
    ((s.okState c o r).col e).retired = (s.col e).retired := by
  rw [okState_col_ne ne]

theorem okState_remapNotices (lt : c < s.columns.length) :
    (s.okState c o r).remapNotices c =
      match s.mappedBy c with
      | some x =>
        if (s.xp x).map (·.remapPending) = some true ∧ o.stackAfter (s.col c).stack = [] ∧
            (s.okState c o r).reservations c = 0 ∧
            (if o.inboundTaken then false else (s.col c).inbound) = false then
          [.remapDone x c (s.spareIn (s.zoneOf c))]
        else []
      | none => [] := by
  have idle : ((s.okState c o r).col c).op = none := by
    rw [okState_col_same lt]
    rfl
  rw [remapNotices_after idle okState_defn (mappedBy_congr okState_xpMap) okState_retired,
    okState_col_same lt]
  cases s.mappedBy c with
  | none => rfl
  | some x =>
    refine if_congr ?_ rfl rfl
    rewrite [xp_congr okState_xpMap]
    exact Iff.rfl

theorem okState_remapMap : (s.okState c o r).remapMap c =
    match s.mappedBy c with
    | some x =>
      if (s.okState c o r).remapNotices c = [] then s.xpMap
      else updateAt s.xpMap x fun _ => (s.spareIn (s.zoneOf c)).map (⟨·, false⟩)
    | none => s.xpMap := by
  rewrite [remapMap_after okState_defn (mappedBy_congr okState_xpMap) okState_retired, okState_xpMap]
  cases s.mappedBy c <;> rfl

/-! ### The robot and the bin lifted by its taker -/

/-- The set half leaves the tag of every record. -/
theorem okSet_tag (n : Nat) : ((s.okSet c o).handover n).map (·.tag) = (s.handover n).map (·.tag) := by
  have writes : ∀ (m : Nat) (f : Handover → Handover), (∀ h, (f h).number = h.number) →
      (∀ h, (f h).tag = h.tag) →
      ((s.modHandover m f).handover n).map (·.tag) = (s.handover n).map (·.tag) := fun m f hn ht => by
    by_cases same : n = m
    · subst same
      rw [s.handover_modHandover_same n f hn, Option.map_map]
      exact congrArg (fun g => Option.map g (s.handover n)) (funext ht)
    · rw [s.handover_modHandover_ne same f hn]
  unfold okSet
  cases o.setHalf with
  | none => rfl
  | some p =>
    cases p with
    | reserved m =>
      refine (congrArg (Option.map (·.tag)) (handover_congr (setSlot_handovers _ o.robot _ _) n)).trans ?_
      exact writes m (setDown _ c _ false) (fun _ => rfl) fun _ => rfl
    | relocation m =>
      refine (congrArg (Option.map (·.tag)) (handover_congr (setSlot_handovers _ o.robot _ _) n)).trans ?_
      exact writes m (setDown _ c _ true) (fun _ => rfl) fun _ => rfl
    | untracked u =>
      exact congrArg (Option.map (·.tag)) (handover_congr (setSlot_handovers _ o.robot _ _) n)

/-- The robot of an OK end, by its halves (04, R93). -/
theorem okRobot (q : Robot) :
    (s.okSet c o).liftedRobot (q.afterSet o.setHalf) o.liftHalf =
      { q with
        slot :=
          match o.liftHalf with
          | some (.taker n) =>
            match s.handover n with
            | some h => .untracked h.tag
            | none => if o.setHalf = none then q.slot else .empty
          | some (.relocation n) => .tracked n
          | some (.foreign u) => .untracked u
          | none => if o.setHalf = none then q.slot else .empty
        loadConfirmed :=
          match o.liftHalf with
          | some (.relocation _) => true
          | some (.taker n) =>
            if s.handover n = none ∧ o.setHalf = none then q.loadConfirmed else false
          | some (.foreign _) => false
          | none => if o.setHalf = none then q.loadConfirmed else false } := by
  have set : ∀ (sl : Slot) (b : Bool), { q.afterSet o.setHalf with slot := sl, loadConfirmed := b } =
      { q with slot := sl, loadConfirmed := b } := fun sl b => by
    unfold Robot.afterSet
    split <;> rfl
  have emptied : q.afterSet o.setHalf =
      { q with
        slot := if o.setHalf = none then q.slot else .empty
        loadConfirmed := if o.setHalf = none then q.loadConfirmed else false } := by
    unfold Robot.afterSet
    split <;> rfl
  cases lift : o.liftHalf with
  | none => exact emptied
  | some l =>
    cases l with
    | relocation n => exact set _ _
    | foreign u => exact set _ _
    | taker n =>
      have tags := s.okSet_tag (c := c) (o := o) n
      cases known : s.handover n with
      | none =>
        rw [known] at tags
        have gone := Option.map_eq_none_iff.mp tags
        simp only [liftedRobot, gone, emptied, known, true_and]
      | some h =>
        rw [known] at tags
        obtain ⟨h', there, same⟩ := Option.map_eq_some_iff.mp tags
        simp only [liftedRobot, there, same, known, reduceCtorEq, false_and, if_false]
        exact set _ _

/-- HANDOVER_DONE of an OK end whose halves name different records (02, R52). -/
theorem okTells (nodup : o.records.Nodup) :
    (s.okSet c o).liftTells o.robot o.liftHalf =
      match o.liftHalf with
      | some (.taker n) =>
        match s.handover n with
        | some q => [.handoverDone n q.tag q.giver o.robot q.relocations (s.time - q.openedAt)]
        | none => []
      | _ => [] := by
  have time : (s.okSet c o).time = s.time := (congrArg State.time (s.okSet_rest c o) :)
  cases lift : o.liftHalf with
  | none => rfl
  | some l =>
    cases l with
    | relocation n => rfl
    | foreign u => rfl
    | taker n =>
      have other : o.setHalf.bind SetHalf.handover ≠ some n := fun named => by
        have twice : o.records = [n, n] := by
          unfold Operation.records
          rw [named, lift]
          rfl
        rw [twice] at nodup
        simp at nodup
      have there : (s.okSet c o).handover n = s.handover n := by
        rw [okSet, finishSet_handover_ne other]
        rfl
      unfold liftTells
      dsimp only
      rw [there]
      cases known : s.handover n with
      | none => rfl
      | some h =>
        dsimp only
        unfold doneNotice
        rw [time, s.number_of_handover known]

end

end State

/-- Settles O39: the halves and the column, the comparison and the audit unit, then the remap. -/
theorem okEndAppliesTheOperation : Obligations.OkEndAppliesTheOperation := by
  unfold Obligations.OkEndAppliesTheOperation
  intro addr cb h t3 t2 t1 t0 r d o s a c tag known here defn op own small k pushed stack
  have lt := s.lt_of_defn defn
  have isStack : o.stackAfter (s.col c).stack = stack := by
    have pushes : (o.setHalf.map SetHalf.entry).toList = pushed := by
      rcases half : o.setHalf with _ | _ | _ | _ <;> simp only [pushed, half] <;> rfl
    rw [Operation.stackAfter_eq, pushes]
  have zone : s.zoneOf c = d.zone := State.zoneOf_defined defn
  have taken := takeOpEnd_working (c := c) (res := 0) (height := h.toNat) (tag := tag) here defn op own
  rw [show OpResult.ofByte? 0 = some .ok from rfl] at taken
  dsimp only at taken
  rw [if_neg (Nat.not_lt.mpr small), State.endOk_eq lt, own] at taken
  have judged := State.okCompare_eq (o := o) (height := h.toNat) (tag := tag) lt
  generalize s.okCompare c o h.toNat tag = v at taken judged
  rw [isStack] at judged
  refine ⟨s.okEnd c o v h.toNat tag, ?_⟩
  intro result called spare complete differs fails remaps
  have compared : result = v := by
    rewrite [judged]
    show (if h.toNat ≠ stack.length then Compare.mismatch else _) = _
    cases stack.getLast? with
    | none => rfl
    | some e =>
      dsimp only
      rw [State.okEnd_entryTag]
  have colSame := State.okEnd_col_same (o := o) (r := v) (height := h.toNat) (tag := tag) lt
  rw [State.okState_col_same lt, isStack] at colSame
  have reserved : (s.okEnd c o v h.toNat tag).reservations c = (s.okState c o v).reservations c :=
    congrArg (List.countP _) State.okEnd_handovers
  have isRemaps : (s.okState c o v).remapNotices c = remaps := by
    rewrite [State.okState_remapNotices lt, zone, State.spareIn_eq_find, isStack, ← reserved]
    show _ = match s.mappedBy c with | some x => _ | none => _
    cases s.mappedBy c with
    | none => rfl
    | some x =>
      dsimp only
      rw [colSame]
      rfl
  have isMap : (s.okState c o v).remapMap c = _ := State.okState_remapMap
  rw [isRemaps, zone, State.spareIn_eq_find] at isMap
  have isDiffers : s.okDiffers c o v h.toNat tag = differs := by
    have mapped : (s.okClosed c o).mappedBy c = s.mappedBy c :=
      State.mappedBy_congr (congrArg State.xpMap (s.okClosed_rest c o) :) c
    have closed := State.okClosed_col_same (o := o) lt
    rw [isStack] at closed
    show _ = if result = .mismatch then _ else _
    unfold State.okDiffers State.discrepancyNotice State.topView State.top
    rw [compared, mapped, closed, own, State.okEnd_entryView]
    rfl
  have isFails : s.okUnverified c o v = fails := by
    show _ = if called ∧ result = .heightOnly ∧ s.audit.overdue then _ else _
    unfold State.okUnverified
    rw [zone, isStack, compared]
  have rest := State.okEnd_rest (s := s) (c := c) (o := o) (r := v) (height := h.toNat) (tag := tag)
  have robots : ∀ e, (s.okEnd c o v h.toNat tag).robot e =
      ((s.okSet c o).finishLift o.robot o.liftHalf).robot e := fun e => by
    simp only [State.robot, State.okEnd_roster]
  refine ⟨?_, ?_, fun e ne => State.okEnd_col_ne ne, ?_, fun nodup => ?_, ?_, ?_, fun e ne => ?_,
    (congrArg State.zones rest :), (congrArg State.params rest :), (congrArg State.lockFlags rest :),
    (congrArg State.lastNumber rest :), (congrArg State.time rest :)⟩
  · rw [compared]
    exact (exec_opEnd known).trans (congrArg (fun t : State => Host.Outcome.next t.startTx) taken)
  · rw [compared]
    refine colSame.trans ?_
    have settle : ((s.col c).defn.map (·.settle)).getD 0 = d.settle := by
      rw [show (s.col c).defn = some d from defn]
      rfl
    unfold Column.okOver
    rw [settle]
    rfl
  · have there : (s.okSet c o).robot o.robot = some (r.afterSet o.setHalf) :=
      State.finishSet_robot_same (s := s.modCol c fun k =>
        { k with stack := o.stackAfter (s.col c).stack }) (own ▸ known)
    have lifted := State.finishLift_robot_same (l := o.liftHalf) there
    rw [State.okRobot, ← robots, own] at lifted
    refine lifted.trans (congrArg some ?_)
    rcases o.liftHalf with _ | _ | _ | _ <;> rfl
  · have link := State.okEnd_link (s := s) (c := c) (o := o) (r := v) (height := h.toNat) (tag := tag)
    rw [State.okTells nodup, isDiffers, isFails, isRemaps, own] at link
    refine link.trans ?_
    rewrite [← List.append_assoc, ← List.append_assoc]
    refine congrArg (fun l => (s.notifyAll (l ++ differs ++ fails ++ remaps)).link) ?_
    rcases lift : o.liftHalf with _ | n | n | u
    · simp only [complete, lift]
    · cases there : s.handover n <;> simp only [complete, lift, there]
    · simp only [complete, lift]
    · simp only [complete, lift]
  · rw [State.okEnd_xpMap]
    refine isMap.trans ?_
    cases s.mappedBy c <;> rfl
  · rw [State.okEnd_audit, State.okAudit_eq, compared]
  · rw [robots, State.finishLift_robot_ne (own ▸ ne)]
    exact State.finishSet_robot_ne (own ▸ ne)

end Sys2Proof.Machine
end

section
/-! PROOFS. The records of an OK end (04, R93, R96 to R98; 02, R50 to R54). O40 is settled here. -/

namespace Sys2Proof.Machine

namespace State

section
variable {s : State} {c n : Nat} {o : Operation} {r : Compare} {height : Nat} {tag : BinTag}
  {q h : Handover}

theorem okEnd_suspends : (s.okEnd c o r height tag).suspends c =
    ((s.okClosed c o).okActed c o r).suspends c := by
  rw [← okState_suspends]
  have zones : (s.okEnd c o r height tag).zones = (s.okState c o r).zones :=
    (congrArg State.zones okEnd_rest :).trans (congrArg State.zones (s.okState_rest c o r) :).symm
  have col := col_congr (okEnd_columns (s := s) (c := c) (o := o) (r := r) (height := height)
    (tag := tag)) c
  exact suspends_congr zones
    ((congrArg Column.defn col).trans (defn_modCol _ c c _ fun _ => rfl))
    ((congrArg Column.causes col).trans (col_modCol_proj _ (·.causes) c c _ fun _ => rfl))

theorem okEnd_suspends_still (still : ¬r.Judges o.kind) :
    (s.okEnd c o r height tag).suspends c = s.suspends c :=
  okEnd_suspends.trans ((okActed_suspends (.inr still)).trans (okClosed_suspends c))

theorem okEnd_suspends_mismatch (lt : c < s.columns.length) (differs : r = .mismatch) :
    (s.okEnd c o r height tag).suspends c = true := by
  have size : c < (s.okClosed c o).columns.length := by
    rw [okClosed_columns]
    simpa using lt
  exact okEnd_suspends.trans (okActed_suspends_mismatch size differs)

/-- A record of an OK end, from what its halves made of it. -/
theorem okEnd_handover (there : (s.okClosed c o).handover n = some h) :
    (s.okEnd c o r height tag).handover n =
      some (clearedIf
        { h with
          deadline :=
            if r.Judges o.kind ∧ h.column = some c then
              h.deadline.map (Deadline.judge ((s.okEnd c o r height tag).suspends c))
            else h.deadline }
        (r = .credited ∧ n ∈ (s.okClosed c o).involved c o)) := by
  rw [okEnd_suspends, handover_congr okEnd_handovers]
  exact okActed_handover there

theorem okEnd_handover_none (gone : (s.okClosed c o).handover n = none) :
    (s.okEnd c o r height tag).handover n = none := by
  have fixed := (s.okState_frame c o r).handover n
  rw [gone] at fixed
  rw [handover_congr okEnd_handovers]
  exact Option.map_eq_none_iff.mp fixed

/-- The records a credited end clears: those of the halves and the one of the new top entry
(04, R96). -/
theorem okClosed_involved (lt : c < s.columns.length) :
    n ∈ (s.okClosed c o).involved c o ↔
      n ∈ o.records ∨ (o.stackAfter (s.col c).stack).getLast? = some (.tracked n) := by
  have stack : ((s.okClosed c o).col c).stack = o.stackAfter (s.col c).stack :=
    congrArg Column.stack (okClosed_col_same lt)
  unfold involved top
  rw [stack, List.mem_append]
  refine or_congr_right ?_
  cases (o.stackAfter (s.col c).stack).getLast? with
  | none => simp
  | some e => cases e <;> simp [eq_comm]

/-! ### Which half names a record -/

theorem mem_records : n ∈ o.records ↔
    o.setHalf.bind SetHalf.handover = some n ∨ o.liftHalf.bind LiftHalf.handover = some n := by
  unfold Operation.records
  rw [List.mem_append, Option.mem_toList, Option.mem_toList]

/-- No record is named by both halves (02, R28). -/
theorem halves_differ (nodup : o.records.Nodup)
    (set : o.setHalf.bind SetHalf.handover = some n) :
    o.liftHalf.bind LiftHalf.handover ≠ some n := by
  intro lift
  unfold Operation.records at nodup
  rw [set, lift] at nodup
  simp at nodup

theorem setHalf_named : o.setHalf.bind SetHalf.handover = some n ↔
    o.setHalf = some (.reserved n) ∨ o.setHalf = some (.relocation n) := by
  rcases o.setHalf with _ | _ | _ | _ <;> simp [SetHalf.handover]

theorem liftHalf_named : o.liftHalf.bind LiftHalf.handover = some n ↔
    o.liftHalf = some (.taker n) ∨ o.liftHalf = some (.relocation n) := by
  rcases o.liftHalf with _ | _ | _ | _ <;> simp [LiftHalf.handover]

/-- What the halves made of a record keeps its uncertain flag (02, R54). -/
theorem okClosed_uncertain (nodup : o.records.Nodup) (known : s.handover n = some q)
    (there : (s.okClosed c o).handover n = some h) : h.uncertain = q.uncertain := by
  by_cases set : o.setHalf.bind SetHalf.handover = some n
  · rw [okClosed_handover_set known (setHalf_named.mp set) (halves_differ nodup set)] at there
    rw [← Option.some.inj there]
    rfl
  · by_cases lift : o.liftHalf.bind LiftHalf.handover = some n
    · rcases liftHalf_named.mp lift with taker | relocation
      · rw [okClosed_handover_taken taker] at there
        exact absurd there (by simp)
      · rw [okClosed_handover_lift known relocation set] at there
        rw [← Option.some.inj there]
        rfl
    · rw [okClosed_handover_ne set lift, known] at there
      rw [Option.some.inj there]

/-! ### The outcome of the comparison -/

theorem okCompare_credited (lt : c < s.columns.length) :
    s.okCompare c o height tag = .credited ↔
      height = (o.stackAfter (s.col c).stack).length ∧
        (o.stackAfter (s.col c).stack = [] ∨
          ∃ e, (o.stackAfter (s.col c).stack).getLast? = some e ∧ tag ≠ 0 ∧
            tag = (s.okClosed c o).entryTag e) := by
  rw [okCompare_eq lt]
  by_cases size : height = (o.stackAfter (s.col c).stack).length
  · rw [if_neg (not_not.mpr size)]
    cases last : (o.stackAfter (s.col c).stack).getLast? with
    | none => simp [size, List.getLast?_eq_none_iff.mp last]
    | some e =>
      have stands : o.stackAfter (s.col c).stack ≠ [] := fun k => by simp [k] at last
      dsimp only
      by_cases zero : tag = 0
      · simp [zero, stands]
      · rw [if_neg zero]
        by_cases same : tag = (s.okClosed c o).entryTag e
        · rw [if_pos same]
          exact ⟨fun _ => ⟨size, .inr ⟨e, rfl, zero, same⟩⟩, fun _ => rfl⟩
        · rw [if_neg same]
          simp [stands, same]
  · simp [size]

theorem okCompare_mismatch (lt : c < s.columns.length) :
    s.okCompare c o height tag = .mismatch ↔
      height ≠ (o.stackAfter (s.col c).stack).length ∨
        ∃ e, (o.stackAfter (s.col c).stack).getLast? = some e ∧ tag ≠ 0 ∧
          tag ≠ (s.okClosed c o).entryTag e := by
  rw [okCompare_eq lt]
  by_cases size : height = (o.stackAfter (s.col c).stack).length
  · rw [if_neg (not_not.mpr size)]
    cases last : (o.stackAfter (s.col c).stack).getLast? with
    | none => simp [size]
    | some e =>
      dsimp only
      by_cases zero : tag = 0
      · simp [zero, size]
      · rw [if_neg zero]
        by_cases same : tag = (s.okClosed c o).entryTag e
        · rw [if_pos same]
          simp [size, same]
        · rw [if_neg same]
          exact ⟨fun _ => .inr ⟨e, rfl, zero, same⟩, fun _ => rfl⟩
  · simp [size]

/-- The COLLECT deadline of a bin set down, once the comparison has judged it (02, R43, R50). -/
theorem setDown_deadline {i : Nat} {b : Bool} :
    (if r.Judges o.kind ∧ (s.setDown c i b q).column = some c then
        (s.setDown c i b q).deadline.map
          (Deadline.judge ((s.okEnd c o r height tag).suspends c))
      else (s.setDown c i b q).deadline) =
      if q.taker = .none then none
      else some ⟨.collect, s.params.collectLimit * 1000,
        if (s.okEnd c o r height tag).suspends c then .suspended else .running⟩ := by
  by_cases parks : q.taker = .none
  · simp [setDown, parks]
  · by_cases judges : r.Judges o.kind
    · have never : (if s.suspends c = true then DeadlineCond.suspended else .running) ≠ .stopped := by
        split <;> simp
      simp only [setDown, freshCollect, parks, judges, and_self, if_true, if_false, Option.map_some,
        Deadline.judge_eq, never]
    · rw [okEnd_suspends_still judges]
      simp only [setDown, freshCollect, parks, judges, false_and, if_false]

end

/-! ### The answer -/

section
variable (s : State) (a : Nat) (m : FleetMsg)

theorem answered_handover (n : Nat) : (s.send a m).startTx.handover n = s.handover n := rfl

theorem answered_suspends (c : Nat) : (s.send a m).startTx.suspends c = s.suspends c := rfl

theorem answered_entryTag : (s.send a m).startTx.entryTag = s.entryTag := rfl

theorem answered_col (c : Nat) : (s.send a m).startTx.col c = s.col c := rfl

end

end State

/-- Settles O40: what the halves make of each record, then what the comparison does to it. -/
theorem okEndMovesTheRecords : Obligations.OkEndMovesTheRecords := by
  unfold Obligations.OkEndMovesTheRecords
  intro addr cb h t3 t2 t1 t0 r d o s a c known here defn op own small nodup tag pushed stack
  have lt := s.lt_of_defn defn
  have isStack : o.stackAfter (s.col c).stack = stack := by
    have pushes : (o.setHalf.map SetHalf.entry).toList = pushed := by
      rcases half : o.setHalf with _ | _ | _ | _ <;> simp only [pushed, half] <;> rfl
    rw [Operation.stackAfter_eq, pushes]
  have taken := takeOpEnd_working (c := c) (res := 0) (height := h.toNat) (tag := tag) here defn op own
  rw [show OpResult.ofByte? 0 = some .ok from rfl] at taken
  dsimp only at taken
  rw [if_neg (Nat.not_lt.mpr small), State.endOk_eq lt] at taken
  have isCredited := State.okCompare_credited (o := o) (height := h.toNat) (tag := tag) lt
  have isMismatch := State.okCompare_mismatch (o := o) (height := h.toNat) (tag := tag) lt
  generalize s.okCompare c o h.toNat tag = v at taken isCredited isMismatch
  rw [isStack] at isCredited isMismatch
  have involved : ∀ n, n ∈ (s.okClosed c o).involved c o ↔
      n ∈ o.records ∨ stack.getLast? = some (.tracked n) := fun n => by
    rw [State.okClosed_involved lt, isStack]
  have stands : ((s.okEnd c o v h.toNat tag).col c).stack = stack := by
    rw [State.okEnd_col_same lt, State.okState_col_same lt, isStack]
    rfl
  obtain ⟨t, ends, read, suspends, tags, stackThen⟩ : ∃ t : State,
      exec (.opEnd addr [cb, 0, h, t3, t2, t1, t0]) s = .next t ∧
      (∀ n, t.handover n = (s.okEnd c o v h.toNat tag).handover n) ∧
      t.suspends c = (s.okEnd c o v h.toNat tag).suspends c ∧
      t.entryTag = (s.okClosed c o).entryTag ∧ (t.col c).stack = stack :=
    ⟨_, (exec_opEnd known).trans (congrArg (fun t : State => Host.Outcome.next t.startTx) taken),
      State.answered_handover _ _ _, State.answered_suspends _ _ _ c,
      (State.answered_entryTag _ _ _).trans State.okEnd_entryTag,
      (congrArg Column.stack (State.answered_col _ _ _ c)).trans stands⟩
  refine ⟨t, ?_⟩
  intro credited differs
  have credits : v = .credited ↔ credited := by
    rw [isCredited, ← tags]
  have mismatches : v = .mismatch ↔ differs := by
    rw [isMismatch, ← tags]
  have judges : v.Judges o.kind ↔ differs ∨ (credited ∧ o.kind = .scan) := by
    rw [← credits, ← mismatches]
  have record : ∀ {n x}, (s.okClosed c o).handover n = some x → t.handover n = some
      (State.clearedIf
        { x with
          deadline := if v.Judges o.kind ∧ x.column = some c then
            x.deadline.map (Deadline.judge (t.suspends c)) else x.deadline }
        (v = .credited ∧ n ∈ (s.okClosed c o).involved c o)) := fun there => by
    rw [read, suspends]
    exact State.okEnd_handover there
  refine ⟨ends, fun n q there half => ?_, fun n q there half => ?_, fun n half => ?_,
    fun n q q' there after => ?_, fun n q there other on => ?_, fun n q there other off absent => ?_⟩
  · have set := State.setHalf_named.mpr half
    refine ⟨_, record (State.okClosed_handover_set (c := c) there half
      (State.halves_differ nodup set)), rfl, rfl, rfl, ?_, rfl, ?_, ?_⟩
    · rw [stackThen, ← isStack]
      rfl
    · rw [suspends]
      exact State.setDown_deadline
    · simp only [State.clearedIf, State.setDown, decide_eq_true_eq, countUp]
      by_cases moved : o.setHalf = some (.relocation n)
      · simp only [moved, if_true, true_and]
      · simp only [moved, if_false, false_and]
  · have lift := State.liftHalf_named.mpr (.inr half)
    refine ⟨_, record (State.okClosed_handover_lift (c := c) there half
      fun set => State.halves_differ nodup set lift), rfl, rfl, rfl, ?_, rfl, ?_, rfl⟩
    · exact congrArg Custody.robot own
    · exact if_neg fun k => absurd k.2 (by simp [State.lifted])
  · exact (read n).trans (State.okEnd_handover_none (State.okClosed_handover_taken half))
  · cases made : (s.okClosed c o).handover n with
    | none =>
      rw [read, State.okEnd_handover_none made] at after
      exact absurd after (by simp)
    | some x =>
      rw [record made] at after
      have cleared := (congrArg Handover.uncertain (Option.some.inj after)).symm
      have flag := State.okClosed_uncertain nodup there made
      simp only [State.clearedIf, involved, credits] at cleared
      refine ⟨fun yes named => ?_, fun no => ?_⟩
      · rw [cleared, if_pos ⟨yes, named⟩]
      · rw [cleared, if_neg no, flag]
  · rw [State.mem_records, not_or] at other
    have made : (s.okClosed c o).handover n = some q :=
      (State.okClosed_handover_ne other.1 other.2).trans there
    refine ⟨_, record made, fun yes => ?_, fun no => ?_, fun yes => ?_⟩
    · have both : v.Judges o.kind ∧ q.column = some c := ⟨judges.mpr yes, on⟩
      simp only [State.clearedIf, both, and_self, if_true, Deadline.judge_eq]
    · simp only [State.clearedIf, mt judges.mp no, false_and, if_false]
    · exact suspends.trans (State.okEnd_suspends_mismatch lt (mismatches.mpr yes))
  · have unnamed : n ∉ (s.okClosed c o).involved c o := by
      rw [involved]
      rintro (half | top)
      · exact other half
      · exact absent (stackThen ▸ List.mem_of_getLast? top)
    rw [State.mem_records, not_or] at other
    have made : (s.okClosed c o).handover n = some q :=
      (State.okClosed_handover_ne other.1 other.2).trans there
    rw [record made, if_neg fun k => off k.2, State.clearedIf_no fun k => unnamed k.2]

end Sys2Proof.Machine
end

section
/-! PROOFS. A column without an operation keeps what an operation would change, whatever the arbiter
and the zone controller do (03, R64; 08, R160 to R169). -/

namespace Sys2Proof.Machine

/-- What only operations and the audit of a column change: its operation, stack, inbound mark, fault
count and SUSPECT. -/
def Column.atRest (k : Column) : Option Operation × List Entry × Bool × Nat × Bool :=
  (k.op, k.stack, k.inbound, k.faultCount, k.causes.suspect)

/-- A column is idle with a given content. -/
structure State.Rests (s : State) (c : Nat) (b : List Entry × Bool × Nat × Bool) : Prop where
  column : (s.col c).atRest = (none, b)

namespace State.Rests
variable {s t : State} {c : Nat} {b : List Entry × Bool × Nat × Bool}

theorem of_col (h : s.Rests c b) (col : t.col c = s.col c) : t.Rests c b :=
  ⟨(congrArg Column.atRest col).trans h.column⟩

theorem of_columns (h : s.Rests c b) (columns : t.columns = s.columns) : t.Rests c b :=
  h.of_col (col_congr columns c)

theorem modCol (h : s.Rests c b) (e : Nat) {f : Column → Column}
    (keeps : ∀ k, (f k).atRest = k.atRest) : (s.modCol e f).Rests c b :=
  ⟨(s.col_modCol_proj Column.atRest e c f keeps).trans h.column⟩

theorem modZones (h : s.Rests c b) (f : ZoneCtl → ZoneCtl) : (s.modZones f).Rests c b :=
  h.of_columns rfl

theorem judgeAll (h : s.Rests c b) : s.judgeAll.Rests c b := h.of_columns rfl

theorem notify (h : s.Rests c b) (n : NoticeBody) : (s.notify n).Rests c b := h.of_columns rfl

theorem send (h : s.Rests c b) (a : Nat) (m : FleetMsg) : (s.send a m).Rests c b :=
  h.of_columns rfl

theorem idle (h : s.Rests c b) : (s.col c).op = none := congrArg Prod.fst h.column

theorem handOn (h : s.Rests c b) (e : Nat) : (s.handOn e).Rests c b := by
  unfold State.handOn
  split
  · exact h
  · split
    · exact h
    · rw [makeGrant_eq, modCol_modCol]
      refine send (modCol h e ?_) _ _
      exact fun _ => rfl

theorem handOnZones (h : s.Rests c b) (l : List Nat) : (l.foldl State.handOnZone s).Rests c b :=
  foldl_keeps (fun u : State => u.Rests c b) _ l s h fun u _ _ hu =>
    foldl_keeps (fun v : State => v.Rests c b) _ _ u hu fun _ e _ hv => hv.handOn e

theorem refuseWaits (h : s.Rests c b) (e : Nat) (r : Status) : (s.refuseWaits e r).Rests c b := by
  rw [refuseWaits_eq]
  exact (h.modCol e (f := fun q => { q with waits := [] }) fun _ => rfl).of_col (sendAll_col _ _ c)

theorem judgeZones (h : s.Rests c b) (l : List Nat) : (l.foldl State.judgeZone s).Rests c b :=
  foldl_keeps (fun u : State => u.Rests c b) _ l s h fun _ _ _ hu => hu.of_columns rfl

theorem addZoneCauses (h : s.Rests c b) (l : List Nat) :
    (l.foldl State.addZoneCause s).Rests c b :=
  foldl_keeps (fun u : State => u.Rests c b) _ l s h fun _ e _ hu =>
    (hu.modCol e (f := fun k => { k with causes := { k.causes with zone := true } })
      fun _ => rfl).of_columns rfl

theorem closeZones (h : s.Rests c b) (l : List Nat) : (l.foldl State.closeZone s).Rests c b :=
  foldl_keeps (fun u : State => u.Rests c b) _ l s h fun u _ _ hu =>
    addZoneCauses (foldl_keeps (fun v : State => v.Rests c b) _ _ u hu fun _ e _ hv =>
      hv.refuseWaits e _) _

theorem holdColumn (h : s.Rests c b) (e : Nat) : (s.holdColumn e).Rests c b := by
  by_cases same : c = e
  · subst same
    rw [holdColumn_idle h.idle, foldl_refused]
    exact (h.modCol c (f := fun k => { k with grant := none, waits := [] }) fun _ => rfl).of_col
      (sendAll_col _ _ c)
  · exact h.of_col (holdColumn_col_ne same)

theorem completeHold (h : s.Rests c b) : s.completeHold.Rests c b :=
  (((h.modZones _).addZoneCauses _).modZones _).notify _

theorem beginHold (h : s.Rests c b) : s.beginHold.Rests c b := by
  have cleared : ∀ u : State, u.Rests c b →
      (forUpTo Config.columnCount State.holdColumn u).Rests c b := fun u hu =>
    foldl_keeps (fun v : State => v.Rests c b) _ _ u hu fun _ e _ hv => hv.holdColumn e
  unfold State.beginHold
  dsimp only
  split
  · exact ((cleared _ (h.modZones _)).modZones _).judgeAll.completeHold
  · exact ((cleared _ (h.modZones _)).modZones _).judgeAll

theorem afterNormal (h : s.Rests c b) : s.afterNormal.Rests c b := by
  unfold State.afterNormal
  split
  · exact h.beginHold
  · exact h

theorem succeed (h : s.Rests c b) (x : Transition) : (s.succeed x).Rests c b :=
  ((((((h.modZones _).closeZones _).modZones _).judgeZones _).handOnZones _).notify _).afterNormal

theorem judgeEcho (h : s.Rests c b) : s.judgeEcho.Rests c b := by
  unfold State.judgeEcho
  split
  · exact h
  · split
    · split
      · exact h.succeed _
      · exact h.completeHold
    · exact h

theorem checkWaiting (h : s.Rests c b) (x : Transition) : (s.checkWaiting x).Rests c b := by
  unfold State.checkWaiting
  split
  · exact ((h.modZones _).judgeZones _).judgeEcho
  · exact h

theorem endGrant (h : s.Rests c b) (e : Nat) : (s.endGrant e).Rests c b := by
  cases held : (s.col e).grant with
  | none =>
    rw [State.endGrant, held]
    exact h
  | some g =>
    rw [endGrant_held held]
    have ended := h.modCol e (f := fun q => { q with grant := none }) fun _ => rfl
    unfold reportGrantEnd
    split
    · exact ended
    · split
      · exact (ended.modZones _).checkWaiting _
      · exact ended

end State.Rests

end Sys2Proof.Machine
end

section
/-! PROOFS. A restart (05, R118). O45 is settled here. -/

namespace Sys2Proof.Machine

namespace State

/-! ### What a robot holds -/

section
variable {s t : State} {a c : Nat}

theorem workingOn_some (h : s.workingOn a = some c) : ∃ o, (s.col c).op = some o ∧ o.robot = a := by
  have first := ((indexFrom_columns (s := s) (p := fun k => k.op.map (·.robot) == some a) rfl).mp h).1
  exact Option.map_eq_some_iff.mp (beq_iff_eq.mp first)

theorem grantedTo_some (h : s.grantedTo a = some c) :
    ∃ g, (s.col c).grant = some g ∧ g.robot = a := by
  have first :=
    ((indexFrom_columns (s := s) (p := fun k => k.grant.map (·.robot) == some a) rfl).mp h).1
  exact Option.map_eq_some_iff.mp (beq_iff_eq.mp first)

theorem indexFrom_congr {p : Column → Bool} (blank : p Column.blank = false)
    (same : ∀ e, p (t.col e) = p (s.col e)) :
    indexFrom p t.columns 0 = indexFrom p s.columns 0 := by
  refine Option.ext fun c => ?_
  rw [indexFrom_columns blank, indexFrom_columns blank]
  simp only [same]

theorem grantedTo_congr (same : ∀ e, (t.col e).grant = (s.col e).grant) (a : Nat) :
    t.grantedTo a = s.grantedTo a :=
  indexFrom_congr (p := fun k => k.grant.map (·.robot) == some a) rfl fun e => by simp only [same]

theorem waitingOn_congr (same : ∀ e, (t.col e).waits = (s.col e).waits) (a : Nat) :
    t.waitingOn a = s.waitingOn a :=
  indexFrom_congr (p := fun k => k.waits.any (·.robot == a)) rfl fun e => by simp only [same]

end

/-! ### The cut-off of a restart -/

section
variable {s : State} {a c : Nat} {o : Operation}

theorem restartCut_idle (idle : s.workingOn a = none) : s.restartCut a = (s, []) := by
  rw [restartCut, idle]

theorem restartCut_working (works : s.workingOn a = some c) (op : (s.col c).op = some o) :
    s.restartCut a =
      ({ s.cutState c o with xpMap := (s.cutState c o).remapMap c },
        .columnSuspect c (s.mappedBy c) .restart o.robot ::
          (s.cutFails c ++ (s.cutState c o).remapNotices c)) := by
  rw [restartCut, works]
  exact cutOff_eq .restart op

theorem restartCut_frame (s : State) (a : Nat) : BlockFrame s (s.restartCut a).1 := by
  unfold restartCut
  cases s.workingOn a with
  | none => exact .refl s
  | some c => exact .cutOff s c .restart

/-- What the cut-off of a restart leaves beside the tables, the map and the audit unit. -/
theorem restartCut_rest (s : State) (a : Nat) : { (s.restartCut a).1 with
    columns := s.columns, handovers := s.handovers, audit := s.audit, xpMap := s.xpMap } = s := by
  cases works : s.workingOn a with
  | none => rw [restartCut_idle works]
  | some c =>
    obtain ⟨o, op, -⟩ := workingOn_some works
    rw [restartCut_working works op]
    exact congrArg (fun v : State => { v with xpMap := s.xpMap }) (s.cutState_rest c o)

theorem restartCut_col_other {e : Nat} (other : s.workingOn a ≠ some e) :
    (s.restartCut a).1.col e = s.col e := by
  cases works : s.workingOn a with
  | none => rw [restartCut_idle works]
  | some c =>
    obtain ⟨o, op, -⟩ := workingOn_some works
    have ne : e ≠ c := fun k => other (works.trans (congrArg some k.symm))
    rw [restartCut_working works op]
    exact cutState_col_ne ne

theorem restartCut_col (works : s.workingOn a = some c) (op : (s.col c).op = some o) :
    (s.restartCut a).1.col c =
      unverifiedIf
        { (s.col c).operationOver o with causes := { (s.col c).causes with suspect := true } }
        (s.audit.called = some c) := by
  rw [restartCut_working works op]
  exact cutState_col_same (lt_of_op op)

theorem restartCut_grant (e : Nat) :
    ((s.restartCut a).1.col e).grant = (s.col e).grant ∧
      ((s.restartCut a).1.col e).waits = (s.col e).waits := by
  by_cases works : s.workingOn a = some e
  · obtain ⟨o, op, -⟩ := workingOn_some works
    rw [restartCut_col works op]
    exact ⟨rfl, rfl⟩
  · rw [restartCut_col_other works]
    exact ⟨rfl, rfl⟩

end

/-! ### The record and the notice -/

section
variable {s : State} {a : Nat} {r : Robot} {q : Body.Announce} {reason : Option InactiveReason}

/-- The record of a restarted robot, by the judgement of its class and level and by its slot (05,
R118). -/
theorem restarted_eq (judged : s.inactiveReason q.gripper q.level = reason)
    (known : ∀ n, r.slot = .tracked n → s.handover n ≠ none) :
    s.restarted r q =
      { r with
        boot := q.boot, gripper := q.gripper, level := q.level
        state := if reason = none then .announced else .inactive
        maxClass := none, admitPending := false
        slot := (match r.slot with
          | .tracked n => .tracked n
          | _ => if q.load = 0 then .empty else .untracked q.load)
        loadConfirmed := (match r.slot with
          | .tracked n => r.loadConfirmed || (s.handover n).map (·.tag) == some q.load
          | _ => false)
        readyTimer := if reason = none then some (s.params.readyLimit * 1000) else none
        lastInactive := if reason = none then r.lastInactive else reason } := by
  have slots : s.slotAfter r q.load =
      ((match r.slot with
        | .tracked n => .tracked n
        | _ => if q.load = 0 then .empty else .untracked q.load),
      (match r.slot with
        | .tracked n => r.loadConfirmed || (s.handover n).map (·.tag) == some q.load
        | _ => false)) := by
    unfold slotAfter
    cases slot : r.slot with
    | empty => rfl
    | untracked u => rfl
    | tracked n =>
      obtain ⟨h, there⟩ := Option.ne_none_iff_exists'.mp (known n slot)
      have tag : s.tagOf n = h.tag := by rw [tagOf, there]; rfl
      simp only [there, tag, Option.map_some]
      refine Prod.ext rfl (congrArg (r.loadConfirmed || ·) ?_)
      rw [Bool.beq_eq_decide_eq, Bool.beq_eq_decide_eq]
      simp [eq_comm]
  unfold restarted enrolled
  rw [slots, judged, judgedState_eq]
  cases reason <;> rfl

end

end State

end Sys2Proof.Machine
end

section
/-! PROOFS. A restart as the obligation states it (05, R118, R119). O45 is settled here. -/

namespace Sys2Proof.Machine

namespace State

section
variable {s : State} {a c n : Nat} {r r' : Robot} {q : Body.Announce} {h : Handover} {t : BinTag}

/-! ### The conflict of the load tag -/

theorem restartConflict_tracked (slot : r.slot = .tracked n) (there : s.handover n = some h) :
    s.restartConflict a r t =
      if t = 0 ∨ t = h.tag then s
      else s.notify (.custodyConflict .wrongBin a r.serial t r.slot h.number h.state h.custody) := by
  have tag : s.tagOf n = h.tag := by
    rw [tagOf, there]
    rfl
  unfold restartConflict
  simp only [slot, tag, there]
  split <;> simp [conflict, slot]

theorem restartConflict_other (slot : ∀ n, r.slot ≠ .tracked n) :
    s.restartConflict a r t = s.judgeElsewhere a r t := by
  unfold restartConflict
  cases k : r.slot with
  | tracked n => exact absurd k (slot n)
  | empty => rfl
  | untracked u => rfl

theorem restartConflict_told (s : State) (a : Nat) (r : Robot) (t : BinTag) :
    ∃ bs, s.restartConflict a r t = s.notifyAll bs := by
  have elsewhere : ∃ bs, s.judgeElsewhere a r t = s.notifyAll bs := by
    unfold judgeElsewhere
    cases s.elsewhere t with
    | none => exact ⟨[], rfl⟩
    | some h => exact ⟨[_], rfl⟩
  cases slot : r.slot with
  | empty =>
    rw [restartConflict_other (by simp [slot])]
    exact elsewhere
  | untracked u =>
    rw [restartConflict_other (by simp [slot])]
    exact elsewhere
  | tracked n =>
    cases there : s.handover n with
    | none =>
      refine ⟨[], ?_⟩
      unfold restartConflict
      simp only [slot, there, ite_self]
      rfl
    | some h =>
      rw [restartConflict_tracked slot there]
      split
      · exact ⟨[], rfl⟩
      · exact ⟨[_], rfl⟩

/-! ### The stages of a restart -/

/-- The operation cut off, and ROBOT_RESTARTED issued before the notices of it (05, R118, step 1). -/
def restartTold (s : State) (a : Nat) (r : Robot) (q : Body.Announce) : State :=
  (s.restartCut a).1.notifyAll (s.restartNotice a r q :: (s.restartCut a).2)

/-- The state of a restart once its record is written (05, R118, steps 1 to 4). -/
def restartWritten (s : State) (a : Nat) (r : Robot) (q : Body.Announce) : State :=
  (((s.restartTold a r q).restartGrant a).restartCustody r).setRobot a (some (s.restarted r q))

theorem restart_eq (s : State) (a : Nat) (r : Robot) (q : Body.Announce) :
    s.restart a r q =
      ((s.restartWritten a r q).restartConflict a (s.restarted r q) q.load).sendAddress a
        (s.restarted r q) := rfl

theorem restartTold_col (e : Nat) : (s.restartTold a r q).col e = (s.restartCut a).1.col e :=
  col_congr (notifyAll_columns _ _) e

theorem restartTold_frame (s : State) (a : Nat) (r : Robot) (q : Body.Announce) :
    BlockFrame s (s.restartTold a r q) := (s.restartCut_frame a).trans (.notifyAll _ _)

theorem restartTold_zones : (s.restartTold a r q).zones = s.zones :=
  (notifyAll_zones _ _).trans (congrArg State.zones (s.restartCut_rest a) :)

theorem restartTold_grantedTo : (s.restartTold a r q).grantedTo a = s.grantedTo a :=
  grantedTo_congr (fun e => by
    rw [restartTold_col]
    exact (restartCut_grant e).1) a

theorem restartTold_waitingOn : (s.restartTold a r q).waitingOn a = s.waitingOn a :=
  waitingOn_congr (fun e => by
    rw [restartTold_col]
    exact (restartCut_grant e).2) a

theorem restartGrant_frame (s : State) (a : Nat) : BlockFrame s (s.restartGrant a) := by
  unfold restartGrant
  cases s.grantedTo a with
  | some c => exact (BlockFrame.endGrant s c).trans (.handOn _ c)
  | none =>
    dsimp only
    cases s.waitingOn a with
    | some c => exact .modCol s c _ (fun _ => rfl) fun _ => rfl
    | none => exact .refl s

theorem restartGrant_held (held : s.grantedTo a = some c) :
    s.restartGrant a = (s.endGrant c).handOn c := by
  rw [restartGrant, held]

theorem restartGrant_free (free : s.grantedTo a = none) :
    s.restartGrant a =
      match s.waitingOn a with
      | some c => s.modCol c fun k => { k with waits := k.waits.filter fun w => w.robot ≠ a }
      | none => s := by
  rw [restartGrant, free]
  cases s.waitingOn a with
  | none => rfl
  | some c => exact s.removeWait_eq c a

theorem restartGrant_rests {b : List Entry × Bool × Nat × Bool} (rests : s.Rests c b) :
    (s.restartGrant a).Rests c b := by
  unfold restartGrant
  cases s.grantedTo a with
  | some e => exact (rests.endGrant e).handOn e
  | none =>
    dsimp only
    cases s.waitingOn a with
    | some e => exact rests.modCol e (f := fun q =>
        { q with waits := q.waits.filter fun w => w.robot != a }) fun _ => rfl
    | none => exact rests

theorem restartCustody_rest (s : State) (r : Robot) :
    { s.restartCustody r with handovers := s.handovers } = s := by
  unfold restartCustody
  split <;> rfl

theorem restartCustody_handover (slot : r.slot = .tracked n) (there : s.handover n = some h) :
    (s.restartCustody r).handover n = some { h with uncertain := true } := by
  unfold restartCustody
  rw [slot]
  dsimp only
  rw [s.handover_modHandover_same n (fun h => { h with uncertain := true }) fun _ => rfl, there]
  rfl

/-- What the last stages of a restart leave beside the records and the roster. -/
theorem restartWritten_rest : { s.restartWritten a r q with
      handovers := ((s.restartTold a r q).restartGrant a).handovers
      roster := ((s.restartTold a r q).restartGrant a).roster } =
    (s.restartTold a r q).restartGrant a := by
  have custody := ((s.restartTold a r q).restartGrant a).restartCustody_rest r
  unfold restartWritten setRobot
  split
  · exact congrArg (fun v : State => { v with
      roster := ((s.restartTold a r q).restartGrant a).roster }) custody
  · exact congrArg (fun v : State => { v with
      roster := ((s.restartTold a r q).restartGrant a).roster }) custody

end

end State

end Sys2Proof.Machine
end

section
/-! PROOFS. A restart as the obligation states it (05, R118, R119). O45 is settled here. -/

namespace Sys2Proof.Machine

namespace State

section
variable {s : State} {a c n : Nat} {r : Robot} {q : Body.Announce} {h : Handover}

/-- The state of a restart before its ADDRESS (05, R118). -/
def restartEnd (s : State) (a : Nat) (r : Robot) (q : Body.Announce) : State :=
  (s.restartWritten a r q).restartConflict a (s.restarted r q) q.load

/-- What a restart leaves beside the link, the records and the roster. -/
theorem restartEnd_fields (s : State) (a : Nat) (r : Robot) (q : Body.Announce) :
    (s.restartEnd a r q).columns = ((s.restartTold a r q).restartGrant a).columns ∧
      (s.restartEnd a r q).zones = ((s.restartTold a r q).restartGrant a).zones ∧
      (s.restartEnd a r q).roster = (s.restartWritten a r q).roster ∧
      (s.restartEnd a r q).handovers = (((s.restartTold a r q).restartGrant a).restartCustody r).handovers
      := by
  obtain ⟨bs, told⟩ := (s.restartWritten a r q).restartConflict_told a (s.restarted r q) q.load
  have written := restartWritten_rest (s := s) (a := a) (r := r) (q := q)
  unfold restartEnd
  rw [told, notifyAll_columns, notifyAll_zones, notifyAll_roster, notifyAll_handovers]
  exact ⟨(congrArg State.columns written :), (congrArg State.zones written :), rfl, setRobot_handovers ..⟩

theorem restartWritten_roster (s : State) (a : Nat) (r : Robot) (q : Body.Announce) :
    (((s.restartTold a r q).restartGrant a).restartCustody r).roster = s.roster :=
  (congrArg State.roster (restartCustody_rest _ r) :).trans
    (((s.restartTold_frame a r q).trans (restartGrant_frame _ a)).roster)

theorem restartEnd_robot_same (known : s.robot a = some r) :
    (s.restartEnd a r q).robot a = some (s.restarted r q) := by
  obtain ⟨-, -, roster, -⟩ := s.restartEnd_fields a r q
  have written : (s.restartWritten a r q).robot a = some (s.restarted r q) := by
    obtain ⟨k, rfl, place⟩ := robot_eq_some.mp known
    obtain ⟨lt, -⟩ := List.getElem?_eq_some_iff.mp place
    refine robot_setRobot_same _ (Nat.succ_ne_zero k) ?_ _
    rw [restartWritten_roster]
    exact lt
  rw [← written]
  simp only [robot, roster]

theorem restartEnd_robot_ne {b : Nat} (ne : b ≠ a) : (s.restartEnd a r q).robot b = s.robot b := by
  obtain ⟨-, -, roster, -⟩ := s.restartEnd_fields a r q
  have written : (s.restartWritten a r q).robot b = s.robot b := by
    refine (robot_setRobot_ne _ ne _).trans ?_
    simp only [robot, restartWritten_roster]
  rw [← written]
  simp only [robot, roster]

/-- The record in the slot of a restarted robot is uncertain, its bin where it was (02, R54). -/
theorem restartEnd_handover (slot : r.slot = .tracked n) (there : s.handover n = some h) :
    ∃ k, (s.restartEnd a r q).handover n = some k ∧ k.uncertain = true ∧ k.custody = h.custody := by
  obtain ⟨-, -, -, handovers⟩ := s.restartEnd_fields a r q
  have fixed := ((s.restartTold_frame a r q).trans (restartGrant_frame _ a)).handover n
  rw [there] at fixed
  obtain ⟨k, known, same⟩ := Option.map_eq_some_iff.mp fixed
  refine ⟨_, (handover_congr handovers n).trans (restartCustody_handover slot known), rfl, ?_⟩
  exact congrArg (fun p => p.2.2.2.2.2.1) same

/-- ROBOT_RESTARTED comes first of the notices of a restart (05, R118). -/
theorem restartEnd_notices (room : s.link.notices.length < 32) :
    ∃ rest, (s.restartEnd a r q).link.notices =
      s.link.notices ++ ⟨s.link.nextSeq, s.time, s.restartNotice a r q⟩ :: rest := by
  have link : (s.restartCut a).1.link = s.link := (congrArg State.link (s.restartCut_rest a) :)
  have time : (s.restartCut a).1.time = s.time := (congrArg State.time (s.restartCut_rest a) :)
  have first : ((s.restartCut a).1.notify (s.restartNotice a r q)).link.notices =
      s.link.notices ++ [⟨s.link.nextSeq, s.time, s.restartNotice a r q⟩] := by
    rw [notify_room _ (by rw [link]; exact room), link, time]
  have later : BlockFrame ((s.restartCut a).1.notify (s.restartNotice a r q))
      ((s.restartTold a r q).restartGrant a) :=
    (BlockFrame.notifyAll _ (s.restartCut a).2).trans (restartGrant_frame _ a)
  obtain ⟨more, grows⟩ := later.notices
  have written : (s.restartWritten a r q).link = ((s.restartTold a r q).restartGrant a).link :=
    (congrArg State.link (restartWritten_rest (s := s) (a := a) (r := r) (q := q)) :)
  obtain ⟨bs, told⟩ := (s.restartWritten a r q).restartConflict_told a (s.restarted r q) q.load
  obtain ⟨last, tail⟩ := (BlockFrame.notifyAll (s.restartWritten a r q) bs).notices
  refine ⟨more ++ last, ?_⟩
  unfold restartEnd
  rw [told, tail, written, grows, first]
  simp

end

end State

/-- Settles O45: the cut-off and its notices, the end of the grant, the record in the slot and the
record of the robot. -/
theorem restartTakesTheRobotsWorkBack : Obligations.RestartTakesTheRobotsWorkBack := by
  unfold Obligations.RestartTakesTheRobotsWorkBack
  intro addr body q a r s decodes running serial gripper level known same reboot unique carried
    reason state slot confirmed r' address
  have judged : s.inactiveReason q.gripper q.level = reason := State.inactiveReason_eq ..
  have isRecord : s.restarted r q = r' := by
    rewrite [State.restarted_eq judged carried]
    cases sl : r.slot <;> simp only [r', slot, confirmed, state, sl]
  have given : (if r'.state = .inactive then r'.lastInactive else none) = reason := by
    show (if (if reason = none then RobotState.announced else .inactive) = .inactive then
      (if reason = none then r.lastInactive else reason) else none) = reason
    by_cases fit : reason = none
    · simp [fit]
    · simp [fit]
  have isNotice : s.restartNotice a r q =
      .robotRestarted a r.serial r.boot q.boot r.state state reason (s.grantOf a) (s.waitingOn a)
        ((s.operationBy a).map fun p => (p.2.kind, p.1)) slot confirmed := by
    unfold State.restartNotice
    rw [isRecord]
    dsimp only
    rw [given]
  have ends : exec (.announce addr body) s =
      .next ((s.restartEnd a r q).send 0 address).startTx := by
    have found : s.addressOf q.serial = some a := State.addressOf_of_unique known same unique
    have sends : ∀ t : State, t.sendAddress a r' = t.send 0 address := fun t => by
      unfold State.sendAddress
      rw [given]
    rw [exec_announce_ok decodes, takeAnnounce_known running serial gripper level found known,
      State.knownAnnouncement, if_neg reboot, State.restart_eq, isRecord, sends, ← isRecord]
    rfl
  obtain ⟨columns, zones, -, -⟩ := s.restartEnd_fields a r q
  refine ⟨fun free idle => ?_, s.restartEnd a r q, ends, ?_, fun b ne => State.restartEnd_robot_ne ne,
    fun room => ?_, fun n h sl there => State.restartEnd_handover sl there, fun c o works op => ?_,
    fun c held => ?_, fun c held still => ?_⟩
  · intro told left marked written conflicted
    have isTold : s.restartTold a r q = told := by
      unfold State.restartTold
      rw [State.restartCut_idle idle, isNotice, State.grantOf, free, State.operationBy, idle]
      rfl
    have isLeft : (s.restartTold a r q).restartGrant a = left := by
      rewrite [State.restartGrant_free (State.restartTold_grantedTo.trans free),
        State.restartTold_waitingOn, isTold]
      cases waits : s.waitingOn a <;> simp only [left, waits]
    have isWritten : s.restartWritten a r q = written := by
      unfold State.restartWritten State.restartCustody
      rewrite [isLeft, isRecord]
      cases sl : r.slot <;> simp only [written, marked, sl]
    have handovers : left.handovers = s.handovers := by
      cases waits : s.waitingOn a <;> simp only [left, waits] <;> rfl
    have elsewhere : (∀ n, r.slot ≠ .tracked n) →
        conflicted = (match if q.load = 0 then none else s.handoverByTag q.load with
          | some h => written.notify
              (.custodyConflict .trackedElsewhere a r.serial q.load slot h.number h.state h.custody)
          | none => written) →
        written.restartConflict a r' q.load = conflicted := fun no judged => by
      have noSlot : ∀ n, r'.slot ≠ .tracked n := fun n => by
        show slot ≠ _
        cases sl : r.slot with
        | tracked m => exact absurd sl (no m)
        | empty =>
          simp only [slot, sl]
          split <;> simp
        | untracked u =>
          simp only [slot, sl]
          split <;> simp
      have records : written.handoverByTag q.load = s.handoverByTag q.load := by
        refine State.handoverByTag_congr ?_ _
        show (marked.setRobot a (some r')).handovers = _
        rw [State.setRobot_handovers, ← handovers]
        cases sl : r.slot with
        | tracked m => exact absurd sl (no m)
        | empty => simp only [marked, sl]
        | untracked u => simp only [marked, sl]
      rewrite [judged, State.restartConflict_other noSlot, State.judgeElsewhere_eq, records]
      cases (if q.load = 0 then none else s.handoverByTag q.load) <;> rfl
    have isEnd : s.restartEnd a r q = conflicted := by
      unfold State.restartEnd
      rw [isWritten, isRecord]
      cases sl : r.slot with
      | tracked n =>
        have isSlot : r'.slot = .tracked n := by
          show slot = _
          simp only [slot, sl]
        obtain ⟨h, there⟩ := Option.ne_none_iff_exists'.mp (carried n sl)
        have doubted : written.handover n = some { h with uncertain := true } := by
          have writes : written.handovers =
              (left.modHandover n fun h => { h with uncertain := true }).handovers := by
            simp only [written, marked, sl, State.setRobot_handovers]
          rw [State.handover_congr writes, left.handover_modHandover_same n
            (fun h => { h with uncertain := true }) fun _ => rfl, State.handover_congr handovers, there]
          rfl
        rw [State.restartConflict_tracked isSlot doubted]
        simp only [conflicted, sl, there]
        rfl
      | empty =>
        refine elsewhere (by simp [sl]) ?_
        cases e : (if q.load = 0 then none else s.handoverByTag q.load) <;>
          simp only [conflicted, sl, e]
      | untracked u =>
        refine elsewhere (by simp [sl]) ?_
        cases e : (if q.load = 0 then none else s.handoverByTag q.load) <;>
          simp only [conflicted, sl, e]
    rw [ends, isEnd]
  · rw [State.restartEnd_robot_same known, isRecord]
  · obtain ⟨rest, notices⟩ := State.restartEnd_notices (a := a) (r := r) (q := q) room
    rw [isNotice] at notices
    refine ⟨_, _, rest, notices, fun c g held grant => ?_, fun free => ?_, fun c o works op => ?_,
      fun idle => ?_⟩
    · simp only [State.grantOf, held, grant, Option.bind_some, Option.map_some]
    · simp only [State.grantOf, free, Option.bind_none]
    · simp only [State.operationBy, works, op, Option.bind_some, Option.map_some]
    · simp only [State.operationBy, idle, Option.bind_none, Option.map_none]
  · have cut : (s.restartTold a r q).Rests c ((s.col c).stack,
        (if o.inboundTaken then false else (s.col c).inbound), (s.col c).faultCount, true) :=
      ⟨by rw [State.restartTold_col, State.restartCut_col works op]; rfl⟩
    have rests := ((State.restartGrant_rests (a := a) cut).of_columns columns).column
    simp only [Column.atRest, Prod.mk.injEq] at rests
    obtain ⟨noOp, stack, inbound, faults, suspect⟩ := rests
    exact ⟨noOp, suspect, inbound, stack, faults⟩
  · have handed : (s.restartTold a r q).restartGrant a = ((s.restartTold a r q).endGrant c).handOn c :=
      State.restartGrant_held (State.restartTold_grantedTo.trans held)
    refine ⟨s.restartTold a r q, State.restartTold_zones, (s.restartTold_frame a r q).roster,
      fun e other => ?_, fun e o works op => ?_, columns.trans (by rw [handed]),
      zones.trans (by rw [handed])⟩
    · rw [State.restartTold_col, State.restartCut_col_other other]
    · rw [State.restartTold_col, State.restartCut_col works op]
      rfl
  · have handed : (s.restartTold a r q).restartGrant a = ((s.restartTold a r q).endGrant c).handOn c :=
      State.restartGrant_held (State.restartTold_grantedTo.trans held)
    obtain ⟨g, grant, -⟩ := State.grantedTo_some held
    have lt : c < s.columns.length := s.lt_of_col_ne fun e => by simp [e, Column.blank] at grant
    rw [State.endGrant_still ((congrArg ZoneCtl.trans State.restartTold_zones).trans still)] at handed
    generalize freed : (s.restartTold a r q).modCol c (fun k => { k with grant := none }) = v at handed
    have inTable : c < (s.restartTold a r q).columns.length := by
      rw [(s.restartTold_frame a r q).toFrame.columns_length]
      exact lt
    have column : v.col c = { (s.restartTold a r q).col c with grant := none } := by
      rw [← freed, State.col_modCol_same _ inTable]
    have free : (v.col c).grant = none := congrArg Column.grant column
    have waits : (v.col c).waits = (s.col c).waits := by
      rw [column, State.restartTold_col]
      exact (State.restartCut_grant c).2
    have zones' : v.zones = s.zones := by
      rw [← freed, State.modCol_zones, State.restartTold_zones]
    have defn : v.defn c = s.defn c := by
      rw [← freed, State.defn_modCol (s.restartTold a r q) c c (fun k => { k with grant := none })
        fun _ => rfl, (s.restartTold_frame a r q).toFrame.defn c]
    have permitted := State.permitted_congr (c := c) zones' defn
    have params : v.params = s.params := by
      rw [← freed, State.modCol_params, (s.restartTold_frame a r q).toFrame.params]
    have read : ∀ e, (s.restartEnd a r q).col e = (v.handOn c).col e := fun e => by
      rw [State.col_congr columns, handed]
    refine ⟨fun e ne other => ?_, fun never => ?_, fun front w rest split below permits => ?_⟩
    · rw [read, State.handOn_col_ne ne, ← freed, State.col_modCol_ne _ ne, State.restartTold_col,
        State.restartCut_col_other other]
    · rw [read, State.handOn_none fun w hw =>
        (permitted w.cls).trans (never w (by rw [← waits]; exact hw))]
      exact ⟨free, waits⟩
    · rw [read, State.handOn_col_first free (waits.trans split)
        (fun u hu => (permitted u.cls).trans (below u hu)) ((permitted w.cls).trans permits), params]
      exact ⟨rfl, rfl⟩

end Sys2Proof.Machine
end

section
/-! PROOFS. Several remaps as one event (01, R20; 07, R148): the XPs in ascending order, each onto the
lowest spare that the earlier remaps leave. -/

namespace Sys2Proof.Machine

/-- The remap of an XP: its number, the column it leaves and the spare it takes. -/
abbrev Remap : Type := Nat × Nat × Option Nat

/-- The REMAP_DONE notice of a remap. -/
def Remap.notice (q : Remap) : NoticeBody := .remapDone q.1 q.2.1 q.2.2

namespace State

/-- A spare for a column that remaps have left free (01, R20). -/
def FitsAfter (s : State) (earlier : List Remap) (k d : Nat) : Prop :=
  d < 96 ∧ (∃ q, s.defn d = some q ∧ q.zone = s.zoneOf k) ∧ (s.col d).retired = false ∧
    s.mappedBy d = none ∧ ∀ p ∈ earlier, p.2.2 ≠ some d

/-- A remap of a column takes the lowest spare that earlier ones leave, or none is left (01, R20). -/
def TakesLowest (s : State) (earlier : List Remap) (k : Nat) (spare : Option Nat) : Prop :=
  (∀ d, spare = some d → s.FitsAfter earlier k d ∧ ∀ e < d, ¬s.FitsAfter earlier k e) ∧
    (spare = none → ∀ d, ¬s.FitsAfter earlier k d)

/-- An XP whose column is examined and ready is remapped (01, R19). -/
def remapsAt (s : State) (p : Nat → Bool) (x : Nat) : Bool :=
  match s.xp x with
  | some e => e.remapPending && p e.column && s.remapReady e.column
  | none => false

/-- The audit unit after remaps: a call on a remapped column is over (06, R134). -/
def auditAfter (s : State) (remaps : List Remap) : AuditUnit :=
  match s.audit.called with
  | some k => if ∃ p ∈ remaps, p.2.1 = k then s.callEnded k else s.audit
  | none => s.audit

/-- A remap is pending on a retired column alone (01, R14). -/
def PendingRetired (s : State) : Prop :=
  ∀ x e, s.xp x = some e → e.remapPending = true → (s.col e.column).retired = true

/-- The state and the notices after the remaps of the XPs below `n`. -/
structure RemapsBelow (s : State) (p : Nat → Bool) (n : Nat) (acc : Noted) (remaps : List Remap) :
    Prop where
  rest : acc.1 = { s with xpMap := acc.1.xpMap, audit := s.auditAfter remaps }
  notices : acc.2 = remaps.map Remap.notice
  xps : remaps.map (·.1) = (List.range n).filter (s.remapsAt p)
  kept : ∀ x, x ∉ remaps.map (·.1) → acc.1.xp x = s.xp x
  each : ∀ i x k spare, remaps[i]? = some (x, k, spare) →
    (s.xp x).map (·.column) = some k ∧ acc.1.xp x = spare.map (⟨·, false⟩) ∧
      s.TakesLowest (remaps.take i) k spare

theorem auditAfter_nil (s : State) : s.auditAfter [] = s.audit := by
  unfold auditAfter
  cases s.audit.called <;> simp

theorem RemapsBelow.zero (s : State) (p : Nat → Bool) : s.RemapsBelow p 0 (s, []) [] where
  rest := by rw [auditAfter_nil]
  notices := rfl
  xps := rfl
  kept _ _ := rfl
  each _ _ _ _ h := by simp at h

/-- What a remap of a list does, without its place in the list. -/
theorem RemapsBelow.of_mem {s : State} {p : Nat → Bool} {n : Nat} {acc : Noted}
    {remaps : List Remap} (below : s.RemapsBelow p n acc remaps) {x k : Nat} {spare : Option Nat}
    (h : (x, k, spare) ∈ remaps) :
    (s.xp x).map (·.column) = some k ∧ acc.1.xp x = spare.map (⟨·, false⟩) ∧
      ∀ d, spare = some d → s.mappedBy d = none := by
  obtain ⟨i, hi⟩ := List.mem_iff_getElem?.mp h
  obtain ⟨named, written, takes, -⟩ := below.each i x k spare hi
  refine ⟨named, written, fun d hd => ?_⟩
  obtain ⟨⟨-, -, -, unmapped, -⟩, -⟩ := takes d hd
  exact unmapped

/-- The XPs of the list are those below `n` that are remapped. -/
theorem RemapsBelow.mem_xps {s : State} {p : Nat → Bool} {n : Nat} {acc : Noted}
    {remaps : List Remap} (below : s.RemapsBelow p n acc remaps) {x : Nat} :
    x ∈ remaps.map (·.1) ↔ x < n ∧ s.remapsAt p x = true := by
  rw [below.xps, List.mem_filter, List.mem_range]

/-- An XP is either as it was or remapped. -/
theorem RemapsBelow.xp_cases {s : State} {p : Nat → Bool} {n : Nat} {acc : Noted}
    {remaps : List Remap} (below : s.RemapsBelow p n acc remaps) (x : Nat) :
    acc.1.xp x = s.xp x ∨ ∃ k spare, (x, k, spare) ∈ remaps := by
  by_cases mem : x ∈ remaps.map (·.1)
  · obtain ⟨⟨y, k, spare⟩, h, rfl⟩ := List.mem_map.mp mem
    exact .inr ⟨k, spare, h⟩
  · exact .inl (below.kept x mem)

theorem unmapped_iff {s : State} {d : Nat} :
    s.mappedBy d = none ↔ ∀ y, (s.xp y).map (·.column) ≠ some d := by
  refine ⟨fun none y named => ?_, mappedBy_none⟩
  rw [mappedBy_eq_none] at none
  refine none (s.xp y) ?_ named
  have lt := lt_of_mapped named
  rw [xp, List.getD_eq_getElem?_getD, List.getElem?_eq_getElem lt]
  exact List.getElem_mem lt

/-- The XP that comes next still maps its column. -/
theorem RemapsBelow.maps_next {s : State} {p : Nat → Bool} {n : Nat} {acc : Noted}
    {remaps : List Remap} (below : s.RemapsBelow p n acc remaps) (inj : s.MapInjective)
    {e : XpEntry} (he : s.xp n = some e) : acc.1.mappedBy e.column = some n := by
  have named : (s.xp n).map (·.column) = some e.column := by rw [he]; rfl
  have fresh : n ∉ remaps.map (·.1) := fun k => absurd (below.mem_xps.mp k).1 (Nat.lt_irrefl n)
  refine (mappedBy_eq_some _ _ _).mpr ⟨by rw [below.kept n fresh]; exact named, fun y lt again => ?_⟩
  rcases below.xp_cases y with same | ⟨k, spare, mem⟩
  · rw [same] at again
    obtain ⟨f, hf, eq⟩ := Option.map_eq_some_iff.mp again
    exact absurd (inj y n f e hf he eq) (Nat.ne_of_lt lt)
  · obtain ⟨-, written, unmapped⟩ := below.of_mem mem
    rw [written, Option.map_map, Function.comp_def] at again
    obtain ⟨d, hd, rfl⟩ := Option.map_eq_some_iff.mp again
    exact unmapped_iff.mp (unmapped _ hd) n named

theorem RemapsBelow.col {s : State} {p : Nat → Bool} {n : Nat} {acc : Noted}
    {remaps : List Remap} (below : s.RemapsBelow p n acc remaps) (c : Nat) :
    acc.1.col c = s.col c := by
  rw [below.rest]
  rfl

theorem RemapsBelow.ready {s : State} {p : Nat → Bool} {n : Nat} {acc : Noted}
    {remaps : List Remap} (below : s.RemapsBelow p n acc remaps) (c : Nat) :
    acc.1.remapReady c = s.remapReady c := by
  rw [below.rest]
  rfl

/-- The columns that fit next are those no earlier remap has taken: a column an XP left is retired. -/
theorem RemapsBelow.fits_iff {s : State} {p : Nat → Bool} {n : Nat} {acc : Noted}
    {remaps : List Remap} (below : s.RemapsBelow p n acc remaps) (marked : s.PendingRetired)
    {k d : Nat} : acc.1.FitsSpare (acc.1.zoneOf k) d ↔ s.FitsAfter remaps k d := by
  have defn : ∀ e, acc.1.defn e = s.defn e := fun e => congrArg Column.defn (below.col e)
  have zone : acc.1.zoneOf k = s.zoneOf k := congrArg (fun d => (d.map (·.zone)).getD 0) (defn k)
  have free : (s.col d).retired = false →
      (acc.1.mappedBy d = none ↔ s.mappedBy d = none ∧ ∀ q ∈ remaps, q.2.2 ≠ some d) := by
    intro usable
    constructor
    · intro unmapped
      rw [unmapped_iff] at unmapped
      refine ⟨unmapped_iff.mpr fun y named => ?_, fun ⟨x, k, spare⟩ mem taken => ?_⟩
      · by_cases mem : y ∈ remaps.map (·.1)
        · obtain ⟨e, he, rfl⟩ := Option.map_eq_some_iff.mp named
          have remaps := (below.mem_xps.mp mem).2
          simp only [remapsAt, he, Bool.and_eq_true] at remaps
          obtain ⟨⟨pending, -⟩, -⟩ := remaps
          rw [marked y e he pending] at usable
          cases usable
        · exact unmapped y (by rw [below.kept y mem]; exact named)
      · obtain ⟨-, written, -⟩ := below.of_mem mem
        have taken : spare = some d := taken
        exact unmapped x (by rw [written, taken]; rfl)
    · rintro ⟨unmapped, unused⟩
      refine unmapped_iff.mpr fun y named => ?_
      rcases below.xp_cases y with same | ⟨k, spare, mem⟩
      · rw [same] at named
        exact unmapped_iff.mp unmapped y named
      · obtain ⟨-, written, -⟩ := below.of_mem mem
        rw [written, Option.map_map, Function.comp_def] at named
        obtain ⟨e, he, rfl⟩ := Option.map_eq_some_iff.mp named
        exact unused _ mem he
  unfold FitsSpare FitsAfter
  rw [defn, zone, below.col]
  constructor
  · rintro ⟨lt, defined, unmapped, usable⟩
    exact ⟨lt, defined, usable, (free usable).mp unmapped⟩
  · rintro ⟨lt, defined, usable, unmapped⟩
    exact ⟨lt, defined, (free usable).mpr unmapped, usable⟩

/-- The spare of the next remap. -/
theorem RemapsBelow.takes_lowest {s : State} {p : Nat → Bool} {n : Nat} {acc : Noted}
    {remaps : List Remap} (below : s.RemapsBelow p n acc remaps) (marked : s.PendingRetired)
    (k : Nat) : s.TakesLowest remaps k (acc.1.spareIn (acc.1.zoneOf k)) := by
  refine ⟨fun d h => ?_, fun h d fits => ?_⟩
  · obtain ⟨fits, low⟩ := spareIn_eq_some.mp h
    exact ⟨(below.fits_iff marked).mp fits, fun e lt k => low e lt ((below.fits_iff marked).mpr k)⟩
  · exact spareIn_eq_none.mp h d ((below.fits_iff marked).mpr fits)

/-- The call after one remap more. -/
theorem auditAfter_append {s : State} {remaps : List Remap} {q : Remap}
    (fresh : ∀ r ∈ remaps, r.2.1 ≠ q.2.1) :
    s.auditAfter (remaps ++ [q]) =
      if (s.auditAfter remaps).called = some q.2.1 then
        { s.auditAfter remaps with
          state := .idle, called := none, callLimit := none, overdue := false,
          pointer := if q.2.1 < 95 then q.2.1 + 1 else 0 }
      else s.auditAfter remaps := by
  unfold auditAfter
  cases called : s.audit.called with
  | none => simp [called]
  | some k =>
    by_cases here : k = q.2.1
    · subst here
      have now : ¬∃ r ∈ remaps, r.2.1 = q.2.1 := fun ⟨r, mem, same⟩ => fresh r mem same
      simp only [if_neg now, called, if_true, callEnded]
      exact if_pos ⟨q, by simp, rfl⟩
    · have same : (∃ r ∈ remaps ++ [q], r.2.1 = k) ↔ ∃ r ∈ remaps, r.2.1 = k := by
        simp [or_and_right, exists_or, Ne.symm here]
      simp only [same]
      by_cases ended : ∃ r ∈ remaps, r.2.1 = k
      · have idle : (s.callEnded k).called ≠ some q.2.1 := by
          simp [callEnded, called]
        rw [if_pos ended, if_neg idle]
      · have other : s.audit.called ≠ some q.2.1 := by
          simpa [called] using here
        rw [if_neg ended, if_neg other]

/-- An XP that is not remapped changes nothing. -/
theorem RemapsBelow.skip {s : State} {p : Nat → Bool} {n : Nat} {acc : Noted} {remaps : List Remap}
    (below : s.RemapsBelow p n acc remaps) (waits : s.remapsAt p n = false) :
    s.RemapsBelow p (n + 1) acc remaps where
  rest := below.rest
  notices := below.notices
  xps := by simp [below.xps, List.range_succ, List.filter_append, waits]
  kept := below.kept
  each := below.each

/-- The next remap joins the list. -/
theorem RemapsBelow.complete {s : State} {p : Nat → Bool} {n : Nat} {acc : Noted}
    {remaps : List Remap} (below : s.RemapsBelow p n acc remaps) (inj : s.MapInjective)
    (marked : s.PendingRetired) {e : XpEntry} (he : s.xp n = some e)
    (remapsNow : s.remapsAt p n = true) :
    s.RemapsBelow p (n + 1)
      ((acc.1.completeRemap n e.column).1, acc.2 ++ (acc.1.completeRemap n e.column).2)
      (remaps ++ [(n, e.column, acc.1.spareIn (acc.1.zoneOf e.column))]) := by
  have old : ∀ x ∈ remaps.map (·.1), x < n := fun x h => (below.mem_xps.mp h).1
  have ours : n ∉ remaps.map (·.1) := fun h => absurd (old n h) (Nat.lt_irrefl n)
  have size : n < acc.1.xpMap.length :=
    lt_of_mapped ((mappedBy_eq_some _ _ _).mp (below.maps_next inj he)).1
  have written : ∀ y, (acc.1.completeRemap n e.column).1.xp y =
      (acc.1.setXp n ((acc.1.spareIn (acc.1.zoneOf e.column)).map (⟨·, false⟩))).xp y := fun y => by
    rw [completeRemap_eq]
    rfl
  have fresh : ∀ r ∈ remaps, r.2.1 ≠ e.column := by
    rintro ⟨x, k, spare⟩ mem same
    obtain ⟨named, -, -⟩ := below.of_mem mem
    obtain ⟨f, hf, eq⟩ := Option.map_eq_some_iff.mp named
    exact ours (inj x n f e hf he (eq.trans same) ▸ List.mem_map_of_mem (f := (·.1)) mem)
  refine ⟨?_, ?_, ?_, fun x out => ?_, fun i x k spare at_ => ?_⟩
  · rw [auditAfter_append fresh, completeRemap_eq]
    generalize acc.1.spareIn _ = spare
    rw [below.rest]
  · rw [below.notices, List.map_append, completeRemap_eq]
    rfl
  · simp [below.xps, List.range_succ, List.filter_append, remapsNow]
  · rw [List.map_append, List.mem_append, not_or] at out
    obtain ⟨before, now⟩ := out
    have ne : x ≠ n := by simpa using now
    rw [written, xp_setXp_ne _ ne, below.kept x before]
  · rcases Nat.lt_trichotomy i remaps.length with lt | eq | gt
    · rw [List.getElem?_append_left lt] at at_
      rw [List.take_append_of_le_length lt.le]
      obtain ⟨named, wrote, takes⟩ := below.each i x k spare at_
      have ne : x ≠ n := Nat.ne_of_lt
        (old x (List.mem_map_of_mem (f := (·.1)) (List.mem_of_getElem? at_)))
      exact ⟨named, by rw [written, xp_setXp_ne _ ne, wrote], takes⟩
    · subst eq
      simp only [List.getElem?_concat_length, Option.some.injEq, Prod.mk.injEq] at at_
      obtain ⟨rfl, rfl, rfl⟩ := at_
      rw [List.take_left]
      exact ⟨by rw [he]; rfl, by rw [written, xp_setXp_same _ size],
        below.takes_lowest marked e.column⟩
    · rw [List.getElem?_eq_none (by simpa using gt)] at at_
      cases at_

/-- One XP more is examined (01, R20; 07, R148). -/
theorem RemapsBelow.succ {s : State} {p : Nat → Bool} {n : Nat} {acc : Noted} {remaps : List Remap}
    (below : s.RemapsBelow p n acc remaps) (inj : s.MapInjective) (marked : s.PendingRetired) :
    ∃ remaps', s.RemapsBelow p (n + 1)
      (match acc.1.xp n with
        | some e =>
          if p e.column then
            ((acc.1.examineRemap e.column).1, acc.2 ++ (acc.1.examineRemap e.column).2)
          else acc
        | none => acc) remaps' := by
  have fresh : n ∉ remaps.map (·.1) := fun k => absurd (below.mem_xps.mp k).1 (Nat.lt_irrefl n)
  have same := below.kept n fresh
  cases he : s.xp n with
  | none =>
    rw [same, he]
    exact ⟨remaps, below.skip (by simp [remapsAt, he])⟩
  | some e =>
    rw [same, he]
    by_cases examined : p e.column = true
    · have examine := examineRemap_mapped (below.maps_next inj he) (same.trans he)
      rw [below.ready] at examine
      dsimp only
      rw [if_pos examined]
      by_cases ready : e.remapPending = true ∧ s.remapReady e.column = true
      · rw [examine, if_pos ready]
        exact ⟨_, below.complete inj marked he (by simp [remapsAt, he, examined, ready])⟩
      · rw [examine, if_neg ready, List.append_nil]
        have waits : s.remapsAt p n = false := by
          simpa [remapsAt, he, examined] using ready
        exact ⟨remaps, below.skip waits⟩
    · dsimp only
      rw [if_neg examined]
      exact ⟨remaps, below.skip (by simp [remapsAt, he, examined])⟩

/-- What the remaps of all XPs do, in the terms of the state before them (01, R20; 07, R148). -/
theorem examineRemaps_spec {s : State} (p : Nat → Bool) (inj : s.MapInjective)
    (marked : s.PendingRetired) : ∃ remaps, s.RemapsBelow p 80 (s.examineRemaps p) remaps := by
  unfold examineRemaps
  change ∃ remaps, s.RemapsBelow p 80 (List.foldl _ _ (List.range 80)) remaps
  generalize 80 = n
  induction n with
  | zero => exact ⟨[], RemapsBelow.zero s p⟩
  | succ n ih =>
    obtain ⟨remaps, below⟩ := ih
    rw [List.range_succ, List.foldl_concat]
    exact below.succ inj marked

/-- The remaps with their notices issued. -/
theorem RemapsBelow.emit_eq {s : State} {p : Nat → Bool} {n : Nat} {acc : Noted}
    {remaps : List Remap} (below : s.RemapsBelow p n acc remaps) :
    acc.emit =
      { s with
        xpMap := acc.1.xpMap, audit := s.auditAfter remaps
        link := (s.notifyAll (remaps.map Remap.notice)).link } := by
  have link : (acc.1.notifyAll acc.2).link = (s.notifyAll (remaps.map Remap.notice)).link := by
    rw [below.notices]
    refine notifyAll_link _ ?_ ?_
    · exact (congrArg State.link below.rest :)
    · exact (congrArg State.time below.rest :)
  unfold Noted.emit
  rw [notifyAll_eq, link]
  exact (congrArg (fun v : State => { v with
    link := (s.notifyAll (remaps.map Remap.notice)).link }) below.rest :)

/-- Remaps are of XPs there are, so there are no more of them. -/
theorem RemapsBelow.length_le {s : State} {p : Nat → Bool} {n : Nat} {acc : Noted}
    {remaps : List Remap} (below : s.RemapsBelow p n acc remaps) : remaps.length ≤ n :=
  calc remaps.length = (remaps.map (·.1)).length := List.length_map _ |>.symm
    _ = ((List.range n).filter (s.remapsAt p)).length := by rw [below.xps]
    _ ≤ n := (List.length_filter_le _ _).trans_eq List.length_range

end State

end Sys2Proof.Machine
end

section
/-! PROOFS. RESET_SECTION (09, R181): the shut section, the remaps that follow, and the notice queue
they fill. O15 is settled here. -/

namespace Sys2Proof.Machine

/-- The first places of a list, one by one. -/
theorem forall_mem_take {α : Type} {l : List α} {i : Nat} {P : α → Prop} :
    (∀ p ∈ l.take i, P p) ↔ ∀ j < i, ∀ p, l[j]? = some p → P p := by
  simp only [List.mem_iff_getElem?, List.getElem?_take]
  constructor
  · exact fun all j lt p at_ => all p ⟨j, by rw [if_pos lt, at_]⟩
  · rintro all p ⟨j, at_⟩
    by_cases lt : j < i
    · rw [if_pos lt] at at_
      exact all j lt p at_
    · rw [if_neg lt] at at_
      cases at_

namespace State

/-! ### A queue that notices fill -/

/-- The entries of notices as the queue takes them one after another (10, R191). -/
def stamped (s : State) (bs : List NoticeBody) : List Notice :=
  bs.zipIdx.map fun p => ⟨s.link.nextSeq + BitVec.ofNat 16 p.2, s.time, p.1⟩

theorem stamped_length (s : State) (bs : List NoticeBody) : (s.stamped bs).length = bs.length := by
  simp [stamped]

theorem stamped_concat (s : State) (bs : List NoticeBody) (b : NoticeBody) :
    s.stamped (bs ++ [b]) =
      s.stamped bs ++ [⟨s.link.nextSeq + BitVec.ofNat 16 bs.length, s.time, b⟩] := by
  simp [stamped, List.zipIdx_append]

/-- The link unit once notices met a queue with its flags clear: 32 stay, the others are lost, counted
and flagged (10, R191). -/
def filled (s : State) (bs : List NoticeBody) : LinkUnit :=
  { s.link with
    notices := s.link.notices ++ (s.stamped bs).take (32 - s.link.notices.length)
    overrun := decide (32 < s.link.notices.length + bs.length)
    lost := s.link.notices.length + bs.length - 32
    nextSeq := s.link.nextSeq + BitVec.ofNat 16 bs.length }

theorem notify_link_room {s : State} (b : NoticeBody) (h : s.link.notices.length < 32) :
    (s.notify b).link =
      { s.link with
        notices := s.link.notices ++ [⟨s.link.nextSeq, s.time, b⟩], nextSeq := s.link.nextSeq + 1 } :=
  if_pos h

theorem notify_link_full {s : State} (b : NoticeBody) (h : 32 ≤ s.link.notices.length)
    (few : s.link.lost < 255) :
    (s.notify b).link =
      { s.link with overrun := true, lost := s.link.lost + 1, nextSeq := s.link.nextSeq + 1 } := by
  refine (if_neg (Nat.not_lt.mpr h)).trans ?_
  rw [countUp, if_pos few]

/-- A further notice, in a queue that others filled. -/
theorem filled_concat {s t : State} {bs : List NoticeBody} (b : NoticeBody)
    (room : s.link.notices.length ≤ 32) (few : s.link.notices.length + bs.length < 287)
    (link : t.link = s.filled bs) (time : t.time = s.time) :
    (t.notify b).link = s.filled (bs ++ [b]) := by
  have seq : s.link.nextSeq + BitVec.ofNat 16 bs.length + 1 =
      s.link.nextSeq + BitVec.ofNat 16 (bs.length + 1) := by
    rw [BitVec.ofNat_add, BitVec.add_assoc]
    rfl
  have queued : t.link.notices.length =
      s.link.notices.length + min (32 - s.link.notices.length) bs.length := by
    rw [link]
    simp [filled, stamped_length]
  by_cases fits : s.link.notices.length + bs.length < 32
  · rw [notify_link_room b (by omega), link, time]
    have all := List.take_of_length_le (l := s.stamped bs) (i := 32 - s.link.notices.length)
      (by rw [stamped_length]; omega)
    have more := List.take_of_length_le (l := s.stamped (bs ++ [b]))
      (i := 32 - s.link.notices.length)
      (by rw [stamped_length, List.length_append, List.length_singleton]; omega)
    rw [stamped_concat] at more
    simp only [filled, all, more, stamped_concat, List.length_append, List.length_singleton, seq,
      List.append_assoc, LinkUnit.mk.injEq, true_and, and_true, decide_eq_decide]
    omega
  · rw [notify_link_full b (by omega) (by rw [link]; simp only [filled]; omega), link]
    have same : (s.stamped (bs ++ [b])).take (32 - s.link.notices.length) =
        (s.stamped bs).take (32 - s.link.notices.length) := by
      rw [stamped_concat, List.take_append_of_le_length]
      rw [stamped_length]
      omega
    simp only [filled, same, List.length_append, List.length_singleton, seq, LinkUnit.mk.injEq,
      true_and, and_true, eq_comm (a := true), decide_eq_true_eq]
    omega

theorem notifyAll_filled {s : State} (bs : List NoticeBody) (room : s.link.notices.length ≤ 32)
    (few : s.link.notices.length + bs.length ≤ 287) (clear : s.link.overrun = false)
    (none : s.link.lost = 0) : (s.notifyAll bs).link = s.filled bs := by
  induction bs using List.reverseRecOn with
  | nil =>
    change s.link = s.filled []
    have kept : s.link.notices.length - 32 = 0 := by omega
    simp only [filled, stamped, List.zipIdx_nil, List.map_nil, List.take_nil, List.append_nil,
      List.length_nil, Nat.add_zero, kept, decide_eq_false (Nat.not_lt.mpr room)]
    have seq : s.link.nextSeq + BitVec.ofNat 16 0 = s.link.nextSeq := BitVec.add_zero _
    rw [seq, ← clear, ← none]
  | append_singleton bs b ih =>
    rw [List.length_append, List.length_singleton] at few
    rw [notifyAll_append]
    exact filled_concat b room (by omega) (ih (by omega)) (s.notifyAll_time bs)

/-! ### The shut section before its remaps -/

/-- The section reset before its remaps complete (09, R181). -/
def resetShut (s : State) : State := { s.shutSection with link := s.link.sectionReset }

section
variable {s : State}

theorem resetShut_col (c : Nat) : s.resetShut.col c = (s.col c).shut := s.shutSection_col c

theorem resetShut_defn (c : Nat) : s.resetShut.defn c = s.defn c :=
  (congrArg Column.defn (resetShut_col c) :)

/-- Nothing holds a remap back in a shut section (01, R19; 09, R181). -/
theorem resetShut_ready (c : Nat) : s.resetShut.remapReady c = true := by
  refine remapReady_iff.mpr ?_
  rw [resetShut_col]
  exact ⟨rfl, rfl, rfl, rfl⟩

theorem resetShut_remapsAt (x : Nat) :
    s.resetShut.remapsAt (fun _ => true) x = ((s.xp x).map (·.remapPending) == some true) := by
  have same : s.resetShut.xp x = s.xp x := rfl
  unfold remapsAt
  rw [same]
  cases s.xp x with
  | none => rfl
  | some e => simp [resetShut_ready]

theorem resetShut_pendingRetired (marked : s.PendingRetired) : s.resetShut.PendingRetired := by
  intro x e he pending
  rw [resetShut_col]
  exact marked x e he pending

/-- The columns that fit a remap are those of the section before it was shut. -/
theorem resetShut_fits {remaps : List Remap} {i k d : Nat} :
    s.resetShut.FitsAfter (remaps.take i) k d ↔
      d < 96 ∧ (∃ q, s.defn d = some q ∧ q.zone = s.zoneOf k) ∧ (s.col d).retired = false ∧
        s.mappedBy d = none ∧
        ∀ j < i, ∀ p : Nat × Nat × Option Nat, remaps[j]? = some p → p.2.2 ≠ some d := by
  have zone : s.resetShut.zoneOf k = s.zoneOf k :=
    congrArg (fun d => (d.map (·.zone)).getD 0) (resetShut_defn k)
  unfold FitsAfter
  rw [resetShut_defn, zone, resetShut_col, forall_mem_take]
  exact Iff.rfl

end

/-- The link unit holds one notice at most at a section reset (10, R197). -/
theorem sectionReset_notices_length (l : LinkUnit) : l.sectionReset.notices.length ≤ 1 := by
  unfold LinkUnit.sectionReset
  dsimp only
  split
  · simp
  · simp

/-- The remaps of a list are read back from their notices. -/
theorem remaps_of_notices (remaps : List Remap) :
    (remaps.map Remap.notice).filterMap remapOf = remaps := by
  rw [List.filterMap_map]
  exact List.filterMap_some

/-- The section reset with its map and its notices named. -/
def resetWith (s : State) (map : List (Option XpEntry)) (bs : List NoticeBody) : State :=
  startTick { s.resetShut with xpMap := map, link := s.resetShut.filled bs }

theorem resetRemaps_spec {s : State} (inj : s.MapInjective) (marked : s.PendingRetired) :
    ∃ remaps, s.resetShut.RemapsBelow (fun _ => true) 80 s.resetRemaps remaps :=
  examineRemaps_spec (s := s.resetShut) (fun _ => true) inj (resetShut_pendingRetired marked)

/-- A section that was reset waits for its first tick, at the interval of its map (06, R126). -/
theorem resetWith_audit {s : State} (map : List (Option XpEntry)) (bs : List NoticeBody) :
    (s.resetWith map bs).audit =
      ⟨.arming, 0, none, none, false, some (s.resetWith map bs).tickInterval,
        some (s.resetWith map bs).tickInterval⟩ := rfl

section
variable {s : State} {remaps : List Remap}

theorem sectionReset_eq
    (done : s.resetShut.RemapsBelow (fun _ => true) 80 s.resetRemaps remaps) :
    s.sectionReset = s.resetWith s.resetRemaps.1.xpMap (remaps.map Remap.notice) := by
  have kept := sectionReset_notices_length s.link
  have few : s.link.sectionReset.notices.length + (remaps.map Remap.notice).length ≤ 287 := by
    have size := done.length_le
    rw [List.length_map]
    omega
  have link : (s.resetShut.notifyAll (remaps.map Remap.notice)).link =
      s.resetShut.filled (remaps.map Remap.notice) :=
    notifyAll_filled _ (kept.trans (by decide)) few rfl rfl
  unfold sectionReset resetWith
  rw [done.emit_eq, link]
  rfl

theorem resetReport_eq
    (done : s.resetShut.RemapsBelow (fun _ => true) 80 s.resetRemaps remaps) :
    s.resetReport =
      .sectionReset s.handovers.length (s.roster.countP Option.isSome)
        (s.columns.countP (·.grant.isSome)) (s.columns.countP (·.op.isSome))
        (s.zones.trans.map (·.state)) remaps := by
  unfold resetReport
  rw [done.notices, remaps_of_notices]
  rfl

/-- The link unit after the section reset, its notices in the form of the queue's entries (10, R197). -/
theorem filled_reset_link :
    s.resetShut.filled (remaps.map Remap.notice) =
      let kept := if s.link.tx = .notice then s.link.notices.take 1 else []
      let done : List Notice := remaps.zipIdx.map fun p =>
        ⟨s.link.nextSeq + BitVec.ofNat 16 p.2, s.time, .remapDone p.1.1 p.1.2.1 p.1.2.2⟩
      { s.link with
        notices := kept ++ done.take (32 - kept.length)
        overrun := decide (32 < kept.length + done.length)
        lost := kept.length + done.length - 32
        nextSeq := s.link.nextSeq + BitVec.ofNat 16 done.length
        fleet := s.link.fleet.take 1 } := by
  have kept : s.resetShut.link.notices =
      if s.link.tx = .notice then s.link.notices.take 1 else [] := by
    change (if s.link.tx == .notice then s.link.notices.take 1 else []) = _
    simp only [beq_iff_eq]
  have stamps : s.resetShut.stamped (remaps.map Remap.notice) = remaps.zipIdx.map fun p =>
      ⟨s.link.nextSeq + BitVec.ofNat 16 p.2, s.time, .remapDone p.1.1 p.1.2.1 p.1.2.2⟩ := by
    rw [stamped, List.zipIdx_map, List.map_map]
    rfl
  unfold filled
  rw [kept, stamps, List.length_map]
  dsimp only
  rw [List.length_map, List.length_zipIdx]
  rfl

end

end State

theorem exec_resetSection {tag : Word16} {s : State} (takes : Takes tag s)
    (running : s.sectionState = .running) :
    exec (.resetSection tag []) s =
      .next ((s.intake 5 tag []).sectionReset.answered 5 tag .ok
        (s.intake 5 tag []).resetReport) :=
  hostRequest_running (q := ()) takes rfl running

/-- Settles O15, by what the remaps of the shut section do. -/
theorem sectionResetShutsTheSection : Obligations.SectionResetShutsTheSection := by
  unfold Obligations.SectionResetShutsTheSection
  intro tag s running takes _ inj marked
  obtain ⟨remaps, done⟩ := State.resetRemaps_spec (s := s.intake 5 tag []) inj marked
  have after := State.sectionReset_eq done
  have report := State.resetReport_eq done
  obtain ⟨-, -, told, kept, each⟩ := done
  have reply := exec_resetSection takes running
  rw [after, report] at reply
  generalize (s.intake 5 tag []).resetRemaps.1 = v at reply kept each
  refine ⟨_, remaps, reply, fun c _ => ?_, ?_, fun x _ waits => ?_, fun i x c spare at_ => ?_,
    State.robot_of_roster_none rfl, State.resetWith_audit _ _, rfl, rfl, ?_, rfl⟩
  · exact (State.resetShut_col (s := s.intake 5 tag []) c).trans (Column.shut_eq _)
  · rw [told]
    exact List.filter_congr fun x _ => State.resetShut_remapsAt (s := s.intake 5 tag []) x
  · refine (kept x fun mem => waits ?_ :)
    rw [told, List.mem_filter, State.resetShut_remapsAt] at mem
    exact beq_iff_eq.mp mem.2
  · obtain ⟨named, written, takes, none⟩ := each i x c spare at_
    refine ⟨named, written, fun d h => ?_, fun h d fits => ?_⟩
    · obtain ⟨fits, low⟩ := takes d h
      exact ⟨State.resetShut_fits.mp fits, fun e lt k => low e lt (State.resetShut_fits.mpr k)⟩
    · exact none h d (State.resetShut_fits.mpr fits)
  · exact State.filled_reset_link (s := s.intake 5 tag [])

end Sys2Proof.Machine
end

section
/-! PROOFS. Listed records taken out of their places (07, R145): what the other columns, the robots and
the records become. -/

namespace Sys2Proof.Machine

/-- A record stands on a column. -/
def Handover.standsOn (h : Handover) (e : Nat) : Bool :=
  match h.custody with
  | .column k _ => k == e
  | _ => false

/-- Some record of a list stands on a column, so the column loses an entry (07, R145). -/
def losesEntry (hs : List Handover) (e : Nat) : Bool := hs.any (·.standsOn e)

/-- An entry that stays on a column when the records of a list leave it (07, R145). -/
def staysOn (hs : List Handover) (e : Nat) (q : Entry) : Bool :=
  hs.all fun h => !(h.standsOn e && q == .tracked h.number)

/-- A column that records of a list leave (07, R145). -/
def Column.leftBy (k : Column) (hs : List Handover) (e : Nat) : Column :=
  { k with
    stack := k.stack.filter (staysOn hs e)
    causes := { k.causes with discrepancy := k.causes.discrepancy || losesEntry hs e } }

theorem Handover.standsOn_iff {h : Handover} {e : Nat} :
    h.standsOn e = true ↔ ∃ i, h.custody = .column e i := by
  unfold Handover.standsOn
  cases h.custody <;> simp

theorem losesEntry_concat (hs : List Handover) (h : Handover) (e : Nat) :
    losesEntry (hs ++ [h]) e = (losesEntry hs e || h.standsOn e) := by
  simp [losesEntry]

theorem staysOn_concat (hs : List Handover) (h : Handover) (e : Nat) (q : Entry) :
    staysOn (hs ++ [h]) e q = (staysOn hs e q && !(h.standsOn e && q == .tracked h.number)) := by
  simp [staysOn]

/-- A column that no record of a list stands on stays as it is. -/
theorem Column.leftBy_of_stays {k : Column} {hs : List Handover} {e : Nat}
    (h : losesEntry hs e = false) : k.leftBy hs e = k := by
  have stays : ∀ q ∈ k.stack, staysOn hs e q = true := fun q _ => by
    simp only [losesEntry, List.any_eq_false, Bool.not_eq_true] at h
    simp only [staysOn, List.all_eq_true]
    intro r hr
    simp [h r hr]
  unfold Column.leftBy
  rw [h, Bool.or_false, List.filter_eq_self.mpr stays]

theorem Column.leftBy_concat (k : Column) (hs : List Handover) (h : Handover) (e : Nat) :
    (k.leftBy hs e).leftBy [h] e = k.leftBy (hs ++ [h]) e := by
  simp only [Column.leftBy, List.filter_filter, losesEntry_concat, ← Bool.or_assoc]
  congr 1
  · refine List.filter_congr fun q _ => ?_
    rw [staysOn_concat, Bool.and_comm]
    simp [staysOn]
  · simp [losesEntry]

namespace State

/-! ### One record taken out -/

section
variable {s : State} {c : Nat} {h : Handover}

theorem takeOut_here {i : Nat} (at_ : h.custody = .column c i) : takeOut c s h = s := by
  simp [takeOut, at_]

theorem takeOut_column {d i : Nat} (at_ : h.custody = .column d i) (ne : d ≠ c) :
    takeOut c s h =
      ((s.modCol d fun k =>
        { k with stack := k.stack.filter fun e => e != .tracked h.number }).placeEntries
          d).addDiscrepancy d := by
  simp [takeOut, at_, ne]

theorem takeOut_robot {a : Nat} (at_ : h.custody = .robot a) :
    takeOut c s h = s.setSlot a .empty false := by
  simp [takeOut, at_]

theorem takeOut_unlocated (at_ : h.custody = .unlocated) : takeOut c s h = s := by
  simp [takeOut, at_]

theorem takeOut_rest (s : State) (c : Nat) (h : Handover) :
    { takeOut c s h with columns := s.columns, handovers := s.handovers, roster := s.roster } = s := by
  unfold takeOut
  cases h.custody with
  | column d i => dsimp only; split <;> rfl
  | robot a =>
    dsimp only
    rw [setSlot_rest]
  | unlocated => rfl

theorem takeOut_length : (takeOut c s h).columns.length = s.columns.length := by
  unfold takeOut
  cases h.custody with
  | column d i =>
    dsimp only
    split
    · rfl
    · exact (updateAt_length _ _ _).trans (updateAt_length _ _ _)
  | robot a => rw [setSlot_columns]
  | unlocated => rfl

/-- A column the record does not leave stays as it is (07, R145). -/
theorem takeOut_col_stays {e : Nat} (stays : e = c ∨ h.standsOn e = false) :
    (takeOut c s h).col e = s.col e := by
  cases at_ : h.custody with
  | column d i =>
    by_cases here : d = c
    · subst here
      rw [takeOut_here at_]
    · have ne : e ≠ d := by
        rintro rfl
        simp [here, Handover.standsOn, at_] at stays
      rw [takeOut_column at_ here]
      exact (col_modCol_ne _ ne _).trans (s.col_modCol_ne ne _)
  | robot a => rw [takeOut_robot at_, col, setSlot_columns, col]
  | unlocated => rw [takeOut_unlocated at_]

/-- Another column the record stands on loses the entry and gains DISCREPANCY (07, R145). -/
theorem takeOut_col_left {d i : Nat} (at_ : h.custody = .column d i) (ne : d ≠ c)
    (lt : d < s.columns.length) : (takeOut c s h).col d = (s.col d).leftBy [h] d := by
  have first := s.col_modCol_same lt fun k =>
    { k with stack := k.stack.filter fun e => e != .tracked h.number }
  rw [takeOut_column at_ ne]
  refine (col_modCol_same _ (by simpa [placeEntries] using lt) _).trans ?_
  rw [show ((s.modCol d _).placeEntries d).col d = (s.modCol d _).col d from rfl, first]
  have stands : h.standsOn d = true := Handover.standsOn_iff.mpr ⟨i, at_⟩
  simp only [Column.leftBy, losesEntry, List.any_cons, List.any_nil, stands, Bool.or_true,
    Bool.or_false]
  congr 1
  exact List.filter_congr fun q _ => by simp [staysOn, stands, bne]

theorem takeOut_col_ne {e : Nat} (ne : e ≠ c) (lt : e < s.columns.length) :
    (takeOut c s h).col e = (s.col e).leftBy [h] e := by
  by_cases stands : h.standsOn e = true
  · obtain ⟨i, at_⟩ := Handover.standsOn_iff.mp stands
    exact takeOut_col_left at_ ne lt
  · have away : h.standsOn e = false := by simpa using stands
    rw [takeOut_col_stays (.inr away), Column.leftBy_of_stays (by simp [losesEntry, away])]

theorem takeOut_defn (e : Nat) : (takeOut c s h).defn e = s.defn e := by
  by_cases stays : e = c ∨ h.standsOn e = false
  · exact congrArg Column.defn (takeOut_col_stays stays)
  · rw [not_or, Bool.not_eq_false] at stays
    obtain ⟨ne, stands⟩ := stays
    by_cases lt : e < s.columns.length
    · exact (congrArg Column.defn (takeOut_col_ne ne lt) :)
    · have blank := (takeOut c s h).col_of_length_le (c := e) (by
        rw [takeOut_length]; exact Nat.not_lt.mp lt)
      exact congrArg Column.defn (blank.trans (s.col_of_length_le (Nat.not_lt.mp lt)).symm)

theorem takeOut_zones : (takeOut c s h).zones = s.zones :=
  (congrArg State.zones (s.takeOut_rest c h) :)

theorem takeOut_suspends {e : Nat} (stays : e = c ∨ h.standsOn e = false) :
    (takeOut c s h).suspends e = s.suspends e :=
  suspends_congr takeOut_zones (takeOut_defn e) (congrArg Column.causes (takeOut_col_stays stays))

end

end State

/-! ### The records -/

/-- The deadline of a record once records of a list left their columns: it is judged again on a column
that lost an entry (07, R138, R145). -/
def Handover.deadlineLeft (k : Handover) (c : Nat) (hs : List Handover) (sus : Nat → Bool) :
    Option Deadline :=
  match k.column with
  | some d =>
    if d ≠ c ∧ losesEntry hs d = true then k.deadline.map (Deadline.judge (sus d)) else k.deadline
  | none => k.deadline

theorem Deadline.judge_again (a b : Bool) (d : Deadline) : (d.judge a).judge b = d.judge b := by
  cases k : d.cond <;> cases a <;> simp [Deadline.judge, k]

/-- A column that a record does not leave judges none (07, R145). -/
theorem Handover.deadlineLeft_stays {k : Handover} {c : Nat} {h : Handover} {sus : Nat → Bool}
    (stays : ∀ d i, h.custody = .column d i → d = c) : k.deadlineLeft c [h] sus = k.deadline := by
  unfold deadlineLeft
  cases k.column with
  | none => rfl
  | some d =>
    refine if_neg ?_
    rintro ⟨ne, loses⟩
    have stands : h.standsOn d = true := by simpa [losesEntry] using loses
    obtain ⟨i, at_⟩ := standsOn_iff.mp stands
    exact ne (stays d i at_)

/-- The custody a record has once the entries of a column are placed (02, R29). -/
def placedCustody (n : Nat) (q : Custody) (d : Nat) (l : List Entry) : Custody :=
  match indexFrom (fun e => e == Entry.tracked n) l 0 with
  | some i => .column d i
  | none => q

theorem placedCustody_absent {n d : Nat} {q : Custody} {l : List Entry} (h : .tracked n ∉ l) :
    placedCustody n q d l = q := by
  have none : indexFrom (fun e => e == Entry.tracked n) l 0 = none := by
    rw [indexFrom_eq_none]
    rintro e he
    refine beq_eq_false_iff_ne.mpr ?_
    rintro rfl
    exact h he
  rw [placedCustody, none]

/-- The place of an entry that stands once in a stack. -/
theorem placedCustody_at {n d i : Nat} {q : Custody} {l : List Entry} (nodup : l.Nodup)
    (h : l[i]? = some (.tracked n)) : placedCustody n q d l = .column d i := by
  have here : indexFrom (fun e => e == Entry.tracked n) l 0 = some i := by
    rw [indexFrom_eq_some]
    refine ⟨i, _, (Nat.zero_add i).symm, h, beq_self_eq_true _, fun m lt b hb => ?_⟩
    refine beq_eq_false_iff_ne.mpr ?_
    rintro rfl
    have size : m < l.length := (List.getElem?_eq_some_iff.mp hb).1
    exact absurd ((List.getElem?_inj size nodup).mp (hb.trans h.symm)) (Nat.ne_of_lt lt)
  rw [placedCustody, here]

namespace State

section
variable {s : State} {c : Nat} {h k : Handover} {n : Nat}

theorem placeEntries_handover (known : s.handover n = some k) (d : Nat) :
    (s.placeEntries d).handover n =
      some { k with custody := placedCustody n k.custody d (s.col d).stack } := by
  rw [placeEntries_eq, handover_modHandovers]
  · rw [known, ← s.number_of_handover known]
    simp only [Option.map_some, if_true, placedCustody]
    cases indexFrom (fun e => e == Entry.tracked k.number) (s.col d).stack 0 <;> rfl
  · intro h
    split <;> rfl

/-- A record when another column loses an entry: its place there and its deadline (07, R145). -/
theorem takeOut_handover_column {d i : Nat} (known : s.handover n = some k)
    (at_ : h.custody = .column d i) (ne : d ≠ c) :
    (takeOut c s h).handover n = some
      { k with
        custody := placedCustody n k.custody d ((takeOut c s h).col d).stack
        deadline := k.deadlineLeft c [h] (takeOut c s h).suspends } := by
  have stack : ((takeOut c s h).col d).stack = ((s.modCol d fun q =>
      { q with stack := q.stack.filter fun e => e != .tracked h.number }).col d).stack := by
    rw [takeOut_column at_ ne]
    exact col_modCol_proj _ Column.stack d d _ fun _ => rfl
  have placed := placeEntries_handover (s := s.modCol d fun q =>
    { q with stack := q.stack.filter fun e => e != .tracked h.number }) (n := n) (k := k) known d
  have stands : losesEntry [h] d = true := by
    simp [losesEntry, Handover.standsOn_iff.mpr ⟨i, at_⟩]
  rw [← stack] at placed
  have judged := judgeColumn_handover (s := ((s.modCol d fun q =>
    { q with stack := q.stack.filter fun e => e != .tracked h.number }).placeEntries d).modCol d
      fun q => { q with causes := { q.causes with discrepancy := true } }) (c := d) placed
  rw [← addDiscrepancy, ← takeOut_column at_ ne] at judged
  refine judged.trans (congrArg some ?_)
  by_cases column : k.column = some d
  · have sus := congrArg (fun v : State => v.suspends d) (takeOut_column (s := s) at_ ne)
    simp only [Handover.deadlineLeft, column, if_true, stands, ne, ne_eq,
      not_false_eq_true, and_self, sus]
    rfl
  · have stays : k.deadlineLeft c [h] (takeOut c s h).suspends = k.deadline := by
      unfold Handover.deadlineLeft
      cases at' : k.column with
      | none => rfl
      | some e =>
        have other : e ≠ d := fun same => column (at'.trans (congrArg some same))
        have kept : losesEntry [h] e = false := by
          simp [losesEntry, Handover.standsOn, at_, Ne.symm other]
        simp [kept]
    rw [if_neg column, stays]

/-- A record when no column loses an entry. -/
theorem takeOut_handover_stays (stays : ∀ d i, h.custody = .column d i → d = c) :
    (takeOut c s h).handover n = s.handover n := by
  cases at_ : h.custody with
  | column d i =>
    obtain rfl := stays d i at_
    rw [takeOut_here at_]
  | robot a => rw [takeOut_robot at_, handover, setSlot_handovers, handover]
  | unlocated => rw [takeOut_unlocated at_]

end

end State

end Sys2Proof.Machine
end

section
/-! PROOFS. All listed records taken out of their places, one after another (07, R145). -/

namespace Sys2Proof.Machine

namespace State

/-- The state once the records of a list are taken out of their places (07, R145). -/
def takenOut (s : State) (c : Nat) (hs : List Handover) : State := hs.foldl (takeOut c) s

section
variable {s : State} {c : Nat} {hs : List Handover}

theorem takenOut_concat (s : State) (c : Nat) (hs : List Handover) (h : Handover) :
    s.takenOut c (hs ++ [h]) = takeOut c (s.takenOut c hs) h := by
  simp [takenOut]

theorem takenOut_rest (s : State) (c : Nat) (hs : List Handover) :
    { s.takenOut c hs with
      columns := s.columns, handovers := s.handovers, roster := s.roster } = s :=
  foldl_keeps (fun v : State => { v with
    columns := s.columns, handovers := s.handovers, roster := s.roster } = s) _ _ _ rfl
    fun v h _ hv => (congrArg (fun v : State => { v with
      columns := s.columns, handovers := s.handovers, roster := s.roster })
      (v.takeOut_rest c h)).trans hv

theorem takenOut_length : (s.takenOut c hs).columns.length = s.columns.length :=
  foldl_keeps (fun v : State => v.columns.length = s.columns.length) _ _ _ rfl
    fun _ _ _ hv => takeOut_length.trans hv

theorem takenOut_col_same : (s.takenOut c hs).col c = s.col c :=
  foldl_keeps (fun v : State => v.col c = s.col c) _ _ _ rfl
    fun _ _ _ hv => (takeOut_col_stays (.inl rfl)).trans hv

theorem takenOut_defn (e : Nat) : (s.takenOut c hs).defn e = s.defn e :=
  foldl_keeps (fun v : State => v.defn e = s.defn e) _ _ _ rfl
    fun _ _ _ hv => (takeOut_defn e).trans hv

theorem takenOut_col_ne {e : Nat} (ne : e ≠ c) (lt : e < s.columns.length) :
    (s.takenOut c hs).col e = (s.col e).leftBy hs e := by
  induction hs using List.reverseRecOn with
  | nil => exact (Column.leftBy_of_stays rfl).symm
  | append_singleton hs h ih =>
    rw [takenOut_concat, takeOut_col_ne ne (by rwa [takenOut_length]), ih, Column.leftBy_concat]

/-- A column on which no listed record stands stays as it is. -/
theorem takenOut_col_stays {e : Nat} (stays : e = c ∨ losesEntry hs e = false) :
    (s.takenOut c hs).col e = s.col e := by
  rcases stays with rfl | stays
  · exact takenOut_col_same
  · refine foldl_keeps (fun v : State => v.col e = s.col e) _ _ _ rfl fun v h mem hv => ?_
    simp only [losesEntry, List.any_eq_false, Bool.not_eq_true] at stays
    exact (takeOut_col_stays (.inr (stays h mem))).trans hv

/-- The entries a column keeps were there before. -/
theorem takenOut_stack_mem {e : Nat} {q : Entry} (mem : q ∈ ((s.takenOut c hs).col e).stack) :
    q ∈ (s.col e).stack := by
  by_cases same : e = c
  · subst same
    rwa [takenOut_col_same] at mem
  · by_cases lt : e < s.columns.length
    · rw [takenOut_col_ne same lt] at mem
      exact List.mem_of_mem_filter mem
    · rw [col_of_length_le _ (by rw [takenOut_length]; exact Nat.not_lt.mp lt)] at mem
      cases mem

/-! ### The robots -/

/-- A robot that does not hold the record's bin stays as it is (07, R145). -/
theorem takeOut_robot_ne {v : State} {h : Handover} {a : Nat} (ne : h.custody ≠ .robot a) :
    (takeOut c v h).robot a = v.robot a := by
  cases at_ : h.custody with
  | column d i =>
    by_cases here : d = c
    · subst here
      rw [takeOut_here at_]
    · rw [takeOut_column at_ here]
      rfl
  | robot b =>
    have other : a ≠ b := fun same => ne (at_.trans (congrArg Custody.robot same.symm))
    rw [takeOut_robot at_, robot_setSlot_ne _ _ other]
  | unlocated => rw [takeOut_unlocated at_]

/-- A robot whose bin no record of the list names stays as it is. -/
theorem takenOut_robot_stays {a : Nat} (stays : ∀ h ∈ hs, h.custody ≠ .robot a) :
    (s.takenOut c hs).robot a = s.robot a :=
  foldl_keeps (fun v : State => v.robot a = s.robot a) _ _ _ rfl
    fun _ h mem hv => (takeOut_robot_ne (stays h mem)).trans hv

/-- A robot whose bin is listed has an empty slot (07, R145). -/
theorem takenOut_robot_emptied {a : Nat} {r : Robot} (known : s.robot a = some r)
    (holds : ∃ h ∈ hs, h.custody = .robot a) :
    (s.takenOut c hs).robot a = some { r with slot := .empty, loadConfirmed := false } := by
  induction hs using List.reverseRecOn with
  | nil =>
    obtain ⟨h, mem, -⟩ := holds
    cases mem
  | append_singleton hs h ih =>
    rw [takenOut_concat]
    by_cases before : ∃ k ∈ hs, k.custody = .robot a
    · by_cases ours : h.custody = .robot a
      · rw [takeOut_robot ours, robot_setSlot_same _ _ (ih before)]
      · rw [takeOut_robot_ne ours, ih before]
    · have stays : ∀ k ∈ hs, k.custody ≠ .robot a := fun k mem at_ => before ⟨k, mem, at_⟩
      have ours : h.custody = .robot a := by
        obtain ⟨k, mem, at_⟩ := holds
        rcases List.mem_append.mp mem with old | new
        · exact absurd at_ (stays k old)
        · rwa [List.mem_singleton.mp new] at at_
      rw [takeOut_robot ours, robot_setSlot_same _ _ ((takenOut_robot_stays stays).trans known)]

end

/-! ### The records -/

section
variable {s : State} {c : Nat} {hs : List Handover} {k : Handover} {n : Nat}

theorem takenOut_suspends {h : Handover} {e : Nat} (stays : e = c ∨ h.standsOn e = false) :
    (s.takenOut c (hs ++ [h])).suspends e = (s.takenOut c hs).suspends e := by
  rw [takenOut_concat, takeOut_suspends stays]

/-- The deadline of a record, one more record taken out. -/
theorem deadlineLeft_concat {h : Handover} (k : Handover) (q : Custody) :
    ({ k with custody := q, deadline := k.deadlineLeft c hs (s.takenOut c hs).suspends } :
      Handover).deadlineLeft c [h] (s.takenOut c (hs ++ [h])).suspends =
      k.deadlineLeft c (hs ++ [h]) (s.takenOut c (hs ++ [h])).suspends := by
  unfold Handover.deadlineLeft
  cases k.column with
  | none => rfl
  | some d =>
    dsimp only
    by_cases same : d = c
    · simp [same]
    · rw [losesEntry_concat]
      by_cases stands : h.standsOn d = true
      · have one : losesEntry [h] d = true := by simp [losesEntry, stands]
        simp only [one, stands, Bool.or_true, same, ne_eq, not_false_eq_true, and_self, if_true,
          true_and]
        split
        · rw [Option.map_map]
          exact congrArg (fun f => k.deadline.map f) (funext fun q => q.judge_again _ _)
        · rfl
      · have away : h.standsOn d = false := by simpa using stands
        have one : losesEntry [h] d = false := by simp [losesEntry, away]
        rw [takenOut_suspends (.inr away)]
        simp [one, away]

/-- Taking listed records out changes of a record its custody and its deadline (07, R145). -/
theorem takenOut_handover (known : s.handover n = some k) :
    ∃ q, (s.takenOut c hs).handover n = some { k with
      custody := q, deadline := k.deadlineLeft c hs (s.takenOut c hs).suspends } := by
  induction hs using List.reverseRecOn with
  | nil =>
    refine ⟨k.custody, known.trans (congrArg some ?_)⟩
    unfold Handover.deadlineLeft
    cases h : k.column <;> simp [losesEntry, ← h]
  | append_singleton hs h ih =>
    obtain ⟨q, before⟩ := ih
    have deadline := s.deadlineLeft_concat (c := c) (hs := hs) (h := h) k q
    by_cases stays : ∀ d i, h.custody = .column d i → d = c
    · rw [Handover.deadlineLeft_stays stays] at deadline
      rw [← deadline, takenOut_concat, takeOut_handover_stays stays]
      exact ⟨q, before⟩
    · push Not at stays
      obtain ⟨d, i, at_, ne⟩ := stays
      have next := takeOut_handover_column before at_ ne
      rw [← takenOut_concat, deadline] at next
      exact ⟨_, next⟩

/-- A record without an entry on the columns that lose one keeps its custody (07, R145). -/
theorem takenOut_handover_absent (known : s.handover n = some k)
    (absent : ∀ e, e ≠ c → losesEntry hs e = true → .tracked n ∉ (s.col e).stack) :
    (s.takenOut c hs).handover n =
      some { k with deadline := k.deadlineLeft c hs (s.takenOut c hs).suspends } := by
  induction hs using List.reverseRecOn with
  | nil =>
    refine known.trans (congrArg some ?_)
    unfold Handover.deadlineLeft
    cases h : k.column <;> simp [losesEntry, ← h]
  | append_singleton hs h ih =>
    have before := ih fun e ne loses => absent e ne (by simp [losesEntry_concat, loses])
    have deadline := s.deadlineLeft_concat (c := c) (hs := hs) (h := h) k k.custody
    by_cases stays : ∀ d i, h.custody = .column d i → d = c
    · rw [Handover.deadlineLeft_stays stays] at deadline
      rw [← deadline, takenOut_concat, takeOut_handover_stays stays]
      exact before
    · push Not at stays
      obtain ⟨d, i, at_, ne⟩ := stays
      have next := takeOut_handover_column before at_ ne
      rw [← takenOut_concat, deadline] at next
      have gone : .tracked n ∉ ((s.takenOut c (hs ++ [h])).col d).stack := fun mem => by
        exact absent d ne (by simp [losesEntry_concat, Handover.standsOn_iff.mpr ⟨i, at_⟩])
          (takenOut_stack_mem mem)
      rw [placedCustody_absent gone] at next
      exact next

/-- A record whose entry stands on a column that loses another follows its place there (07, R145). -/
theorem takenOut_handover_moved {e i : Nat} (known : s.handover n = some k) (ne : e ≠ c)
    (lt : e < s.columns.length) (loses : losesEntry hs e = true) (nodup : (s.col e).stack.Nodup)
    (absent : ∀ d, d ≠ e → .tracked n ∉ (s.col d).stack)
    (at_ : ((s.takenOut c hs).col e).stack[i]? = some (.tracked n)) :
    (s.takenOut c hs).handover n = some { k with
      custody := .column e i, deadline := k.deadlineLeft c hs (s.takenOut c hs).suspends } := by
  induction hs using List.reverseRecOn with
  | nil => cases loses
  | append_singleton hs h ih =>
    by_cases here : h.standsOn e = true
    · obtain ⟨j, stands⟩ := Handover.standsOn_iff.mp here
      obtain ⟨q, before⟩ := takenOut_handover (c := c) (hs := hs) known
      have next := takeOut_handover_column before stands ne
      have kept : ((s.takenOut c (hs ++ [h])).col e).stack.Nodup := by
        rw [takenOut_col_ne ne lt]
        exact nodup.filter _
      rw [← takenOut_concat, s.deadlineLeft_concat k q,
        placedCustody_at kept at_] at next
      exact next
    · have away : h.standsOn e = false := by simpa using here
      have same : (s.takenOut c (hs ++ [h])).col e = (s.takenOut c hs).col e := by
        rw [takenOut_concat, takeOut_col_stays (.inr away)]
      rw [losesEntry_concat, away, Bool.or_false] at loses
      rw [same] at at_
      have before := ih loses at_
      have deadline := s.deadlineLeft_concat (c := c) (hs := hs) (h := h) k (.column e i)
      by_cases stays : ∀ d i, h.custody = .column d i → d = c
      · rw [Handover.deadlineLeft_stays stays] at deadline
        rw [← deadline, takenOut_concat, takeOut_handover_stays stays]
        exact before
      · push Not at stays
        obtain ⟨d, j, stands, other⟩ := stays
        have ours : d ≠ e := by
          rintro rfl
          exact here (Handover.standsOn_iff.mpr ⟨j, stands⟩)
        have next := takeOut_handover_column before stands other
        rw [← takenOut_concat, deadline] at next
        have gone : .tracked n ∉ ((s.takenOut c (hs ++ [h])).col d).stack := fun mem => by
            exact absent d ours (takenOut_stack_mem mem)
        rw [placedCustody_absent gone] at next
        exact next

end

end State

end Sys2Proof.Machine
end

section
/-! PROOFS. The rewriting of a column by RECONCILE_COLUMN (07, R144 to R148, steps 1 to 4). -/

namespace Sys2Proof.Machine

/-- A column once its stack is settled (07, R148). -/
def Column.settled (k : Column) (now : Word32) : Column :=
  { k with
    causes := k.causes.confirmed
    verification := .fresh
    seen := false
    settleMark := some ⟨now, (k.defn.map (·.settle)).getD 0⟩ }

namespace State

/-! ### Numbers and tags -/

/-- The numbers and tags of the records. -/
def labels (s : State) : List (Nat × BinTag) := s.handovers.map fun h => (h.number, h.tag)

theorem labels_modHandovers {s : State} (p : Handover → Bool) {f : Handover → Handover}
    (number : ∀ h, (f h).number = h.number) (tag : ∀ h, (f h).tag = h.tag) :
    (s.modHandovers p f).labels = s.labels := by
  unfold labels
  rw [modHandovers_handovers, List.map_map]
  refine List.map_congr_left fun h _ => ?_
  simp only [Function.comp]
  split
  · rw [number, tag]
  · rfl

theorem judgeColumn_labels (s : State) (c : Nat) : (s.judgeColumn c).labels = s.labels :=
  labels_modHandovers _ (fun h => judged_number s h) fun h => by rw [judged_eq]

theorem takeOut_labels (s : State) (c : Nat) (h : Handover) : (takeOut c s h).labels = s.labels := by
  cases at_ : h.custody with
  | column d i =>
    by_cases here : d = c
    · subst here
      rw [takeOut_here at_]
    · rw [takeOut_column at_ here]
      refine (judgeColumn_labels _ d).trans ?_
      change (((s.modCol d _).placeEntries d)).labels = _
      rw [placeEntries_eq]
      exact labels_modHandovers _ (fun h => by split <;> rfl) fun h => by split <;> rfl
  | robot a => rw [takeOut_robot at_, labels, setSlot_handovers, labels]
  | unlocated => rw [takeOut_unlocated at_]

/-- The entry of a listed tag depends on the numbers and tags alone (07, R146). -/
theorem listEntry_congr {s t : State} (h : t.labels = s.labels) (x : BinTag) :
    t.listEntry x = s.listEntry x := by
  have key : ∀ v : State, v.listEntry x =
      match v.labels.find? (·.2 == x) with
      | some p => .tracked p.1
      | none => .foreign x := fun v => by
    unfold listEntry handoverByTag labels
    rw [List.find?_map]
    cases e : v.handovers.find? (·.tag == x) <;> simp [e]
  rw [key, key, h]

/-- A record is the one its number names. -/
theorem handover_of_mem {s : State} (nodup : (s.handovers.map (·.number)).Nodup) {h : Handover}
    (mem : h ∈ s.handovers) : s.handover h.number = some h := by
  unfold handover
  generalize s.handovers = l at nodup mem
  induction l with
  | nil => cases mem
  | cons k l ih =>
    rw [List.map_cons, List.nodup_cons] at nodup
    obtain ⟨fresh, nodup⟩ := nodup
    rcases List.mem_cons.mp mem with rfl | mem
    · simp
    · have ne : k.number ≠ h.number := fun same =>
        fresh (same ▸ List.mem_map_of_mem (f := fun h : Handover => h.number) mem)
      rw [List.find?_cons_of_neg (by simpa using ne), ih nodup mem]

theorem handoverByTag_mem {s : State} {x : BinTag} {h : Handover} (e : s.handoverByTag x = some h) :
    h ∈ s.handovers ∧ h.tag = x :=
  ⟨List.mem_of_find?_eq_some e, by simpa using List.find?_some e⟩

/-! ### The stages -/

section
variable {s : State} {c : Nat} {ts : List BinTag}

/-- The state before the list is written (07, R144, R145). -/
def cleared (s : State) (c : Nat) (ts : List BinTag) : State :=
  (s.unlocate c ts).takenOut c (s.listedRecords ts)

theorem cleared_labels : (s.cleared c ts).labels = s.labels :=
  foldl_keeps (fun v : State => v.labels = s.labels) _ _ _
    (labels_modHandovers _ (fun _ => rfl) fun _ => rfl)
    fun v h _ hv => (v.takeOut_labels c h).trans hv

theorem cleared_rest (s : State) (c : Nat) (ts : List BinTag) :
    { s.cleared c ts with columns := s.columns, handovers := s.handovers, roster := s.roster } = s :=
  (congrArg (fun v : State => { v with handovers := s.handovers })
    ((s.unlocate c ts).takenOut_rest c (s.listedRecords ts)) :)

theorem cleared_length : (s.cleared c ts).columns.length = s.columns.length :=
  takenOut_length (s := s.unlocate c ts)

theorem reconcileAudit_eq (s : State) (c : Nat) :
    s.reconcileAudit c = { s.setAudit c .fresh false with audit := s.callEnded c } := by
  unfold reconcileAudit
  dsimp only
  by_cases called : s.audit.called = some c
  · have there : (s.setAudit c .fresh false).audit.called = some c := called
    rw [if_pos there, endCall_eq there]
    rfl
  · have there : (s.setAudit c .fresh false).audit.called ≠ some c := called
    have same : s.callEnded c = s.audit := if_neg called
    rw [if_neg there, same]
    rfl

end

/-! ### The settled column -/

/-- Steps 1 to 4 of R148 on a column whose stack is written, with the audit unit they leave. -/
def settled (v : State) (c : Nat) (q : AuditUnit) : State :=
  ({ (v.confirmStack c).setAudit c .fresh false with audit := q }.markSettle c).judgeColumn c

section
variable {v : State} {c : Nat} {q : AuditUnit}

theorem settled_rest (v : State) (c : Nat) (q : AuditUnit) :
    { v.settled c q with columns := v.columns, handovers := v.handovers, audit := v.audit } = v := rfl

theorem settled_columns (v : State) (c : Nat) (q : AuditUnit) :
    (v.settled c q).columns = (v.modCol c fun k => k.settled v.time).columns := by
  change ((((v.modCol c _).modCol c _).modCol c _)).columns = _
  rw [modCol_modCol, modCol_modCol]
  rfl

theorem settled_col_same (lt : c < v.columns.length) :
    (v.settled c q).col c = (v.col c).settled v.time :=
  (col_congr (v.settled_columns c q) c).trans (v.col_modCol_same lt _)

theorem settled_col_ne {e : Nat} (ne : e ≠ c) : (v.settled c q).col e = v.col e :=
  (col_congr (v.settled_columns c q) e).trans (v.col_modCol_ne ne _)

theorem settled_length : (v.settled c q).columns.length = v.columns.length := by
  rw [settled_columns]
  exact updateAt_length _ _ _

theorem judgeColumn_suspends (v : State) (c e : Nat) :
    (v.judgeColumn c).suspends e = v.suspends e := suspends_congr rfl rfl rfl

/-- A record judged by a change of its column and judged again. -/
theorem judgeColumn_again {w : State} {n : Nat} {k : Handover}
    (first : w.handover n = some (if k.column = some c then v.judged k else k)) :
    (w.judgeColumn c).handover n = some
      (if k.column = some c then
        { k with deadline := k.deadline.map (Deadline.judge (w.suspends c)) }
      else k) := by
  refine (judgeColumn_handover first).trans (congrArg some ?_)
  by_cases on : k.column = some c
  · rw [if_pos on, judged_on on]
    have second := judged_on (s := w)
      (h := { k with deadline := k.deadline.map (Deadline.judge (v.suspends c)) }) on
    rw [if_pos on, second]
    dsimp only
    rw [if_pos on]
    simp only [Option.map_map, Function.comp_def, Deadline.judge_again]
  · simp only [on, if_false]

/-- A record on the settled column is judged by it (07, R139, R148). -/
theorem settled_handover {n : Nat} {k : Handover} (known : v.handover n = some k) :
    (v.settled c q).handover n = some
      (if k.column = some c then
        { k with deadline := k.deadline.map (Deadline.judge ((v.settled c q).suspends c)) }
      else k) := by
  have first : (v.confirmStack c).handover n = some (if k.column = some c then
      (v.modCol c fun k => { k with causes := k.causes.confirmed }).judged k else k) :=
    judgeColumn_handover known
  have second := judgeColumn_again
    (w := ({ (v.confirmStack c).setAudit c .fresh false with audit := q } : State).markSettle c) first
  rw [← judgeColumn_suspends _ c c] at second
  exact second

end

end State

end Sys2Proof.Machine
end

section
/-! PROOFS. The columns, the robots and the records that RECONCILE_COLUMN leaves before the remaps
(07, R144 to R148). -/

namespace Sys2Proof.Machine

/-- The deadline of a record that a reconcile neither lists nor locates anew: it is judged again on
the column and on those that lost an entry (07, R138, R139). -/
def Handover.rejudged (h : Handover) (c : Nat) (hs : List Handover) (sus : Nat → Bool) :
    Option Deadline :=
  match h.column with
  | some k =>
    if k = c ∨ losesEntry hs k = true then h.deadline.map (Deadline.judge (sus k)) else h.deadline
  | none => h.deadline

/-- A deadline that runs is judged by the column alone (02, R43). -/
theorem Deadline.judge_fresh (a b : Bool) (k : DeadlineKind) (n : Nat) :
    (⟨k, n, if a then .suspended else .running⟩ : Deadline).judge b =
      ⟨k, n, if b then .suspended else .running⟩ := by
  cases a <;> rfl

namespace State

section
variable {s : State} {c : Nat} {ts : List BinTag}

theorem rewritten_eq (s : State) (c : Nat) (ts : List BinTag) :
    s.rewritten c ts = ((s.cleared c ts).writeList c ts).settled c (s.callEnded c) := by
  have audit : (s.cleared c ts).audit = s.audit := (congrArg State.audit (s.cleared_rest c ts) :)
  have ended : (((s.cleared c ts).writeList c ts).confirmStack c).callEnded c = s.callEnded c := by
    unfold callEnded
    rw [show (((s.cleared c ts).writeList c ts).confirmStack c).audit = (s.cleared c ts).audit from rfl,
      audit]
  unfold settled
  rw [← ended, ← reconcileAudit_eq]
  rfl

theorem rewritten_audit : (s.rewritten c ts).audit = s.callEnded c := by
  rw [rewritten_eq]
  rfl

theorem writeList_rest (v : State) (c : Nat) (ts : List BinTag) :
    { v.writeList c ts with columns := v.columns, handovers := v.handovers } = v := rfl

theorem rewritten_rest (s : State) (c : Nat) (ts : List BinTag) :
    { s.rewritten c ts with
      columns := s.columns, handovers := s.handovers, roster := s.roster, audit := s.audit } = s := by
  have settled := ((s.cleared c ts).writeList c ts).settled_rest c (s.callEnded c)
  have written := (s.cleared c ts).writeList_rest c ts
  have cleared := s.cleared_rest c ts
  rw [rewritten_eq]
  generalize (s.cleared c ts).writeList c ts = v at settled written ⊢
  generalize s.cleared c ts = w at written cleared
  generalize v.settled c (s.callEnded c) = r at settled ⊢
  have beside := fun {a b : State} (e : a = b) => congrArg (fun v : State => { v with
    columns := s.columns, handovers := s.handovers, roster := s.roster, audit := s.audit }) e
  have third := beside cleared
  have second := beside written
  exact (beside settled).trans (second.trans third)

theorem cleared_col_same : (s.cleared c ts).col c = s.col c :=
  takenOut_col_same (s := s.unlocate c ts)

theorem writeList_col_same {v : State} (lt : c < v.columns.length) :
    (v.writeList c ts).col c = { v.col c with stack := ts.map v.listEntry } :=
  v.col_modCol_same lt _

theorem writeList_col_ne {v : State} {e : Nat} (ne : e ≠ c) : (v.writeList c ts).col e = v.col e :=
  v.col_modCol_ne ne _

theorem writeList_length {v : State} : (v.writeList c ts).columns.length = v.columns.length :=
  updateAt_length _ _ _

theorem rewritten_length : (s.rewritten c ts).columns.length = s.columns.length := by
  rw [rewritten_eq, settled_length, writeList_length, cleared_length]

theorem rewritten_col_same (lt : c < s.columns.length) :
    (s.rewritten c ts).col c =
      ({ s.col c with stack := ts.map s.listEntry } : Column).settled s.time := by
  have size : c < (s.cleared c ts).columns.length := lt.trans_eq cleared_length.symm
  have time : (s.cleared c ts).time = s.time := (congrArg State.time (s.cleared_rest c ts) :)
  have entries : ts.map (s.cleared c ts).listEntry = ts.map s.listEntry :=
    List.map_congr_left fun x _ => listEntry_congr cleared_labels x
  rw [rewritten_eq, settled_col_same (by rwa [writeList_length]), writeList_col_same size, entries,
    cleared_col_same, ← time]
  rfl

theorem rewritten_col_ne {e : Nat} (ne : e ≠ c) :
    (s.rewritten c ts).col e = (s.cleared c ts).col e := by
  rw [rewritten_eq, settled_col_ne ne, writeList_col_ne ne]

/-- A column no listed record leaves stays as it is (07, R145). -/
theorem rewritten_col_stays {e : Nat} (ne : e ≠ c)
    (stays : losesEntry (s.listedRecords ts) e = false) : (s.rewritten c ts).col e = s.col e :=
  (rewritten_col_ne ne).trans (takenOut_col_stays (s := s.unlocate c ts) (.inr stays))

theorem rewritten_col_left {e : Nat} (ne : e ≠ c) (lt : e < s.columns.length) :
    (s.rewritten c ts).col e = (s.col e).leftBy (s.listedRecords ts) e :=
  (rewritten_col_ne ne).trans (takenOut_col_ne (s := s.unlocate c ts) ne lt)

theorem rewritten_defn (e : Nat) : (s.rewritten c ts).defn e = s.defn e := by
  by_cases same : e = c
  · subst same
    by_cases lt : e < s.columns.length
    · exact (congrArg Column.defn (rewritten_col_same lt) :)
    · have big := Nat.not_lt.mp lt
      exact congrArg Column.defn ((col_of_length_le _ (by rwa [rewritten_length])).trans
        (s.col_of_length_le big).symm)
  · exact (congrArg Column.defn (rewritten_col_ne same)).trans
      (takenOut_defn (s := s.unlocate c ts) e)

theorem rewritten_retired (e : Nat) : ((s.rewritten c ts).col e).retired = (s.col e).retired := by
  by_cases lt : e < s.columns.length
  · by_cases same : e = c
    · subst same
      exact (congrArg Column.retired (rewritten_col_same lt) :)
    · exact (congrArg Column.retired (rewritten_col_left same lt) :)
  · have big := Nat.not_lt.mp lt
    exact congrArg Column.retired ((col_of_length_le _ (by rwa [rewritten_length])).trans
      (s.col_of_length_le big).symm)

/-! ### The robots -/

theorem settled_robot (v : State) (q : AuditUnit) (a : Nat) : (v.settled c q).robot a = v.robot a := rfl

theorem writeList_robot (v : State) (a : Nat) : (v.writeList c ts).robot a = v.robot a := rfl

theorem rewritten_robot (a : Nat) : (s.rewritten c ts).robot a = (s.cleared c ts).robot a := by
  rw [rewritten_eq, settled_robot, writeList_robot]

/-! ### The records -/

theorem unlocate_handover {n : Nat} {h : Handover} (known : s.handover n = some h) :
    (s.unlocate c ts).handover n = some
      (if s.losesPlace c ts h then
        { h with state := .unlocated, column := none, custody := .unlocated, deadline := none }
      else h) := by
  have read := s.handover_modHandovers (s.losesPlace c ts) (fun h =>
    { h with state := .unlocated, column := none, custody := .unlocated, deadline := none }) n
    fun _ => rfl
  rw [known] at read
  exact read

theorem writeList_handover {v : State} {n : Nat} {k : Handover} (known : v.handover n = some k) :
    (v.writeList c ts).handover n = some (if listed ts k then v.placed c ts k else k) := by
  have read := (v.modCol c fun k => { k with stack := ts.map v.listEntry }).handover_modHandovers
    (listed ts) (v.placed c ts) n fun _ => rfl
  have there : (v.modCol c fun k => { k with stack := ts.map v.listEntry }).handover n = some k :=
    known
  rw [there] at read
  exact read

/-- The place of a tag in a list without repeats (07, R146). -/
theorem indexFrom_tag {i : Nat} {x : BinTag} (nodup : ts.Nodup) (at_ : ts[i]? = some x) :
    indexFrom (· == x) ts 0 = some i := by
  rw [indexFrom_eq_some]
  refine ⟨i, x, (Nat.zero_add i).symm, at_, beq_self_eq_true _, fun m lt b hb => ?_⟩
  refine beq_eq_false_iff_ne.mpr ?_
  rintro rfl
  have size : m < ts.length := (List.getElem?_eq_some_iff.mp hb).1
  exact absurd ((List.getElem?_inj size nodup).mp (hb.trans at_.symm)) (Nat.ne_of_lt lt)

/-- A listed record stands at its place (07, R146). -/
theorem rewritten_listed {i : Nat} {x : BinTag} {h : Handover}
    (numbers : (s.handovers.map (·.number)).Nodup) (nodup : ts.Nodup) (at_ : ts[i]? = some x)
    (found : s.handoverByTag x = some h) :
    (s.rewritten c ts).handover h.number = some
      { h with
        column := some c
        custody := .column c i
        state := if h.taker = .none then .parked else .staged
        deadline :=
          if h.taker = .none then none
          else some ⟨.collect, s.params.collectLimit * 1000,
            if (s.rewritten c ts).suspends c then .suspended else .running⟩
        uncertain := false } := by
  obtain ⟨mem, tag⟩ := handoverByTag_mem found
  have inList : listed ts h = true := by
    rw [listed, tag]
    exact List.contains_iff_mem.mpr (List.mem_of_getElem? at_)
  have start := unlocate_handover (c := c) (ts := ts) (handover_of_mem numbers mem)
  have keeps : s.losesPlace c ts h = false := by simp [losesPlace, inList]
  rw [keeps, if_neg Bool.false_ne_true] at start
  obtain ⟨q, clear⟩ := takenOut_handover (c := c) (hs := s.listedRecords ts) start
  rw [← cleared] at clear
  have written := writeList_handover (c := c) (ts := ts) clear
  have params : (s.cleared c ts).params = s.params :=
    (congrArg State.params (s.cleared_rest c ts) :)
  have place := indexFrom_tag nodup at_
  rw [show listed ts { h with custody := q, deadline := _ } = true from inList, if_pos rfl] at written
  have settled := settled_handover (c := c) (q := s.callEnded c) written
  rw [← rewritten_eq] at settled
  refine settled.trans (congrArg some ?_)
  unfold placed freshCollect
  dsimp only
  rw [if_pos rfl, tag, place, params]
  by_cases taker : h.taker = .none
  · simp [taker]
  · simp [taker, Deadline.judge_fresh]

/-- A record the list leaves out is UNLOCATED (07, R144). -/
theorem rewritten_unlocated {h : Handover} (numbers : (s.handovers.map (·.number)).Nodup)
    (mem : h ∈ s.handovers) (out : h.tag ∉ ts) (stands : .tracked h.number ∈ (s.col c).stack)
    (alone : ∀ e, e ≠ c → .tracked h.number ∉ (s.col e).stack) :
    (s.rewritten c ts).handover h.number = some
      { h with state := .unlocated, column := none, custody := .unlocated, deadline := none } := by
  have start := unlocate_handover (c := c) (ts := ts) (handover_of_mem numbers mem)
  have unlisted : listed ts h = false := by simpa [listed] using out
  have loses : s.losesPlace c ts h = true := by
    simpa [losesPlace, unlisted] using stands
  rw [if_pos loses] at start
  have clear := takenOut_handover_absent (c := c) (hs := s.listedRecords ts) start
    fun e ne _ => alone e ne
  rw [← cleared] at clear
  have written := writeList_handover (c := c) (ts := ts) clear
  rw [show listed ts { h with
    state := .unlocated, column := none, custody := .unlocated, deadline := _ } = false from unlisted,
    if_neg Bool.false_ne_true] at written
  have settled := settled_handover (c := c) (q := s.callEnded c) written
  rw [← rewritten_eq] at settled
  exact settled

/-- What a reconcile judges of a record that keeps its column (07, R138, R139). -/
theorem settled_rejudged {n : Nat} {h : Handover} {q : Custody} (out : h.tag ∉ ts)
    (clear : (s.cleared c ts).handover n = some
      { h with
        custody := q
        deadline := h.deadlineLeft c (s.listedRecords ts) (s.cleared c ts).suspends }) :
    (s.rewritten c ts).handover n = some
      { h with
        custody := q
        deadline := h.rejudged c (s.listedRecords ts) (s.rewritten c ts).suspends } := by
  have unlisted : listed ts h = false := by simpa [listed] using out
  have written := writeList_handover (c := c) (ts := ts) clear
  rw [show listed ts { h with custody := q, deadline := _ } = false from unlisted,
    if_neg Bool.false_ne_true] at written
  have settled := settled_handover (c := c) (q := s.callEnded c) written
  rw [← rewritten_eq] at settled
  refine settled.trans (congrArg some ?_)
  unfold Handover.rejudged Handover.deadlineLeft
  cases column : h.column with
  | none => simp
  | some k =>
    by_cases same : k = c
    · subst same
      simp
    · have sus : (s.rewritten c ts).suspends k = (s.cleared c ts).suspends k := by
        have zones : (s.rewritten c ts).zones = (s.cleared c ts).zones :=
          (congrArg State.zones (s.rewritten_rest c ts) :).trans
            (congrArg State.zones (s.cleared_rest c ts) :).symm
        have col := rewritten_col_ne (s := s) (ts := ts) same
        exact suspends_congr zones (congrArg Column.defn col) (congrArg Column.causes col)
      simp [same, sus]

theorem not_losesPlace {h : Handover} (away : .tracked h.number ∉ (s.col c).stack) :
    s.losesPlace c ts h = false := by
  simp [losesPlace, away]

/-- A record without an entry on the columns that change keeps its place (07, R145). -/
theorem rewritten_stays {h : Handover} (numbers : (s.handovers.map (·.number)).Nodup)
    (mem : h ∈ s.handovers) (out : h.tag ∉ ts)
    (absent : ∀ e, e = c ∨ losesEntry (s.listedRecords ts) e = true →
      .tracked h.number ∉ (s.col e).stack) :
    (s.rewritten c ts).handover h.number = some
      { h with deadline := h.rejudged c (s.listedRecords ts) (s.rewritten c ts).suspends } := by
  have start := unlocate_handover (c := c) (ts := ts) (handover_of_mem numbers mem)
  rw [not_losesPlace (absent c (.inl rfl)), if_neg Bool.false_ne_true] at start
  exact settled_rejudged out (takenOut_handover_absent (c := c) (hs := s.listedRecords ts) start
    fun e _ loses => absent e (.inr loses))

/-- A record on a column that lost another entry follows its own place there (07, R145). -/
theorem rewritten_moved {h : Handover} {e i : Nat} (numbers : (s.handovers.map (·.number)).Nodup)
    (mem : h ∈ s.handovers) (out : h.tag ∉ ts) (ne : e ≠ c)
    (loses : losesEntry (s.listedRecords ts) e = true) (lt : e < s.columns.length)
    (nodup : (s.col e).stack.Nodup) (alone : ∀ k, k ≠ e → .tracked h.number ∉ (s.col k).stack)
    (at_ : ((s.rewritten c ts).col e).stack[i]? = some (.tracked h.number)) :
    (s.rewritten c ts).handover h.number = some
      { h with
        custody := .column e i
        deadline := h.rejudged c (s.listedRecords ts) (s.rewritten c ts).suspends } := by
  have start := unlocate_handover (c := c) (ts := ts) (handover_of_mem numbers mem)
  rw [not_losesPlace (alone c (Ne.symm ne)), if_neg Bool.false_ne_true] at start
  rw [rewritten_col_ne ne] at at_
  exact settled_rejudged out (takenOut_handover_moved (s := s.unlocate c ts) start ne lt loses nodup
    alone at_)

end

end State

end Sys2Proof.Machine
end

section
/-! PROOFS. The checks of RECONCILE_COLUMN in their order (07, R142, R143). -/

namespace Sys2Proof.Machine

theorem twice_iff (ts : List BinTag) : twice ts = true ↔ ¬ts.Nodup := by
  induction ts with
  | nil => simp [twice]
  | cons t ts ih => simp [twice, List.nodup_cons, ih, imp_iff_not_or]

namespace State

/-- The checks of a reconcile before those of the listed records, in their order (07, R142, checks 3
to 6). -/
def listProblem (s : State) (c : Nat) (d : Defn) (ts : List BinTag) : Option (Status × ReplyBody) :=
  if d.capacity < ts.length then some (.overCapacity, .overCapacity (s.remaining c ts) d.capacity)
  else if 0 ∈ ts then some (.badTag, .none)
  else if ¬ts.Nodup then some (.duplicateBin, .none)
  else if (s.col c).op ≠ none then some (.inFlight, .columnInFlight c)
  else if ts ≠ [] ∧ s.mappedBy c = none then some (.unmapped, .none)
  else none

section
variable {s : State} {c : Nat} {d : Defn} {ts : List BinTag}

theorem reconcileProblem_eq (s : State) (c : Nat) (d : Defn) (ts : List BinTag) :
    s.reconcileProblem c d ts =
      match s.listProblem c d ts with
      | some p => some p
      | none =>
        match s.listedInFlight ts with
        | some h => some (.inFlight, .recordInFlight h.number ((s.operationOf h.number).getD 0))
        | none =>
          if d.capacity < ts.length + s.remaining c ts then
            some (.overCapacity, .overCapacity (s.remaining c ts) d.capacity)
          else none := by
  have zero : ts.contains 0 = true ↔ 0 ∈ ts := List.contains_iff_mem
  have op : (s.col c).op.isSome = true ↔ (s.col c).op ≠ none := Option.isSome_iff_ne_none
  have unmapped : (!ts.isEmpty && (s.mappedBy c).isNone) = true ↔ ts ≠ [] ∧ s.mappedBy c = none := by
    simp
  unfold reconcileProblem listProblem
  simp only [zero, twice_iff, op, unmapped]
  split_ifs <;> rfl

theorem reconcileProblem_list {p : Status × ReplyBody} (h : s.listProblem c d ts = some p) :
    s.reconcileProblem c d ts = some p := by
  rw [reconcileProblem_eq, h]

/-- Of several listed records in flight the first in the list is named (log 34). -/
theorem listedInFlight_first {front rest : List BinTag} {t : BinTag} {h : Handover}
    (still : ∀ v ∈ front, ∀ k, s.handoverByTag v = some k → s.recordInFlight k = false)
    (found : s.handoverByTag t = some h) (flies : s.recordInFlight h = true) :
    s.listedInFlight (front ++ t :: rest) = some h := by
  have none : front.findSome? (fun t => (s.handoverByTag t).filter s.recordInFlight) = none := by
    refine List.findSome?_eq_none_iff.mpr fun v mem => Option.filter_eq_none_iff.mpr fun k hk => ?_
    simp [still v mem k hk]
  have kept : (s.handoverByTag t).filter s.recordInFlight = some h :=
    Option.filter_eq_some_iff.mpr ⟨found, flies⟩
  rw [listedInFlight, List.findSome?_append, none, Option.none_or, List.findSome?_cons, kept]

theorem listedInFlight_none
    (still : ∀ h, ¬∃ t ∈ ts, s.handoverByTag t = some h ∧ s.recordInFlight h = true) :
    s.listedInFlight ts = none := by
  refine List.findSome?_eq_none_iff.mpr fun v mem => Option.filter_eq_none_iff.mpr fun k hk flies => ?_
  exact still k ⟨v, mem, hk, flies⟩

theorem reconcileProblem_flying {h : Handover} {e : Nat} (list : s.listProblem c d ts = none)
    (flies : s.listedInFlight ts = some h) (works : s.operationOf h.number = some e) :
    s.reconcileProblem c d ts = some (.inFlight, .recordInFlight h.number e) := by
  rw [reconcileProblem_eq, list, flies]
  simp [works]

theorem reconcileProblem_room (list : s.listProblem c d ts = none)
    (still : s.listedInFlight ts = none) :
    s.reconcileProblem c d ts =
      if d.capacity < ts.length + s.remaining c ts then
        some (.overCapacity, .overCapacity (s.remaining c ts) d.capacity)
      else none := by
  rw [reconcileProblem_eq, list, still]

/-- A list that passes the checks names no tag twice (07, R142). -/
theorem nodup_of_listProblem (list : s.listProblem c d ts = none) : ts.Nodup := by
  unfold listProblem at list
  split_ifs at list with _ _ nodup
  exact nodup

end

end State

/-! ### The answers -/

section
variable {s : State} {c : Nat} {d : Defn} {ts : List BinTag}

theorem takeReconcile_undefined (h : s.defn c = none) :
    takeReconcile (c, ts) s = refuse s .unknownColumn := by
  simp [takeReconcile, h]

theorem takeReconcile_refused {st : Status} {b : ReplyBody} (h : s.defn c = some d)
    (p : s.reconcileProblem c d ts = some (st, b)) :
    takeReconcile (c, ts) s = refuse s st b := by
  simp [takeReconcile, h, p]

theorem takeReconcile_ok (h : s.defn c = some d) (p : s.reconcileProblem c d ts = none) :
    takeReconcile (c, ts) s =
      ⟨(s.reconcileNoted c ts).emit, .ok, .reconciled (s.reconcileReport c ts)⟩ := by
  simp [takeReconcile, h, p]

theorem exec_reconcile {tag : Word16} {body : List Byte} (decodes : Body.reconcile body = .ok (c, ts))
    (running : s.sectionState = .running) (takes : Takes tag s) :
    exec (.reconcileColumn tag body) s =
      .next ((takeReconcile (c, ts) (s.intake 18 tag body)).made 18 tag) :=
  hostRequest_running takes decodes running

end

end Sys2Proof.Machine
end

section
/-! PROOFS. The columns, the audit unit and the map that RECONCILE_COLUMN leaves, and its remaps (07,
R144 to R148). -/

namespace Sys2Proof.Machine

namespace State

/-! ### What remaps leave as it is -/

/-- The tables that remaps and notices leave unchanged. -/
def SameTables (t r : State) : Prop :=
  { t with xpMap := r.xpMap, audit := r.audit, link := r.link } = r

theorem examineRemaps_tables (r : State) (p : Nat → Bool) : (r.examineRemaps p).1.SameTables r := by
  unfold examineRemaps
  refine foldl_keeps (fun q : Noted => q.1.SameTables r) _ _ _ rfl fun q x _ hq => ?_
  have step : ∀ c, (q.1.examineRemap c).1.SameTables r := fun c => by
    have rest := congrArg
      (fun v : State => { v with xpMap := r.xpMap, audit := r.audit, link := r.link })
      (q.1.examineRemap_rest c)
    exact rest.trans hq
  split
  · split
    · exact step _
    · exact hq
  · exact hq

/-- Without a call, remaps end none (06, R134). -/
theorem examineRemaps_audit_idle {r : State} (p : Nat → Bool) (idle : r.audit.called = none) :
    (r.examineRemaps p).1.audit = r.audit := by
  unfold examineRemaps
  refine foldl_keeps (fun q : Noted => q.1.audit = r.audit) _ _ _ rfl fun q x _ hq => ?_
  have step : ∀ c, (q.1.examineRemap c).1.audit = r.audit := fun c => by
    rw [examineRemap_not_called (by rw [hq, idle]; simp)]
    exact hq
  split
  · split
    · exact step _
    · exact hq
  · exact hq

section
variable {t r : State}

theorem SameTables.emit {q : Noted} (h : q.1.SameTables r) : q.emit.SameTables r := by
  have rest := congrArg
    (fun v : State => { v with xpMap := r.xpMap, audit := r.audit, link := r.link })
    (q.1.notifyAll_eq q.2)
  exact rest.trans h

theorem SameTables.columns (h : t.SameTables r) : t.columns = r.columns :=
  (congrArg State.columns h :)

theorem SameTables.handovers (h : t.SameTables r) : t.handovers = r.handovers :=
  (congrArg State.handovers h :)

theorem SameTables.col (h : t.SameTables r) (e : Nat) : t.col e = r.col e := col_congr h.columns e

theorem SameTables.handover (h : t.SameTables r) (n : Nat) : t.handover n = r.handover n := by
  rw [State.handover, h.handovers, State.handover]

theorem SameTables.robot (h : t.SameTables r) (a : Nat) : t.robot a = r.robot a :=
  (congrArg (fun v : State => v.robot a) h :)

theorem SameTables.suspends (h : t.SameTables r) (e : Nat) : t.suspends e = r.suspends e :=
  (congrArg (fun v : State => v.suspends e) h :)

theorem SameTables.entryView (h : t.SameTables r) : t.entryView = r.entryView :=
  (congrArg State.entryView h :)

theorem SameTables.freeRoom (h : t.SameTables r) (e : Nat) : t.freeRoom e = r.freeRoom e :=
  (congrArg (fun v : State => v.freeRoom e) h :)

theorem SameTables.remapReady (h : t.SameTables r) (e : Nat) : t.remapReady e = r.remapReady e :=
  (congrArg (fun v : State => v.remapReady e) h :)

end

/-! ### The reconciled state -/

/-- The state a reconcile leaves (07, R144 to R148). -/
def reconciled (s : State) (c : Nat) (ts : List BinTag) : State := (s.reconcileNoted c ts).emit

section
variable {s : State} {c : Nat} {d : Defn} {ts : List BinTag}

theorem reconciled_tables (s : State) (c : Nat) (ts : List BinTag) :
    (s.reconciled c ts).SameTables (s.rewritten c ts) :=
  (examineRemaps_tables _ _).emit

/-- The reconciled column (07, R146, R148). -/
theorem reconciled_col_same (defn : s.defn c = some d) :
    (s.reconciled c ts).col c =
      { s.col c with
        stack := ts.map fun x =>
          match s.handoverByTag x with
          | some h => .tracked h.number
          | none => .foreign x
        causes := ⟨false, false, (s.col c).causes.zone⟩
        verification := .fresh
        seen := false
        settleMark := some ⟨s.time, d.settle⟩ } := by
  have known : (s.col c).defn = some d := defn
  rw [(s.reconciled_tables c ts).col, rewritten_col_same (s.lt_of_defn defn)]
  simp only [Column.settled, known]
  rfl

theorem reconciled_col_stays {e : Nat} (ne : e ≠ c)
    (stays : losesEntry (s.listedRecords ts) e = false) : (s.reconciled c ts).col e = s.col e :=
  ((s.reconciled_tables c ts).col e).trans (rewritten_col_stays ne stays)

/-- Another column a listed record left (07, R145). -/
theorem reconciled_col_left {e : Nat} (ne : e ≠ c)
    (loses : losesEntry (s.listedRecords ts) e = true) (lt : e < s.columns.length) :
    (s.reconciled c ts).col e =
      { s.col e with
        stack := (s.col e).stack.filter fun q =>
          ts.all fun x =>
            match s.handoverByTag x with
            | some h =>
              (match h.custody with
                | .column k _ => !(k == e && q == .tracked h.number)
                | _ => true)
            | none => true
        causes := { (s.col e).causes with discrepancy := true } } := by
  rw [(s.reconciled_tables c ts).col, rewritten_col_left ne lt]
  have entries : ∀ q, staysOn (s.listedRecords ts) e q = ts.all fun x =>
      match s.handoverByTag x with
      | some h =>
        (match h.custody with
          | .column k _ => !(k == e && q == .tracked h.number)
          | _ => true)
      | none => true := fun q => by
    unfold staysOn listedRecords
    rw [List.all_filterMap]
    refine List.all_congr rfl fun x => ?_
    cases s.handoverByTag x with
    | none => rfl
    | some h => cases k : h.custody <;> simp [Handover.standsOn, k]
  unfold Column.leftBy
  rw [loses, Bool.or_true]
  congr 1
  exact List.filter_congr fun q _ => entries q

theorem reconciled_suspends : (s.reconciled c ts).suspends = (s.rewritten c ts).suspends :=
  funext fun e => (s.reconciled_tables c ts).suspends e

/-! ### The audit unit -/

theorem reconciled_audit : (s.reconciled c ts).audit = (s.reconcileNoted c ts).1.audit :=
  notifyAll_audit _ _

theorem reconciled_audit_idle (idle : (s.callEnded c).called = none) :
    (s.reconciled c ts).audit = s.callEnded c := by
  have kept := examineRemaps_audit_idle (r := s.rewritten c ts) (s.reconcileExamines c ts)
    (by rw [rewritten_audit, idle])
  rw [reconciled_audit, reconcileNoted, kept, rewritten_audit]

/-- A reconcile of the called column ends the call (06, R134). -/
theorem reconciled_audit_called (called : s.audit.called = some c) :
    (s.reconciled c ts).audit.state = .idle ∧ (s.reconciled c ts).audit.called = none ∧
      (s.reconciled c ts).audit.callLimit = none ∧
      (s.reconciled c ts).audit.pointer = if c < 95 then c + 1 else 0 := by
  have ended : s.callEnded c = { s.audit with
      state := .idle, called := none, callLimit := none, overdue := false,
      pointer := if c < 95 then c + 1 else 0 } := if_pos called
  have idle : (s.callEnded c).called = none := congrArg AuditUnit.called ended
  rw [reconciled_audit_idle idle, ended]
  exact ⟨rfl, rfl, rfl, rfl⟩

/-- A call on no column stays absent. -/
theorem reconciled_audit_none (called : s.audit.called = none) :
    (s.reconciled c ts).audit = s.audit := by
  have same : s.callEnded c = s.audit := if_neg (by rw [called]; simp)
  exact (reconciled_audit_idle (by rw [same, called])).trans same

/-! ### The remaps -/

theorem rewritten_xpMap : (s.rewritten c ts).xpMap = s.xpMap :=
  (congrArg State.xpMap (s.rewritten_rest c ts) :)

theorem reconciled_xp (x : Nat) : (s.reconciled c ts).xp x = (s.reconcileNoted c ts).1.xp x :=
  xp_congr (notifyAll_xpMap _ _) x

theorem rewritten_pendingRetired (marked : s.PendingRetired) :
    (s.rewritten c ts).PendingRetired := by
  intro x e he pending
  rw [rewritten_retired]
  exact marked x e ((xp_congr rewritten_xpMap x).symm.trans he) pending

/-- The remaps of a reconcile (07, R148). -/
def RemapsOf (s : State) (c : Nat) (ts : List BinTag) (remaps : List Remap) : Prop :=
  (s.rewritten c ts).RemapsBelow (s.reconcileExamines c ts) 80 (s.reconcileNoted c ts) remaps

theorem exists_remapsOf (s : State) (c : Nat) (ts : List BinTag) :
    ∃ remaps, s.MapInjective → s.PendingRetired → s.RemapsOf c ts remaps := by
  by_cases good : s.MapInjective ∧ s.PendingRetired
  · obtain ⟨inj, marked⟩ := good
    obtain ⟨remaps, below⟩ := examineRemaps_spec (s := s.rewritten c ts) (s.reconcileExamines c ts)
      (inj.congr fun y => by rw [xp_congr rewritten_xpMap]) (rewritten_pendingRetired marked)
    exact ⟨remaps, fun _ _ => below⟩
  · exact ⟨[], fun inj marked => absurd ⟨inj, marked⟩ good⟩

section
variable {remaps : List Remap}

/-- The columns examined, beyond the table too, where no remap is pending (07, R148). -/
theorem reconcileExamines_eq {k : Nat} (lt : k < 96) :
    s.reconcileExamines c ts k =
      (k == c || losesEntry (s.listedRecords ts) k ||
        (s.listedRecords ts).any fun h => h.state == .openState && h.column == some k) := by
  have inLosers : (s.losers c ts).contains k = (k != c && losesEntry (s.listedRecords ts) k) := by
    rw [Bool.eq_iff_iff, List.contains_iff_mem, losers, List.mem_filter, List.mem_range]
    exact and_iff_right lt
  unfold reconcileExamines
  rw [inLosers]
  by_cases same : k = c
  · simp [same]
  · rw [bne, beq_eq_false_iff_ne.mpr same, Bool.not_false, Bool.true_and]

theorem RemapsOf.xps (below : s.RemapsOf c ts remaps) (size : s.columns.length = 96)
    (marked : s.PendingRetired) :
    remaps.map (·.1) = (List.range 80).filter fun x =>
      match s.xp x with
      | some e =>
        e.remapPending &&
            (e.column == c || losesEntry (s.listedRecords ts) e.column ||
              (s.listedRecords ts).any fun h => h.state == .openState && h.column == some e.column) &&
            ((s.reconciled c ts).col e.column).stack.isEmpty &&
          (s.reconciled c ts).reservations e.column == 0 &&
          !((s.reconciled c ts).col e.column).inbound && ((s.reconciled c ts).col e.column).op.isNone
      | none => false := by
  refine (RemapsBelow.xps below).trans (List.filter_congr fun x _ => ?_)
  unfold remapsAt
  rw [xp_congr rewritten_xpMap]
  cases he : s.xp x with
  | none => rfl
  | some e =>
    dsimp only
    by_cases pending : e.remapPending = true
    · have lt : e.column < 96 := by
        rw [← size]
        refine s.lt_of_col_ne fun blank => ?_
        have retired := marked x e he pending
        rw [blank] at retired
        cases retired
      rw [reconcileExamines_eq lt, ← (s.reconciled_tables c ts).remapReady]
      simp only [remapReady, Bool.and_assoc]
    · simp [pending]

theorem RemapsOf.kept (below : s.RemapsOf c ts remaps) {x : Nat} (out : x ∉ remaps.map (·.1)) :
    (s.reconciled c ts).xp x = s.xp x :=
  (reconciled_xp x).trans ((RemapsBelow.kept below x out).trans (xp_congr rewritten_xpMap x))

theorem rewritten_fits {i k e : Nat} :
    (s.rewritten c ts).FitsAfter (remaps.take i) k e ↔
      e < 96 ∧ (∃ q, s.defn e = some q ∧ q.zone = s.zoneOf k) ∧ (s.col e).retired = false ∧
        s.mappedBy e = none ∧
        ∀ j < i, ∀ p : Nat × Nat × Option Nat, remaps[j]? = some p → p.2.2 ≠ some e := by
  have zone : (s.rewritten c ts).zoneOf k = s.zoneOf k :=
    congrArg (fun d => (d.map (·.zone)).getD 0) (rewritten_defn k)
  unfold FitsAfter
  rw [rewritten_defn, zone, rewritten_retired, mappedBy_congr rewritten_xpMap, forall_mem_take]

theorem RemapsOf.each (below : s.RemapsOf c ts remaps) {i x k : Nat} {spare : Option Nat}
    (at_ : remaps[i]? = some (x, k, spare)) :
    let fits := fun e : Nat => e < 96 ∧ (∃ q, s.defn e = some q ∧ q.zone = s.zoneOf k) ∧
      (s.col e).retired = false ∧ s.mappedBy e = none ∧
      ∀ j < i, ∀ p : Nat × Nat × Option Nat, remaps[j]? = some p → p.2.2 ≠ some e
    (s.xp x).map (·.column) = some k ∧ (s.reconciled c ts).xp x = spare.map (⟨·, false⟩) ∧
      (∀ e, spare = some e → fits e ∧ ∀ j < e, ¬fits j) ∧ (spare = none → ∀ e, ¬fits e) := by
  obtain ⟨named, written, takes, none⟩ := RemapsBelow.each below i x k spare at_
  rw [xp_congr rewritten_xpMap] at named
  refine ⟨named, (reconciled_xp x).trans written, fun e h => ?_, fun h e fits => ?_⟩
  · obtain ⟨fits, low⟩ := takes e h
    exact ⟨rewritten_fits.mp fits, fun j lt k => low j lt (rewritten_fits.mpr k)⟩
  · exact none h e (rewritten_fits.mpr fits)

theorem RemapsOf.link (below : s.RemapsOf c ts remaps) :
    (s.reconciled c ts).link = (s.notifyAll (remaps.map Remap.notice)).link :=
  (congrArg State.link (RemapsBelow.emit_eq below)).trans
    (notifyAll_link _ (congrArg State.link (s.rewritten_rest c ts) :)
      (congrArg State.time (s.rewritten_rest c ts) :))

theorem RemapsOf.audit (below : s.RemapsOf c ts remaps) {k : Nat}
    (called : s.audit.called = some k) (ne : k ≠ c) :
    (s.reconciled c ts).audit =
      if ∃ p ∈ remaps, p.2.1 = k then
        { s.audit with
          state := .idle, called := none, callLimit := none, overdue := false,
          pointer := if k < 95 then k + 1 else 0 }
      else s.audit := by
  have same : (s.rewritten c ts).audit = s.audit :=
    rewritten_audit.trans (if_neg fun h => ne (Option.some.inj (called.symm.trans h)))
  refine (congrArg State.audit (RemapsBelow.emit_eq below)).trans ?_
  change (s.rewritten c ts).auditAfter remaps = _
  unfold auditAfter callEnded
  rw [same, called]
  simp only [if_true]

theorem RemapsOf.remapped (below : s.RemapsOf c ts remaps) :
    (s.reconcileReport c ts).remapped = remaps.map (·.1) := by
  unfold reconcileReport
  dsimp only
  rw [RemapsBelow.notices below, List.filterMap_map]
  have xps : remappedXp ∘ Remap.notice = some ∘ fun p => p.1 := rfl
  rw [xps, List.filterMap_eq_map]

end

end

end State

end Sys2Proof.Machine
end

section
/-! PROOFS. The records, the robots and the report of a reconcile (07, R144 to R149). O55 is settled
here. -/

namespace Sys2Proof.Machine

namespace State

section
variable {s : State} {c : Nat} {d : Defn} {ts : List BinTag}

theorem mem_listedRecords {h : Handover} :
    h ∈ s.listedRecords ts ↔ ∃ x ∈ ts, s.handoverByTag x = some h := List.mem_filterMap

/-! ### The robots -/

theorem reconciled_robot_emptied {a : Nat} {r : Robot} (known : s.robot a = some r)
    (holds : ∃ x ∈ ts, ∃ h, s.handoverByTag x = some h ∧ h.custody = .robot a) :
    (s.reconciled c ts).robot a = some { r with slot := .empty, loadConfirmed := false } := by
  obtain ⟨x, mem, h, found, at_⟩ := holds
  rw [(s.reconciled_tables c ts).robot, rewritten_robot]
  exact takenOut_robot_emptied (s := s.unlocate c ts) known
    ⟨h, mem_listedRecords.mpr ⟨x, mem, found⟩, at_⟩

theorem reconciled_robot_stays {a : Nat} {r : Robot} (known : s.robot a = some r)
    (stays : ∀ x ∈ ts, ∀ h, s.handoverByTag x = some h → h.custody ≠ .robot a) :
    (s.reconciled c ts).robot a = some r := by
  rw [(s.reconciled_tables c ts).robot, rewritten_robot, ← known]
  refine takenOut_robot_stays (s := s.unlocate c ts) fun h mem => ?_
  obtain ⟨x, inList, found⟩ := mem_listedRecords.mp mem
  exact stays x inList h found

/-! ### The records -/

section
variable {h : Handover}

theorem reconciled_listed {i : Nat} {x : BinTag} (numbers : (s.handovers.map (·.number)).Nodup)
    (nodup : ts.Nodup) (at_ : ts[i]? = some x) (found : s.handoverByTag x = some h) :
    (s.reconciled c ts).handover h.number = some
      { h with
        column := some c
        custody := .column c i
        state := if h.taker = .none then .parked else .staged
        deadline :=
          if h.taker = .none then none
          else some ⟨.collect, s.params.collectLimit * 1000,
            if (s.reconciled c ts).suspends c then .suspended else .running⟩
        uncertain := false } := by
  rw [(s.reconciled_tables c ts).handover, rewritten_listed numbers nodup at_ found,
    reconciled_suspends]

theorem reconciled_unlocated (numbers : (s.handovers.map (·.number)).Nodup)
    (mem : h ∈ s.handovers) (out : h.tag ∉ ts) (stands : .tracked h.number ∈ (s.col c).stack)
    (alone : ∀ e, e ≠ c → .tracked h.number ∉ (s.col e).stack) :
    (s.reconciled c ts).handover h.number = some
      { h with state := .unlocated, column := none, custody := .unlocated, deadline := none } :=
  ((s.reconciled_tables c ts).handover _).trans (rewritten_unlocated numbers mem out stands alone)

/-- The deadline of a record that is not listed, in the terms of the state left (07, R138, R139). -/
def deadlineBy (t : State) (h : Handover) (c : Nat) (hs : List Handover) : Option Deadline :=
  match h.column with
  | some k =>
    if k = c ∨ losesEntry hs k = true then
      h.deadline.map fun q =>
        if q.cond = .stopped then q
        else { q with cond := if t.suspends k then .suspended else .running }
    else h.deadline
  | none => h.deadline

theorem rejudged_reconciled :
    h.rejudged c (s.listedRecords ts) (s.rewritten c ts).suspends =
      (s.reconciled c ts).deadlineBy h c (s.listedRecords ts) := by
  unfold Handover.rejudged deadlineBy
  rw [reconciled_suspends]
  cases h.column <;> simp only [Deadline.judge_eq]

theorem reconciled_stays (numbers : (s.handovers.map (·.number)).Nodup)
    (mem : h ∈ s.handovers) (out : h.tag ∉ ts)
    (absent : ∀ e, e = c ∨ losesEntry (s.listedRecords ts) e = true →
      .tracked h.number ∉ (s.col e).stack) :
    (s.reconciled c ts).handover h.number = some
      { h with deadline := (s.reconciled c ts).deadlineBy h c (s.listedRecords ts) } := by
  rw [(s.reconciled_tables c ts).handover, rewritten_stays numbers mem out absent,
    rejudged_reconciled]

theorem reconciled_moved {e i : Nat} (numbers : (s.handovers.map (·.number)).Nodup)
    (mem : h ∈ s.handovers) (out : h.tag ∉ ts) (ne : e ≠ c)
    (loses : losesEntry (s.listedRecords ts) e = true) (lt : e < s.columns.length)
    (nodup : (s.col e).stack.Nodup) (alone : ∀ k, k ≠ e → .tracked h.number ∉ (s.col k).stack)
    (at_ : ((s.reconciled c ts).col e).stack[i]? = some (.tracked h.number)) :
    (s.reconciled c ts).handover h.number = some
      { h with
        custody := .column e i
        deadline := (s.reconciled c ts).deadlineBy h c (s.listedRecords ts) } := by
  rw [(s.reconciled_tables c ts).col] at at_
  rw [(s.reconciled_tables c ts).handover,
    rewritten_moved numbers mem out ne loses lt nodup alone at_, rejudged_reconciled]

end

/-! ### The report -/

theorem reconcileReport_stack :
    (s.reconcileReport c ts).stack =
      ((s.reconciled c ts).col c).stack.map (s.reconciled c ts).entryView := by
  unfold reconcileReport
  rw [(s.reconciled_tables c ts).col, (s.reconciled_tables c ts).entryView]

theorem reconcileReport_freeRoom :
    (s.reconcileReport c ts).freeRoom = (s.reconciled c ts).freeRoom c := by
  unfold reconcileReport
  rw [(s.reconciled_tables c ts).freeRoom]

theorem reconcileReport_causes :
    (s.reconcileReport c ts).causesLeft = ((s.reconciled c ts).col c).causes := by
  unfold reconcileReport
  rw [(s.reconciled_tables c ts).col]

theorem reconcileReport_others :
    (s.reconcileReport c ts).others =
      (((List.range 96).filter fun e => e != c && losesEntry (s.listedRecords ts) e).map fun e =>
        (e, ((s.reconciled c ts).col e).causes)) := by
  unfold reconcileReport losers
  exact List.map_congr_left fun e _ => by rw [(s.reconciled_tables c ts).col]

end

end State

/-- Settles O55, by the check that fails, else by what the rewriting and the remaps do. -/
theorem reconcileRewritesTheColumn : Obligations.ReconcileRewritesTheColumn := by
  unfold Obligations.ReconcileRewritesTheColumn
  intro tag body c ts s decodes running takes u refuses remaining flying
  have answer := exec_reconcile decodes running takes
  have refused : ∀ st b, takeReconcile (c, ts) u = refuse u st b → refuses st b := fun st b e =>
    answer.trans (by rw [show s.intake 18 tag body = u from rfl, e, refuse_made])
  refine ⟨fun undefined => refused _ _ (takeReconcile_undefined (s := u) undefined),
    fun d defn => ?_⟩
  intro problem
  have list : problem = u.listProblem c d ts := rfl
  refine ⟨fun st b fails => ?_, fun front t rest h e passes split still found flies works => ?_,
    fun passes still full => ?_, fun passes still room numbers _ => ?_⟩
  · exact refused _ _ (takeReconcile_refused (s := u) defn
      (State.reconcileProblem_list (list.symm.trans fails)))
  · subst split
    exact refused _ _ (takeReconcile_refused (s := u) defn
      (State.reconcileProblem_flying (list.symm.trans passes)
        (State.listedInFlight_first (s := u) still found flies) works))
  · have none := State.listedInFlight_none (s := u) still
    exact refused _ _ (takeReconcile_refused (s := u) defn
      ((State.reconcileProblem_room (list.symm.trans passes) none).trans (if_pos full)))
  · have none := State.listedInFlight_none (s := u) still
    have ok := takeReconcile_ok (s := u) defn
      ((State.reconcileProblem_room (list.symm.trans passes) none).trans
        (if_neg (Nat.not_lt.mpr room)))
    have nodup := State.nodup_of_listProblem (list.symm.trans passes)
    have numbers : (u.handovers.map (·.number)).Nodup := numbers
    obtain ⟨remaps, remapsOf⟩ := u.exists_remapsOf c ts
    intro found lost
    refine ⟨u.reconciled c ts, u.reconcileReport c ts, remaps, ?_⟩
    intro judged
    refine ⟨?_, State.reconciled_col_same (s := u) defn, fun e ne stays => ?_,
      fun e ne loses lt => State.reconciled_col_left (s := u) ne loses lt,
      fun i x h at_ known => State.reconciled_listed (s := u) numbers nodup at_ known,
      fun h mem out stands alone => State.reconciled_unlocated (s := u) numbers mem out stands alone,
      fun h mem out absent => State.reconciled_stays (s := u) numbers mem out absent,
      fun h mem out e i ne loses lt kept alone at_ =>
        State.reconciled_moved (s := u) numbers mem out ne loses lt kept alone at_,
      fun a r known => ⟨State.reconciled_robot_emptied (s := u) known,
        State.reconciled_robot_stays (s := u) known⟩,
      fun called => State.reconciled_audit_called (s := u) called, fun inj bounded marked => ?_,
      fun idle => State.reconciled_audit_none (s := u) idle, rfl,
      State.reconcileReport_others (s := u), rfl, State.reconcileReport_stack,
      State.reconcileReport_freeRoom, State.reconcileReport_causes, rfl⟩
    · rw [answer, show s.intake 18 tag body = u from rfl, ok, Answer.made_mk, State.reconciled]
    · exact State.reconciled_col_stays (s := u) ne (Bool.not_eq_true _ ▸ stays)
    · have below := remapsOf inj marked
      intro examined
      exact ⟨below.xps bounded.columns marked, fun x => below.kept, fun i x k spare => below.each,
        below.link, below.remapped, fun k called ne => below.audit called ne⟩

end Sys2Proof.Machine
end
